-- ==== Sys2Proof/Word.lean ====
section
/-! DEFINITION. The plain data the whole model is written over: bytes, byte strings, statuses and register words. -/

namespace Sys2Proof

/-- One byte (00_scope.md R5). -/
abbrev Byte := BitVec 8

/-- A byte string, first byte at the lowest address (00_scope.md R5). -/
abbrev Bytes := List Byte

/-- A 64-bit register (13_register_interface.md R354: every register is 64 bits wide). -/
abbrev Word := BitVec 64

/-- A 16-bit status: class in bits 15:8, detail in bits 7:0 (00_scope.md R8). -/
abbrev Status := BitVec 16

/-- A host function number (00_scope.md Table 0.2): tenants from 0, the Manager 0x400, the MP 0x401. -/
abbrev Func := BitVec 11

end Sys2Proof
end

