-- ==== Sys2Proof/Syntax.lean ====
section
/-! DEFINITION. The commands of the block: one constructor of `Instr` for each row of spec/opcode_table.json, with the row's
operands. An operand that names what the outside world did (a response code, a count of ones, which idle unit takes the work,
what a check found) is the environment's choice; the meaning decides what it brings about. Each constructor's docstring
names the chapter of spec/ and the rule. -/

namespace Sys2Proof

/-- Who makes a register access (13 R353, 14 R385). -/
inductive Source where
  | manager
  | mp
  | function (f : Func)
  /-- The Manager, or the MP, with a write that starts a command in a register-file cycle in which a source of higher priority has been
  served at the same register already: the MP, or the tamper logic with its strike (13 R365, Table 13.2; log 28). -/
  | outranked (mp : Bool)
deriving DecidableEq, Repr

/-- The size and alignment of a register access (13 R354). -/
inductive AccSize where
  | w64
  | w32
  | other
deriving DecidableEq, Repr

/-- A register read as it comes: who reads, how much, and where (13 R353, R354). -/
structure PortRead where
  src : Source
  size : AccSize
  offset : BitVec 20
deriving DecidableEq, Repr

/-- A word written to MODE_REQ, and whether an IMAGE_RESTORE has succeeded in the same register-file cycle (12 Table 12.11). -/
structure ModeWord where
  value : Word
  restored : Bool
deriving DecidableEq, Repr

/-- RESP of a fabric port's answer (14 R380), and whether what the port passes on fails its parity where it arrives (01 R12). -/
structure PortAnswer where
  resp : BitVec 2
  crossing : Bool
deriving DecidableEq, Repr

/-- Where a TRIPLE field is held (13 Table 13.4, VOTE_STATUS.AREA). -/
inductive TripleArea where
  | registerFile
  | callSheet
  | keyStore
  | alwaysOn
deriving DecidableEq, Repr

/-- What a vote of the three copies finds (13 R362, R363). -/
inductive Vote where
  | agree
  | differs (copy : Fin 3)
  | unequal (copy0 : Word)
deriving DecidableEq, Repr

/-- What the checks before release find at a unit (16 Table 16.1). -/
inductive UnitCheck where
  | passed
  | parity
  | inverse
  | comparator
  | result
  | crossing
deriving DecidableEq, Repr

/-- What the parity checks find at a sequencer's code (16 Table 16.1): at the sequencer's own accesses (CAUSE 0xA), or where what it sends
arrives (CAUSE 0x2, 01 R12). -/
inductive SeqCheck where
  | passed
  | parity
  | crossing
deriving DecidableEq, Repr

/-- What the RNG island's checks of 09 R263 find. -/
inductive RngCheck where
  | passed
  | drbgKat
  | parity
  | conditionerKat
deriving DecidableEq, Repr

/-- The monitored level of a feed (11 R306, 15 Table 15.2). -/
inductive FeedLevel where
  | good
  | warning
  | lost
deriving DecidableEq, Repr

/-- A firmware image as the MP reads it from host memory (15 R426, R428). -/
inductive FwRead where
  | image (bytes : Bytes)
  | busError
  | busPoison
deriving DecidableEq, Repr

/-- The self-test items of 12 Table 12.6, with the unit where a kind has several. -/
inductive TestItem where
  | vault
  | epochCeiling
  | drk
  | idk
  | registerFile
  | keyStore
  | sequencer (i : Nat)
  | lane (i : Nat)
  | engine (i : Nat)
  | digest (i : Nat)
  | standardCore (i : Nat)
  | shieldedCore (i : Nat)
  | rng
deriving DecidableEq, Repr

/-- What wakes the core from DROWSE (12 R343). -/
inductive WakeCause where
  | access
  | alarm
  | domain (d : Fin 16)
deriving DecidableEq, Repr

/-- The faults of 15 Table 15.1. -/
inductive MeshFault where
  | openLine
  | shortPair
  | shortRail
  | pattern
  | drift
deriving DecidableEq, Repr

/-- The sensors of 15 Table 15.2; their values are in units of 1/16 °C, mV, pA, 10 ppm and per cent of the nominal cycle. -/
inductive Sensor where
  | temperature (i : Fin 4)
  | vddCore
  | vddSram
  | vddAo
  | feed (b : Bool)
  | light
  | refclk
  | clockGlitch
deriving DecidableEq, Repr

/-- How an access command reaches the MP (15 R432, R433). -/
inductive AccessPath where
  | mailbox (src : Source)
  | console (frame : Bytes)
deriving DecidableEq, Repr

/-- Who asks the RNG for bytes (09 R262): a take, PACKAGE_EXPORT, CHECKPOINT, SET_PASSWORD (15 R430), or the ephemeral key generation of a
pairing attempt (11 R309). -/
inductive Asker where
  | take (id : Nat)
  | package
  | checkpoint
  | password
  | ephemeral
deriving DecidableEq, Repr

/-- The commands. -/
inductive Instr where
  /-- WRITE_REGISTER. 13 R357: a write at the register port (or the MP's internal path) to any offset. -/
  | writeRegister (src : Source) (size : AccSize) (offset : BitVec 20) (value : Word)
  /-- UNLOCK. 13 R358: a 64-bit write of UNLOCK. -/
  | unlock (src : Source) (value : Word)
  /-- LOCK_REARM. 13 R359: the 1 µs of an open lock ends. -/
  | lockRearm (src : Source)
  /-- TRIPLE_SCRUB. 13 R362, R363: the scrubber votes one TRIPLE field and finds its copies so. -/
  | tripleScrub (area : TripleArea) (loc : BitVec 32) (found : Vote)
  /-- EVT_TEST. 13 R370: a 64-bit write of EVT_TEST. -/
  | evtTest (src : Source) (value : Word)
  /-- EVT_ENABLE_WRITE. 13 R371: a write of EVT_ENABLE0 to 3 (0 to 3) or EVT_CTRL (4). -/
  | evtEnableWrite (src : Source) (reg : Fin 5) (value : Word)
  /-- EVT_VECTOR_WRITE. 13 R372, R373: a write of a vector's ADDR word, or of its DATA and CTRL word. -/
  | evtVectorWrite (src : Source) (vec : BitVec 8) (upper : Bool) (value : Word)
  /-- EVENT_MESSAGE_WRITE. 13 R372: the message started on a vector is issued. -/
  | eventMessageWrite (vec : BitVec 8)
  /-- REEL_DOORBELL. 02 R46, R47: a 64-bit write of REEL_DOORBELL. -/
  | reelDoorbell (tenant : Func) (value : Word)
  /-- DAILIES_DOORBELL. 02 R46, R47: a 64-bit write of DAILIES_DOORBELL. -/
  | dailiesDoorbell (tenant : Func) (value : Word)
  /-- CREATE_DAILIES. 02 R60: RC_COMMAND 0x01. -/
  | createDailies (tenant : Func) (index : BitVec 20)
  /-- CREATE_REEL. 02 R60: RC_COMMAND 0x02. -/
  | createReel (tenant : Func) (index : BitVec 20)
  /-- DESTROY_REEL. 02 R60: RC_COMMAND 0x03. -/
  | destroyReel (tenant : Func) (index : BitVec 20)
  /-- DESTROY_DAILIES. 02 R60: RC_COMMAND 0x04. -/
  | destroyDailies (tenant : Func) (index : BitVec 20)
  /-- ABORT_REEL. 02 R62: RC_COMMAND 0x05. -/
  | abortReel (tenant : Func) (index : BitVec 20)
  /-- RESET_REEL_RESUME. 02 R60: RC_COMMAND 0x06 mode 0. -/
  | resetReelResume (tenant : Func) (index : BitVec 20)
  /-- RESET_REEL_SKIP. 02 R60: RC_COMMAND 0x06 mode 1. -/
  | resetReelSkip (tenant : Func) (index : BitVec 20)
  /-- RESET_REEL_DISCARD. 02 R60: RC_COMMAND 0x06 mode 2. -/
  | resetReelDiscard (tenant : Func) (index : BitVec 20)
  /-- RESET_DAILIES. 02 R60: RC_COMMAND 0x07. -/
  | resetDailies (tenant : Func) (index : BitVec 20)
  /-- PAUSE_REEL. 02 R60: RC_COMMAND 0x08 mode 0. -/
  | pauseReel (tenant : Func) (index : BitVec 20)
  /-- PAUSE_REEL_RESUME. 02 R60: RC_COMMAND 0x08 mode 1. -/
  | pauseReelResume (tenant : Func) (index : BitVec 20)
  /-- QUERY_REEL. 02 R60: RC_COMMAND 0x09. -/
  | queryReel (tenant : Func) (index : BitVec 20)
  /-- QUERY_DAILIES. 02 R60: RC_COMMAND 0x0A. -/
  | queryDailies (tenant : Func) (index : BitVec 20)
  /-- CONTEXT_FETCH_COMPLETION. 02 R44: the context whose read has been answered is taken into the cache. -/
  | contextFetchCompletion (tenant : Func) (isDailies : Bool) (index : BitVec 20)
  /-- CONTEXT_WRITEBACK_TIMER. 02 R43: 1 ms after a cached context first changed. -/
  | contextWritebackTimer (tenant : Func) (isDailies : Bool) (index : BitVec 20)
  /-- AGE_TIMER_EXPIRY. 02 R50, R51: a reel's age timer expires. -/
  | ageTimerExpiry (tenant : Func) (reel : BitVec 20)
  /-- SCHEDULER_ROUND. 10 R285: one round; the idle sequencers its grants hold, in order, until the 10 µs end. -/
  | schedulerRound (seqs : List Nat)
  /-- BUCKET_REFILL. 10 R286: one 1 µs refill of every bucket. -/
  | bucketRefill
  /-- ADMISSION. 01 R17: the oldest undecided slate of a reel is admitted or refused. -/
  | admission (tenant : Func) (reel : BitVec 20)
  /-- EXT_PROGRAM_READ. 03 R69: the extended program of the slate at a ring index has been answered. -/
  | extProgramRead (tenant : Func) (reel : BitVec 20) (slot : BitVec 16)
  /-- MOVE. 03 R75: the take's next code is a MOVE; found: the parity checks of the sequencer (16 R436). -/
  | move (take : Nat) (found : SeqCheck)
  /-- MOVI. 03 R81. -/
  | movi (take : Nat) (found : SeqCheck)
  /-- LOOP. 03 R82. -/
  | loop (take : Nat) (found : SeqCheck)
  /-- WAIT. 03 R86. -/
  | wait (take : Nat) (found : SeqCheck)
  /-- SIGNAL. 03 R88. -/
  | signal (take : Nat) (found : SeqCheck)
  /-- KEY. 03 R89; tagOk: the integrity tag of each slot read verifies (08 R232). -/
  | key (take : Nat) (found : SeqCheck) (tagOk : Bool)
  /-- OP. 03 R92; unit: the idle unit of the kind to which the OP is issued. -/
  | op (take : Nat) (found : SeqCheck) (unit : Nat)
  /-- CHECK. 03 R96. -/
  | check (take : Nat) (found : SeqCheck)
  /-- SKIP. 03 R98. -/
  | skip (take : Nat) (found : SeqCheck)
  /-- END. 03 R99. -/
  | endCode (take : Nat) (found : SeqCheck)
  /-- PARK_TIMEOUT_EXPIRY. 03 R103: a park has lasted longer than PARK_TIMEOUT. -/
  | parkTimeoutExpiry (take : Nat)
  /-- DAILY_WRITE. 01 R22: an ended take's daily is written. -/
  | dailyWrite (take : Nat)
  /-- DAILY_PARK_TIMEOUT. 02 R57: a daily write has waited longer than PARK_TIMEOUT. -/
  | dailyParkTimeout (tenant : Func) (dailies : BitVec 20)
  /-- ABORTED_DAILY_WRITE. 02 R64: the next unread slate of an aborted reel is answered. -/
  | abortedDailyWrite (tenant : Func) (reel : BitVec 20)
  /-- DAILIES_MESSAGE_WRITE. 02 R53: a due dailies message is issued. -/
  | dailiesMessageWrite (tenant : Func) (dailies : BitVec 20)
  /-- MODERATION_TIMER_EXPIRY. 02 R53: MOD_TIME has passed since MOD_START. -/
  | moderationTimerExpiry (tenant : Func) (dailies : BitVec 20)
  /-- MESSAGE_PARK_TIMEOUT. 02 R459: a waiting message has waited longer than PARK_TIMEOUT. -/
  | messageParkTimeout (tenant : Func) (dailies : BitVec 20)
  /-- FABRIC_READ_RESPONSE. 14 R380: a read response; data are the bytes of the request, in address order. -/
  | fabricReadResponse (port : Bool) (tag : BitVec 10) (data : Bytes) (resp : PortAnswer)
  /-- FABRIC_WRITE_RESPONSE. 14 R380: a write response. -/
  | fabricWriteResponse (port : Bool) (tag : BitVec 10) (resp : PortAnswer)
  /-- FABRIC_PORT_RESET. 14 R382: FPn_RST_N is asserted. -/
  | fabricPortReset (port : Bool)
  /-- LANE_OP_COMPLETION. 01 R24: a lane OP ends and its checks find this. -/
  | laneOpCompletion (lane : Nat) (found : UnitCheck)
  /-- ENGINE_SEGMENT_END. 04 R124: a wide engine ends a segment. -/
  | engineSegmentEnd (engine : Nat) (found : UnitCheck)
  /-- DIGEST_OP_COMPLETION. 06 R187: a digest OP ends. -/
  | digestOpCompletion (unit : Nat) (found : UnitCheck)
  /-- PK_OP_COMPLETION. 07 R214: a public-key OP reaches the end of its fixed time. -/
  | pkOpCompletion (shielded : Bool) (core : Nat) (found : UnitCheck)
  /-- TAKE_REEXECUTION. 16 R439: a stopped take restarts on an idle sequencer. -/
  | takeReexecution (take : Nat) (seq : Nat)
  /-- UNCONTAINABLE_FAULT. 16 R443: a fault that no fence contains. -/
  | uncontainableFault
  /-- DD_START. 06 R190: a 64-bit write of DD_CTRL with CMD 0b01. -/
  | ddStart (src : Source) (value : Word)
  /-- DD_DATA. 06 R191: a 64-bit write of DD_DATA. -/
  | ddData (src : Source) (value : Word)
  /-- DD_FINISH. 06 R193: a 64-bit write of DD_CTRL with CMD 0b10. -/
  | ddFinish (src : Source) (value : Word)
  /-- DD_CANCEL. 06 R193: a 64-bit write of DD_CTRL with CMD 0b11. -/
  | ddCancel (src : Source) (value : Word)
  /-- DD_COMPRESSION_DONE. 06 R191: the block under compression is done. -/
  | ddCompressionDone
  /-- DD_TIMEOUT. 06 R193: the owner has written nothing for 1 ms. -/
  | ddTimeout
  /-- KUM. 08 R237: the KUM whose words have all arrived is checked; tagFault: the slot it reads whose TAG fails (R232). -/
  | kum (tagFault : Option (BitVec 17))
  /-- KUM_COMMIT. 08 R240: the checked KUM commits. -/
  | kumCommit
  /-- IMAGE_EXPORT. 08 R245: KM_CTRL 0x02; tagFault as in KUM. -/
  | imageExport (src : Source) (tagFault : Option (BitVec 17))
  /-- IMAGE_RESTORE. 08 R246: the image whose words have all arrived is checked and restored. -/
  | imageRestore
  /-- SLOT_QUERY. 08 R244: KM_CTRL 0x04. -/
  | slotQuery (src : Source)
  /-- FLOOR. 08 R248: KM_CTRL 0x05. -/
  | floor (src : Source)
  /-- PACKAGE_EXPORT. 08 R247: KM_CTRL 0x06; tagFault as in KUM. -/
  | packageExport (src : Source) (tagFault : Option (BitVec 17))
  /-- PACKAGE_IMPORT. 08 R247: the package whose words have all arrived is verified and installed. -/
  | packageImport
  /-- READ_CERT. 08 R244: KM_CTRL 0x08. -/
  | readCert (src : Source)
  /-- ABORT. 08 R244: KM_CTRL 0x0F. -/
  | abort (src : Source)
  /-- KM_DATA_WRITE. 08 R244: a 64-bit write of KM_DATA. -/
  | kmDataWrite (src : Source) (value : Word)
  /-- KM_DATA_READ. 08 R244, 13 R354: a register read, of KM_DATA at offset 0x0_6010; the table has no other row for a read (log 34). -/
  | kmDataRead (read : PortRead)
  /-- MASK_REFRESH. 08 R232: every mask is replaced. -/
  | maskRefresh
  /-- ATTEST_CHALLENGE. 08 R251: AT_CMD 0x01. -/
  | attestChallenge (tenant : Func)
  /-- ATTEST_SLOT_QUERY. 08 R251: AT_CMD 0x02. -/
  | attestSlotQuery (tenant : Func)
  /-- TRIM_WINDOW_END. 09 R255: a source's 1,024-sample trim window ends with this count of ones. -/
  | trimWindowEnd (source : Fin 16) (ones : Nat)
  /-- TRIM_TIMEOUT. 09 R259: 40 ms in TRIM without an in-band window. -/
  | trimTimeout (source : Fin 16)
  /-- REPETITION_COUNT_FAILURE. 09 R257: 41 successive equal first-stage bits. -/
  | repetitionCountFailure (source : Fin 16)
  /-- ADAPTIVE_PROPORTION_WINDOW_END. 09 R257, R258: a window of 1,024 first-stage bits ends, 128 bytes, the first bit in bit 7 of the first byte. -/
  | adaptiveProportionWindowEnd (source : Fin 16) (bits : Bytes)
  /-- STARTUP_COMPLETE. 09 R259: 4,096 startup bits have passed. -/
  | startupComplete (source : Fin 16)
  /-- SEED_READY. 09 R260, R261, R263: 4,096 released bits are conditioned into a seed; the known-answer tests find this. -/
  | seedReady (found : RngCheck)
  /-- DRBG_GENERATE. 09 R261: a 4,096-byte request completes. -/
  | drbgGenerate (found : RngCheck)
  /-- RESEED_DUE. 09 R261. -/
  | reseedDue
  /-- RESEED_STALL. 09 R264. -/
  | reseedStall
  /-- RNG_REQUEST_TIMEOUT. 09 R265: a request has waited 100 ms. -/
  | rngRequestTimeout (who : Asker)
  /-- RESTART. 09 R267: RNG_CTRL.RESTART is written 1. -/
  | restart (src : Source)
  /-- RESEED. 09 R261: RNG_CTRL.RESEED is written 1. -/
  | reseed (src : Source)
  /-- PATTERN. 09 R274: RNG_CTRL.PATTERN is written. -/
  | pattern (src : Source) (on : Bool)
  /-- RNG_SRC_CFG_WRITE. 09 R275: a 64-bit write of RNG_SRC_CFG. -/
  | rngSrcCfgWrite (src : Source) (value : Word)
  /-- RNG_RESEED_WRITE. 09 R275: a 64-bit write of RNG_RESEED. -/
  | rngReseedWrite (src : Source) (value : Word)
  /-- CREATE. 10 R281: CS_CMD 0x01. -/
  | create (src : Source) (tenant : Func)
  /-- CHANGE. 10 R287: CS_CMD 0x02. -/
  | change (src : Source) (tenant : Func)
  /-- PAUSE. 10 R288: CS_CMD 0x03. -/
  | pause (src : Source) (tenant : Func)
  /-- PAUSE_COMPLETE. 10 R289: a PAUSING tenant's last work is done. -/
  | pauseComplete (tenant : Func)
  /-- RESUME. 10 R290: CS_CMD 0x04. -/
  | resume (src : Source) (tenant : Func)
  /-- REMOVE. 10 R291: CS_CMD 0x05. -/
  | remove (src : Source) (tenant : Func)
  /-- READ. 10 R279: CS_CMD 0x06. -/
  | read (src : Source) (tenant : Func)
  /-- READ_IMPORTED. 10 R292: CS_CMD 0x07. -/
  | readImported (src : Source) (tenant : Func)
  /-- START_LOG. 10 R293: MIG_CMD 0x01. -/
  | startLog (src : Source) (tenant : Func)
  /-- SWAP. 10 R296: MIG_CMD 0x02. -/
  | swap (src : Source) (tenant : Func)
  /-- STOP_LOG. 10 R296: MIG_CMD 0x03. -/
  | stopLog (src : Source) (tenant : Func)
  /-- QUERY. 10 R293: MIG_CMD 0x04. -/
  | query (src : Source) (tenant : Func)
  /-- TWIN_CFG_WRITE. 11 R302, R303: a 64-bit write of TWIN_CFG. -/
  | twinCfgWrite (src : Source) (value : Word)
  /-- ML_PEER_KEY_WRITE. 11 R304: a 64-bit write of ML_PEER_KEY11. -/
  | mlPeerKeyWrite (src : Source) (value : Word)
  /-- PAIRING_START. 11 R309 step 1. -/
  | pairingStart
  /-- EPHEMERAL_KEYGEN_COMPLETE. 11 R309 step 2. -/
  | ephemeralKeygenComplete
  /-- HELLO. 11 R309 step 3; bad: RX_BAD (14 R400). -/
  | hello (port : Bool) (frame : Bytes) (bad : Bool)
  /-- LINK_ECDH_COMPLETE. 11 R309 step 4. -/
  | linkEcdhComplete
  /-- CONFIRM_FRAME. 11 R309 step 5, R310. -/
  | confirmFrame (port : Bool) (frame : Bytes) (bad : Bool)
  /-- CONFIRM_TIMEOUT. 11 Table 11.6 0x6. -/
  | confirmTimeout
  /-- HELLO_RETRY. 11 R309: 10 ms after a refusal. -/
  | helloRetry
  /-- SYNC. 11 R311. -/
  | sync (port : Bool) (frame : Bytes) (bad : Bool)
  /-- RECORD_CLOSE. 11 R313: PERIOD µs have passed. -/
  | recordClose
  /-- RECORD. 11 R314. -/
  | record (port : Bool) (frame : Bytes) (bad : Bool)
  /-- NOTICE. 11 R317. -/
  | notice (port : Bool) (frame : Bytes) (bad : Bool)
  /-- PARTNER_SILENCE. 11 R317. -/
  | partnerSilence
  /-- ML_PORT_UP_CHANGE. 11 R305, 14 R399: MLx_UP rises or falls. -/
  | mlPortUpChange (port : Bool) (up : Bool)
  /-- FEED_CHANGE. 11 R306: a feed's monitored level changes. -/
  | feedChange (feedB : Bool) (level : FeedLevel)
  /-- MODE_REQ_HOLD. 12 R328: a 64-bit write of MODE_REQ with TARGET 0x1. -/
  | modeReqHold (src : Source) (value : Word)
  /-- MODE_REQ_RESET. 12 R328: TARGET 0x2, DRAIN 1. -/
  | modeReqReset (src : Source) (value : Word)
  /-- MODE_REQ_RESET_NO_DRAIN. 12 R329: TARGET 0x2, DRAIN 0. -/
  | modeReqResetNoDrain (src : Source) (value : Word)
  /-- MODE_REQ_CEREMONY. 12 R340: TARGET 0x5. -/
  | modeReqCeremony (src : Source) (value : Word)
  /-- MODE_REQ_OPERATIONAL. 12 R337: TARGET 0x6. -/
  | modeReqOperational (src : Source) (value : ModeWord)
  /-- MODE_REQ_DROWSE. 12 R341: TARGET 0x8. -/
  | modeReqDrowse (src : Source) (value : Word)
  /-- MODE_REQ_FACTORY. 12 R345: TARGET 0xA. -/
  | modeReqFactory (src : Source) (value : Word)
  /-- MODE_REQ_STRUCK. 12 R345: TARGET 0xB; zeroOk: the zero checks of Table 15.3 step 5 pass. -/
  | modeReqStruck (src : Source) (value : Word) (zeroOk : Bool)
  /-- MODE_REQ_RETIRED. 12 R346: TARGET 0xC. -/
  | modeReqRetired (src : Source) (value : Word) (zeroOk : Bool)
  /-- ARMED_LAPSE. 12 R346: 1 ms after the first RETIRED request. -/
  | armedLapse
  /-- DRAIN_COMPLETE. 12 R328 step 5. -/
  | drainComplete
  /-- SUPPLY_LOSS. 14 R403: VDD_CORE_OK or VDD_SRAM_OK falls. -/
  | supplyLoss (sram : Bool)
  /-- RESET_INPUT. 14 R402: CORE_RST_N goes low for so many ns. -/
  | resetInput (lowNs : Nat)
  /-- RESET_RELEASE. 14 R402: CORE_RST_N is released. -/
  | resetRelease
  /-- ISLAND_START_COMPLETE. 12 R348, R349. -/
  | islandStartComplete (island : Nat)
  /-- FIRMWARE_AUTHENTICATED. 15 R427: what the boot ROM read: vault block 1 and the candidate images in the order tried. -/
  | firmwareAuthenticated (block1 : Option Bytes) (images : List FwRead)
  /-- FIRMWARE_RETRY. 15 R427: the next attempt, 1 s after a failed one. -/
  | firmwareRetry (block1 : Option Bytes) (images : List FwRead)
  /-- SELFTEST_ITEM_COMPLETE. 12 R332. -/
  | selftestItemComplete (item : TestItem) (passed : Bool)
  /-- DROWSE_WAKE. 12 R343. -/
  | drowseWake (cause : WakeCause)
  /-- DROWSE_REFRESH_PASS. 12 R342. -/
  | drowseRefreshPass
  /-- GF_CTRL_WRITE. 12 R350: a 64-bit write of GF_CTRL. -/
  | gfCtrlWrite (src : Source) (value : Word)
  /-- CLOCK_GATE_IDLE. 12 R348. -/
  | clockGateIdle (island : Nat)
  /-- POWER_GATE_IDLE. 12 R348. -/
  | powerGateIdle (island : Nat)
  /-- DOMAIN_SLEEP_REQ_RISE. 14 R389. -/
  | domainSleepReqRise (d : Fin 16)
  /-- DOMAIN_SLEEP_REQ_FALL. 14 R389. -/
  | domainSleepReqFall (d : Fin 16)
  /-- VAULT_RESPONSE. 14 R392: a vault message of 184 bytes arrives. -/
  | vaultResponse (message : Bytes)
  /-- VAULT_TIMEOUT. 14 R393: 100 ms without a response. -/
  | vaultTimeout
  /-- BYPASS. 14 R407. -/
  | bypass
  /-- IDCODE. 14 R407. -/
  | idcode
  /-- SAMPLE_PRELOAD. 14 R407. -/
  | samplePreload
  /-- EXTEST. 14 R408. -/
  | extest
  /-- CLAMP. 14 R408. -/
  | clamp
  /-- HIGHZ. 14 R408. -/
  | highz
  /-- ABABRY_TEST_INSTRUCTION. 14 R408. -/
  | ababryTestInstruction
  /-- MESH_FAULT. 15 R411: a classification of Table 15.1 has held for its samples; value: the loop resistance. -/
  | meshFault (channel : Fin 8) (kind : MeshFault) (value : BitVec 16) (zeroOk : Bool)
  /-- MESH_DRIFT_WARNING. 15 R411: 16 samples beyond the warning drift. -/
  | meshDriftWarning (channel : Fin 8) (value : BitVec 16)
  /-- SENSOR_CONDITION. 15 R414: a sensor has read this value for its filter time. -/
  | sensorCondition (sensor : Sensor) (value : Int) (zeroOk : Bool)
  /-- GUARD_RELEASE. 15 R413: the GUARD condition has been absent for 1 ms. -/
  | guardRelease
  /-- STRIKE_OUT_FALL. 15 Table 15.3 step 7. -/
  | strikeOutFall
  /-- STRIKE_CLEAR_REPEAT. 15 R419. -/
  | strikeClearRepeat (zeroOk : Bool)
  /-- WATCHDOG_EXPIRY. 15 R421. -/
  | watchdogExpiry
  /-- LB_SEL_WRITE. 15 R425. -/
  | lbSelWrite (src : Source) (value : Word)
  /-- LB_ACK_WRITE. 15 R424. -/
  | lbAckWrite (src : Source) (value : Word)
  /-- CHECKPOINT. 15 R425: LB_CMD 0x01. -/
  | checkpoint (src : Source)
  /-- MESH_ENROL. 15 R412: TP_CMD 0x01. -/
  | meshEnrol (src : Source)
  /-- STAGE. 15 R428: a 64-bit write of FW_CMD with CMD 0x01; the MP reads the image at FW_ARG over the fabric. -/
  | stage (src : Source) (value : Word)
  /-- CONFIRM. 15 R428: FW_CMD 0x02. -/
  | confirm (src : Source)
  /-- SET_PASSWORD. 15 R430: the input of AC_CMD 0x01 has all arrived. -/
  | setPassword
  /-- SET_OFFICER. 15 R430: the input of AC_CMD 0x02 has all arrived. -/
  | setOfficer
  /-- CHALLENGE. 15 R431: AC_CMD 0x03, or the console command 0x20. -/
  | challenge (via : AccessPath)
  /-- RESPONSE. 15 R431: the input of AC_CMD 0x04 has all arrived, or the console command 0x21. -/
  | response (via : AccessPath)
  /-- CHALLENGE_EXPIRY. 15 R431: CORE_TIME reaches EXPIRES. -/
  | challengeExpiry
  /-- DIAG_OPEN. 15 R429, R432: a console frame with command 0x10. -/
  | diagOpen (frame : Bytes)
  /-- CONSOLE_READ. 15 R432: a console frame with command 0x11. -/
  | consoleRead (frame : Bytes)
  /-- LOG_READ. 15 R432: a console frame with command 0x12. -/
  | logRead (frame : Bytes)
  /-- CLOSE. 15 R432: a console frame with command 0x13. -/
  | close (frame : Bytes)
  /-- DIAG_SESSION_TIMEOUT. 15 R429: 30 minutes without a command. -/
  | diagSessionTimeout
  /-- DIAG_LOCKOUT_END. 15 R429. -/
  | diagLockoutEnd
  /-- FENCE. 16 R445: US_CMD 0x01. -/
  | fence (src : Source) (kind : BitVec 4) (index : BitVec 10)
  /-- UNFENCE. 16 R445: US_CMD 0x02; passed: the unit's item of Table 12.6. -/
  | unfence (src : Source) (kind : BitVec 4) (index : BitVec 10) (passed : Bool)
  /-- SUPPLY_RETURN. 12 R330. -/
  | supplyReturn
  /-- POWER_ON. 12 R330: VDD_AO rises from absent. -/
  | powerOn
  /-- RNG_OPERATION_COMPLETE. 09 R272: an RNG-island operation of a take ends. -/
  | rngOperationComplete (take : Nat)
  /-- CHALLENGE_REFUSAL_LAPSE. 15 R431: 60 s after three refusals. -/
  | challengeRefusalLapse
  /-- MESH_ENROL_COMPLETE. 15 R412: the eight channels' means of 1,024 samples. -/
  | meshEnrolComplete (means : List (BitVec 16))
deriving DecidableEq, Repr

end Sys2Proof
end

