-- ==== Sys2Proof/Decode.lean ====
section
/-! DEFINITION. The block takes commands, not encoded instructions: no row of spec/opcode_table.json has bits, so no word
spells a command. -/

namespace Sys2Proof

/-- The command a word of the table spells: none, since the table gives no row any bits. -/
def decodeTableWord (nbits w : Nat) : Option Instr :=
  match nbits, w with
  | _, _ => none

end Sys2Proof
end

