-- ==== Sys2Proof/Config.lean ====
section
/-! DEFINITION. The values the specification leaves open. Each is a constant without a body, so that nothing can be
proved of its value; every statement that meets one holds for all of its values. -/

namespace Sys2Proof.Config

/-- Whether a CORE_RST_N pulse of 10 ns to 100 ns is taken as a full reset input (14_boundary_ports.md R402: "which of
the two is not defined"). Argument: the model's own free-value counter. Log 10. -/
opaque shortPulseResets : Nat → Bool

/-- The random values of an RSA key generation (07_public_key_cores.md R213, which does not say how they come from the drawn bytes): 0 and 1
are the start values of p and q, the rest the bases of the further Miller–Rabin rounds. Log 11. -/
opaque primeValues : Nat → Bytes → Nat

/-- The Miller–Rabin rounds FIPS 186-5 requires for a prime of some bits, on which 07_public_key_cores.md R213 relies. Log 11. -/
opaque primeRounds : Nat → Nat

/-- How many bytes of randomness an operation's factor, random representations and sieve starts take beside the 64-bit multiples
(07_public_key_cores.md R216, R218: the values are recorded, their number is not given); of 0, those of the IDK check (12_modes_and_power.md
R334). Log 12. -/
opaque blindingBytes : Nat → Nat

/-- How many bytes the order of a shielded core's slots takes (07_public_key_cores.md R219: drawn, the number not given). Log 12. -/
opaque foleyBytes : Nat → Nat

/-- What comes of a segmented message that passes what BYTES counts or FIPS 180-4 allows (06_digest_units.md R182 states neither): from its
length, so many bytes of a BYTES field or of a digest. Log 94. -/
opaque pastLength : Nat → Nat → Bytes

/-- The choices by which a start's derivation permutes the cell addresses (08_key_store_and_key_updates.md R232, 12_modes_and_power.md R334: the
permutation is derived, not how): from the derived bytes, the choice at each place. Log 95. -/
opaque cellPick : Bytes → Nat → Nat

/-- The fixed-base table of a signing key's public point (07_public_key_cores.md Table 7.7, 08 R233: its multiples and layout are not given),
from the class and the public part. Log 93. -/
opaque fixedBaseTable : Nat → Bytes → Bytes

/-- The reduction constants of an RSA modulus (08 R233: not given). Log 93. -/
opaque reductionConstants : Nat → Bytes

/-- The masks of the key-store cells (08_key_store_and_key_updates.md R232): the 56-byte mask of a cell from the
refresh count and the slot number; no source or generator is stated. Log 13. -/
opaque cellMask : Nat → Nat → Bytes

/-- Raw noise-source samples (09_random_numbers.md R254) taken outside any command that carries them: the vault nonce's
second half, the mesh seed, the maintenance challenge. Argument: the free-value counter and the number of bytes. Log 14. -/
opaque rawSamples : Nat → Nat → Bytes

/-- How many random bytes a PIN translation into format 1 or 3 reserves where the incoming block does not decode, so that there is no N
(05_payment_operations.md R156: 16 − 2 − N nibbles). From the parameter block; taken modulo 6. Log 69. -/
opaque pinFillBytes : Bytes → Nat

/-- The IDK certificate Ababry issues, DER-encoded (08_key_store_and_key_updates.md R249), from the IDK public key. Log 16. -/
opaque idkCertificate : Bytes → Bytes

/-- A result the spec does not state for an operand it does not exclude: the free-value counter, then the number of bytes. Log 17. -/
opaque unstated : Nat → Nat → Bytes

/-- RP_REQ_TAG of each access in turn: the containing chip's choice (14 Table 14.4, log 101). -/
opaque accessTag : Nat → BitVec 6

/-- An 8-byte field of a logbook entry for which 15_tamper_and_management.md Table 15.5 lists several values without their
places. Log 18. -/
opaque packed : List Nat → Nat

/-- How the lane turns drawn bytes into the fill nibbles of a format 3 PIN block (05_payment_operations.md Table 5.4: "Random
0xA to 0xF, drawn by the core and uniformly distributed"; the mapping is not given): nibble i is 10 plus this value modulo 6.
Log 19. -/
opaque fillDigit : Bytes → Nat → Nat

/-- Which of the key usages and modes that 08_key_store_and_key_updates.md Table 8.10 gives for one usage KEY_EXPORT writes (R243:
"the code and mode whose usage equals the exported usage"; several do for MAC, CVC and BDK keys). From the usage. Log 21. -/
opaque x143Pick : Nat → Nat

end Sys2Proof.Config
end

