-- ==== Sys2Proof/Machine/Bits.lean ====
section
/-! DEFINITION. Byte strings, byte order and bit fields (00_scope.md R4, R5), over plain data. -/

namespace Sys2Proof.Machine

/-- The integer of a little-endian byte string (00_scope.md R5). -/
def leNat : Bytes → Nat
  | [] => 0
  | b :: bs => b.toNat + 256 * leNat bs

/-- The low n bytes of v, little-endian (00_scope.md R5). -/
def toLe : Nat → Nat → Bytes
  | 0, _ => []
  | n + 1, v => BitVec.ofNat 8 v :: toLe n (v / 256)

/-- The integer of a big-endian byte string (00_scope.md R5: cryptographic values are held first byte lowest). -/
def beNat (bs : Bytes) : Nat := leNat bs.reverse

/-- The low n bytes of v, big-endian. -/
def toBe (n v : Nat) : Bytes := (toLe n v).reverse

/-- Bytes off to off + len - 1; bytes past the end of the string are absent. -/
def slice (off len : Nat) (bs : Bytes) : Bytes := (bs.drop off).take len

/-- A little-endian field of a structure; bytes past the end count as zero. -/
def field (off len : Nat) (bs : Bytes) : Nat := leNat (slice off len bs)

/-- One byte of a structure; zero past the end. -/
def byteAt (off : Nat) (bs : Bytes) : Nat := (bs.getD off 0).toNat

/-- n copies of zero. -/
def zeroBytes (n : Nat) : Bytes := List.replicate n 0

/-- The string cut or zero-filled to n bytes. -/
def fit (n : Nat) (bs : Bytes) : Bytes := (bs ++ zeroBytes (n - bs.length)).take n

/-- The bitwise exclusive or of two strings of one length. -/
def xorBytes (a b : Bytes) : Bytes := List.zipWith (fun x y => x ^^^ y) a b

/-- The ASCII bytes of a string. -/
def ascii (s : String) : Bytes := s.toList.map fun c => BitVec.ofNat 8 c.toNat

/-- Whether every byte is zero. -/
def allZero (bs : Bytes) : Bool := bs.all (· == 0)

/-- The string in pieces of n bytes (n above zero), the last piece possibly shorter. -/
def chunksAux (n : Nat) : Nat → Bytes → List Bytes
  | 0, _ => []
  | _, [] => []
  | k + 1, bs => bs.take n :: chunksAux n k (bs.drop n)

/-- The string in pieces of n bytes. -/
def chunks (n : Nat) (bs : Bytes) : List Bytes := chunksAux n (bs.length / n + 1) bs

/-- Bits off to off + len - 1 of a register (00_scope.md R4). -/
def bits (off len : Nat) (w : Word) : Nat := (w.toNat / 2 ^ off) % 2 ^ len

/-- Bit i of a register. -/
def bit (i : Nat) (w : Word) : Bool := w.getLsbD i

/-- A flag as a number. -/
def b2n (b : Bool) : Nat := if b then 1 else 0

/-- A flag placed at bit i. -/
def flagAt (i : Nat) (b : Bool) : Nat := b2n b * 2 ^ i

/-- The value rounded up to the next multiple of n. -/
def roundUp (n v : Nat) : Nat := (v + n - 1) / n * n

/-- The quotient rounded up. -/
def ceilDiv (a b : Nat) : Nat := (a + b - 1) / b

/-- A 16-bit counter that saturates at 0xFFFF. -/
def satInc (c : BitVec 16) : BitVec 16 := if c = 0xFFFF then c else c + 1

/-- Bytes 8i to 8i + 7 of a string as a register, byte 8i in bits 7:0. -/
def wordAt (i : Nat) (bs : Bytes) : Word := BitVec.ofNat 64 (field (8 * i) 8 bs)

/-- The string with register i replaced by a word. -/
def setWordAt (i : Nat) (w : Word) (bs : Bytes) : Bytes :=
  bs.take (8 * i) ++ toLe 8 w.toNat ++ bs.drop (8 * i + 8)

/-- The string with the bytes at an offset replaced; the replacement lies within the string. -/
def putAt (off : Nat) (v bs : Bytes) : Bytes := bs.take off ++ v ++ bs.drop (off + v.length)

/-- The eight bits of a byte, bit 7 first. -/
def bitsOfByte (b : Byte) : List Bool := (List.range 8).map fun i => b.getLsbD (7 - i)

/-- The bits of a string, bit 7 of the first byte first. -/
def bitsOfBytes (bs : Bytes) : List Bool := bs.flatMap bitsOfByte

/-- Eight bits as a byte, the first in bit 7; missing bits are zero. -/
def byteOfBits (bs : List Bool) : Byte :=
  BitVec.ofNat 8 ((List.range 8).foldl (fun a i => a * 2 + b2n (bs.getD i false)) 0)

/-- A list of bits as bytes. -/
def bytesOfBitsAux : Nat → List Bool → Bytes
  | 0, _ => []
  | n + 1, bs => byteOfBits bs :: bytesOfBitsAux n (bs.drop 8)

/-- A list of bits, whole bytes only, as bytes. -/
def bytesOfBits (bs : List Bool) : Bytes := bytesOfBitsAux (bs.length / 8) bs

/-- A base raised to an exponent of at most n bits, modulo m. -/
def powModAux : Nat → Nat → Nat → Nat → Nat
  | 0, _, _, m => 1 % m
  | n + 1, b, e, m =>
    let r := powModAux n (b * b % m) (e / 2) m
    if e % 2 = 1 then b * r % m else r

/-- b to the e modulo m. -/
def powMod (b e m : Nat) : Nat := powModAux (Nat.log2 e + 1) (b % m) e m

/-- Euclid's extended algorithm on two numbers up to m: their greatest common divisor and, modulo m, the coefficient of the first in it. Fuel
bounds the steps. -/
def egcdAux (m : Nat) : Nat → Nat → Nat → Nat → Nat → Nat × Nat
  | 0, a, _, u, _ => (a, u)
  | n + 1, a, b, u, v => bif b.beq 0 then (a, u) else egcdAux m n b (a % b) v ((u + m * m - a / b * v) % m)

/-- The inverse of a modulo m; zero when there is none. -/
def invMod (a m : Nat) : Nat :=
  let r := egcdAux m (2 * Nat.log2 m + 4) (a % m) m 1 0
  if r.1 = 1 then r.2 % m else 0

/-- a - b modulo m, for b below m. -/
def subMod (a b m : Nat) : Nat := (a + (m - b % m)) % m

end Sys2Proof.Machine
end

