-- ==== Sys2Proof/Machine/Hash.lean ====
section
/-! DEFINITION. The hash algorithms of 06_digest_units.md Table 6.1 (FIPS 180-4, FIPS 202), HMAC (FIPS 198-1), and
CRC-32C (00_scope.md, Conventions). -/

namespace Sys2Proof.Machine

/-! ### SHA-2: the constants as FIPS 180-4 defines them, from the roots of the first primes -/

/-- The largest number of at most so many bits above r whose k-th power is no more than n. -/
def rootBelow (k n : Nat) : Nat → Nat → Nat
  | 0, r => r
  | i + 1, r => rootBelow k n i (if (r + 2 ^ i) ^ k ≤ n then r + 2 ^ i else r)

/-- The first 64 bits of the fractional part of the k-th root of p. -/
def rootBits (k p : Nat) : Nat := rootBelow k (p * 2 ^ (64 * k)) 68 0 % 2 ^ 64

/-- The first eighty primes, 2 to 409. -/
def firstPrimes : List Nat := (List.range 410).filter fun n => 2 ≤ n && (List.range 21).all fun d => d < 2 || n ≤ d || n % d ≠ 0

/-- What differs between the two SHA-2 word sizes: word bits, and the rotations of the two functions of a round and of the two of the
schedule, whose last is a shift. -/
structure Sha2 where
  w : Nat
  roundA : List Nat
  roundE : List Nat
  early : List Nat × Nat
  late : List Nat × Nat
  k : List Nat

/-- The round constants of 64 bits: cube roots. -/
def sha512K : List Nat := firstPrimes.map (rootBits 3)

/-- The initial value of SHA-512: the square roots of the first eight primes. -/
def sha512Init : List Nat := (firstPrimes.take 8).map (rootBits 2)

/-- The initial value of SHA-384: the square roots of the next eight. -/
def sha384Init : List Nat := ((firstPrimes.drop 8).take 8).map (rootBits 2)

/-- SHA-224 and SHA-256: 64 rounds on 32-bit words, with the upper halves of the same roots. -/
def sha2Small : Sha2 :=
  { w := 32, roundA := [2, 13, 22], roundE := [6, 11, 25], early := ([7, 18], 3), late := ([17, 19], 10),
    k := (sha512K.take 64).map (· / 2 ^ 32) }

/-- SHA-384, SHA-512 and SHA-512/256: 80 rounds on 64-bit words. -/
def sha2Large : Sha2 :=
  { w := 64, roundA := [28, 34, 39], roundE := [14, 18, 41], early := ([1, 8], 7), late := ([19, 61], 6), k := sha512K }

/-- Rotation right by n of a w-bit value. -/
def rotr (w n x : Nat) : Nat := x / 2 ^ n + (x % 2 ^ n) * 2 ^ (w - n)

/-- The exclusive or of some rotations of x, from a first value. -/
def rotations (w : Nat) (ns : List Nat) (first x : Nat) : Nat := ns.foldl (fun a n => Nat.xor a (rotr w n x)) first

/-- One round, on the working variables a to h and the sixteen schedule words from the present one on: the word sixteen places on joins
the schedule as the present one leaves it. -/
def sha2Step (p : Sha2) (s : List Nat × List Nat) (k : Nat) : List Nat × List Nat :=
  let v := fun i => s.1.getD i 0
  let x := fun i => s.2.getD i 0
  let choice := Nat.xor (v 6) (Nat.land (v 4) (Nat.xor (v 5) (v 6)))
  let most := Nat.lor (Nat.land (v 0) (v 1)) (Nat.land (v 2) (Nat.lor (v 0) (v 1)))
  let t := v 7 + rotations p.w p.roundE 0 (v 4) + choice + k + x 0
  let next := x 0 + rotations p.w p.early.1 (x 1 / 2 ^ p.early.2) (x 1) + x 9 +
    rotations p.w p.late.1 (x 14 / 2 ^ p.late.2) (x 14)
  (((t + rotations p.w p.roundA 0 (v 0) + most) % 2 ^ p.w) :: s.1.take 3 ++ ((v 3 + t) % 2 ^ p.w) :: (s.1.drop 4).take 3,
   s.2.drop 1 ++ [next % 2 ^ p.w])

/-- The compression function. -/
def sha2Block (p : Sha2) (h : List Nat) (block : Bytes) : List Nat :=
  let r := p.k.foldl (sha2Step p) (h, (chunks (p.w / 8) block).map beNat)
  (h.zip r.1).map fun q => (q.1 + q.2) % 2 ^ p.w

/-- FIPS 180-4 padding for a message of n bytes in blocks of b bytes. -/
def sha2Pad (b n : Nat) : Bytes := 0x80 :: zeroBytes ((2 * b - 1 - b / 8 - n % b) % b) ++ toBe (b / 8) (8 * n)

/-- A SHA-2 digest in full from an initial value. -/
def sha2Full (p : Sha2) (h : List Nat) (m : Bytes) : Bytes :=
  ((chunks (2 * p.w) (m ++ sha2Pad (2 * p.w) m.length)).foldl (sha2Block p) h).flatMap (toBe (p.w / 8))

/-- SHA-256 (FIPS 180-4). -/
def sha256 (m : Bytes) : Bytes := sha2Full sha2Small (sha512Init.map (· / 2 ^ 32)) m

/-- SHA-224. -/
def sha224 (m : Bytes) : Bytes := (sha2Full sha2Small (sha384Init.map (· % 2 ^ 32)) m).take 28

/-- SHA-512. -/
def sha512 (m : Bytes) : Bytes := sha2Full sha2Large sha512Init m

/-- SHA-384. -/
def sha384 (m : Bytes) : Bytes := (sha2Full sha2Large sha384Init m).take 48

/-- The initial value of SHA-512/256 (FIPS 180-4 5.3.6). -/
def sha512t256Init : List Nat :=
  (chunks 8 (sha2Full sha2Large (sha512Init.map fun x => Nat.xor x 0xa5a5a5a5a5a5a5a5) (ascii "SHA-512/256"))).map beNat

/-- SHA-512/256. -/
def sha512t256 (m : Bytes) : Bytes := (sha2Full sha2Large sha512t256Init m).take 32

/-- One SHA-1 round. -/
def sha1Round (v : List Nat) (tw : Nat × Nat) : List Nat :=
  match v with
  | [a, b, c, d, e] =>
    let f := if tw.1 < 20 then Nat.xor (Nat.land b c) (Nat.land (0xFFFFFFFF - b) d)
      else if 40 ≤ tw.1 && tw.1 < 60 then Nat.xor (Nat.xor (Nat.land b c) (Nat.land b d)) (Nat.land c d)
      else Nat.xor (Nat.xor b c) d
    let k := if tw.1 < 20 then 0x5a827999 else if tw.1 < 40 then 0x6ed9eba1 else if tw.1 < 60 then 0x8f1bbcdc else 0xca62c1d6
    [(rotr 32 27 a + f + e + k + tw.2) % 2 ^ 32, a, rotr 32 2 b, c, d]
  | v => v

/-- The SHA-1 schedule, newest word first. -/
def sha1Schedule : Nat → List Nat → List Nat
  | 0, ws => ws
  | n + 1, ws =>
    let x := Nat.xor (Nat.xor (ws.getD 2 0) (ws.getD 7 0)) (Nat.xor (ws.getD 13 0) (ws.getD 15 0))
    sha1Schedule n (rotr 32 31 x :: ws)

/-- SHA-1 compression. -/
def sha1Block (h : List Nat) (block : Bytes) : List Nat :=
  let sched := (sha1Schedule 64 ((chunks 4 block).map beNat).reverse).reverse
  List.zipWith (fun a b => (a + b) % 2 ^ 32) h (((List.range 80).zip sched).foldl sha1Round h)

/-- The initial value of SHA-1. -/
def sha1Init : List Nat := [0x67452301, 0xefcdab89, 0x98badcfe, 0x10325476, 0xc3d2e1f0]

/-- SHA-1. -/
def sha1 (m : Bytes) : Bytes := ((chunks 64 (m ++ sha2Pad 64 m.length)).foldl sha1Block sha1Init).flatMap (toBe 4)

/-- FIPS 202: the next state of the round-constant LFSR. -/
def keccakLfsr (r : Nat) : Nat := if 2 * r < 256 then 2 * r else Nat.xor (2 * r) 0x171

/-- The round constants of n rounds from an LFSR state: seven bits of the LFSR each, bit j at place 2^j - 1. -/
def keccakIotasAux : Nat → Nat → List Nat
  | 0, _ => []
  | n + 1, r =>
    let c := (List.range 7).foldl (fun (p : Nat × Nat) j => (p.1 + p.2 % 2 * 2 ^ (2 ^ j - 1), keccakLfsr p.2)) (0, r)
    c.1 :: keccakIotasAux n c.2

/-- The twenty-four round constants. -/
def keccakIotas : List Nat := keccakIotasAux 24 1

/-- The rotation offsets of rho, by x + 5y, from FIPS 202 3.2.2. -/
def keccakOffsets : List Nat :=
  [0, 1, 62, 28, 27, 36, 44, 6, 55, 20, 3, 10, 43, 25, 39, 41, 45, 15, 21, 8, 18, 2, 61, 56, 14]

/-- Rotation left in 64 bits. -/
def rotl64 (n x : Nat) : Nat := if n = 0 then x else rotr 64 (64 - n) x

/-- FIPS 202 theta, one row of five lanes with the parities' mixture for its columns. -/
def keccakTheta (c : List Nat) : List Nat :=
  match c with
  | [c0, c1, c2, c3, c4] =>
    [Nat.xor c4 (rotl64 1 c1), Nat.xor c0 (rotl64 1 c2), Nat.xor c1 (rotl64 1 c3), Nat.xor c2 (rotl64 1 c4), Nat.xor c3 (rotl64 1 c0)]
  | _ => []

/-- FIPS 202 chi on one row of five lanes. -/
def keccakChi (b : List Nat) : List Nat :=
  let f := fun x y z => Nat.xor x (Nat.land (2 ^ 64 - 1 - y) z)
  match b with
  | [b0, b1, b2, b3, b4] => [f b0 b1 b2, f b1 b2 b3, f b2 b3 b4, f b3 b4 b0, f b4 b0 b1]
  | _ => []

/-- The exclusive or of two rows of lanes. -/
def xorLanes (a b : List Nat) : List Nat := List.zipWith Nat.xor a b

/-- The lane that pi moves to each place, by x + 5y. -/
def keccakPi : List Nat := (List.range 25).map fun i => (i % 5 + 3 * (i / 5)) % 5 + 5 * (i % 5)

/-- Five rows of five lanes. -/
def keccakRows (a : List Nat) : List (List Nat) := (List.range 5).map fun y => (a.drop (5 * y)).take 5

/-- One round of Keccak-f[1600] on the twenty-five lanes. -/
def keccakRound (a : List Nat) (rc : Nat) : List Nat :=
  let rows := keccakRows a
  let d := keccakTheta (rows.foldl xorLanes (List.replicate 5 0))
  let t := List.zipWith rotl64 keccakOffsets (rows.flatMap fun r => xorLanes r d)
  let b := keccakPi.map fun i => t.getD i 0
  match (keccakRows b).flatMap keccakChi with
  | r0 :: rs => Nat.xor r0 rc :: rs
  | [] => []

/-- Keccak-f[1600]. -/
def keccakF (a : List Nat) : List Nat := keccakIotas.foldl keccakRound a

/-- Absorb one block of the rate. -/
def keccakAbsorb (a : List Nat) (block : Bytes) : List Nat :=
  keccakF ((List.range 25).map fun i => Nat.xor (a.getD i 0) (field (8 * i) 8 block))

/-- Squeeze n blocks. -/
def keccakSqueeze (rate : Nat) : Nat → List Nat → Bytes
  | 0, _ => []
  | n + 1, a => (a.flatMap (toLe 8)).take rate ++ keccakSqueeze rate n (keccakF a)

/-- The padding of FIPS 202 with a domain byte. -/
def keccakPad (rate n : Nat) (dom : Byte) : Bytes :=
  let q := rate - n % rate
  if q = 1 then [dom ||| 0x80] else dom :: zeroBytes (q - 2) ++ [0x80]

/-- The sponge: rate, domain byte, output length. -/
def keccak (rate : Nat) (dom : Byte) (out : Nat) (m : Bytes) : Bytes :=
  let a := (chunks rate (m ++ keccakPad rate m.length dom)).foldl keccakAbsorb (List.replicate 25 0)
  (keccakSqueeze rate (ceilDiv out rate) a).take out

/-- SHAKE256. -/
def shake256 (out : Nat) (m : Bytes) : Bytes := keccak 136 0x1F out m

/-- The block size b of an ALG code (06 Table 6.1); 0 for a code the table does not give. -/
def hashBlock (alg : Nat) : Nat :=
  match alg with
  | 0 => 64 | 1 => 64 | 2 => 64 | 3 => 128 | 4 => 128 | 5 => 128 | 8 => 144 | 9 => 136 | 10 => 104 | 11 => 72 | 12 => 168
  | 13 => 136 | _ => 0

/-- The digest length L of an ALG code (06 Table 6.1); 0 for the SHAKEs and undefined codes. -/
def hashLen (alg : Nat) : Nat :=
  match alg with
  | 0 => 20 | 1 => 28 | 2 => 32 | 3 => 48 | 4 => 64 | 5 => 32 | 8 => 28 | 9 => 32 | 10 => 48 | 11 => 64 | _ => 0

/-- The digest of a whole message under an ALG code; out is the length for the SHAKEs (06 Table 6.1). -/
def hashAlg (alg out : Nat) (m : Bytes) : Bytes :=
  match alg with
  | 0 => sha1 m | 1 => sha224 m | 2 => sha256 m | 3 => sha384 m | 4 => sha512 m | 5 => sha512t256 m
  | 8 => keccak 144 0x06 28 m | 9 => keccak 136 0x06 32 m | 10 => keccak 104 0x06 48 m | 11 => keccak 72 0x06 64 m
  | 12 => keccak 168 0x1F out m | 13 => keccak 136 0x1F out m
  | _ => []

/-- SHAKE128 and SHAKE256. -/
def isShake (a : Nat) : Bool := a = 0xC || a = 0xD

/-- SHA-1 and the SHA-2 algorithms, which chain words; the rest are sponges. -/
def chains (a : Nat) : Bool := a ≤ 5

/-- The bytes of a chaining word. -/
def chainWord (a : Nat) : Nat := if a ≤ 2 then 4 else 8

/-- The compression function of a chaining algorithm. -/
def chainBlock (a : Nat) : List Nat → Bytes → List Nat :=
  if a = 0 then sha1Block else sha2Block (if a ≤ 2 then sha2Small else sha2Large)

/-- The initial state of an algorithm. -/
def digInit (a : Nat) : List Nat :=
  match a with
  | 0 => sha1Init
  | 1 => sha384Init.map (· % 2 ^ 32)
  | 2 => sha512Init.map (· / 2 ^ 32)
  | 3 => sha384Init
  | 4 => sha512Init
  | 5 => sha512t256Init
  | _ => List.replicate 25 0

/-- Chaining words or a Keccak state as the 200 bytes of a state block hold them (06 Table 6.6). -/
def packState (a : Nat) (h : List Nat) : Bytes :=
  fit 200 (if chains a then h.flatMap (toBe (chainWord a)) else h.flatMap (toLe 8))

/-- The chaining words or Keccak state that 200 bytes hold. -/
def unpackState (a : Nat) (st : Bytes) : List Nat :=
  if chains a then ((chunks (chainWord a) st).take (if a = 0 then 5 else 8)).map beNat else ((chunks 8 st).take 25).map leNat

/-- Whole blocks absorbed. -/
def digAbsorb (a : Nat) (h : List Nat) (m : Bytes) : List Nat :=
  (chunks (hashBlock a) m).foldl (if chains a then chainBlock a else keccakAbsorb) h

/-- The digest of a message of `total` bytes whose last bytes are m, from the state before them. -/
def digFinish (a : Nat) (h : List Nat) (total : Nat) (m : Bytes) (out : Nat) : Bytes :=
  let b := hashBlock a
  if chains a then ((digAbsorb a h (m ++ sha2Pad b total)).flatMap (toBe (chainWord a))).take out
  else
    let dom : Byte := if isShake a then 0x1F else 0x06
    (keccakSqueeze b (ceilDiv out b) (digAbsorb a h (m ++ keccakPad b total dom))).take out

/-- The key of an HMAC as a block: hashed first where it is longer (FIPS 198-1). -/
def hmacBlock (alg : Nat) (key : Bytes) : Bytes :=
  fit (hashBlock alg) (if hashBlock alg < key.length then hashAlg alg 0 key else key)

/-- HMAC under an ALG code (FIPS 198-1). -/
def hmac (alg : Nat) (key m : Bytes) : Bytes :=
  let k0 := hmacBlock alg key
  hashAlg alg 0 (k0.map (· ^^^ 0x5C) ++ hashAlg alg 0 (k0.map (· ^^^ 0x36) ++ m))

/-- The inner and the outer state of a key (06 R184): what its first block leaves. -/
def hmacStates (alg : Nat) (key : Bytes) : Bytes × Bytes :=
  let k0 := hmacBlock alg key
  (packState alg (digAbsorb alg (digInit alg) (k0.map (· ^^^ 0x36))), packState alg (digAbsorb alg (digInit alg) (k0.map (· ^^^ 0x5C))))

/-- HMAC from the states of its key. -/
def hmacFrom (alg : Nat) (inner outer m : Bytes) : Bytes :=
  let b := hashBlock alg
  let n := hashLen alg
  let x := digFinish alg (unpackState alg inner) (b + m.length) m n
  digFinish alg (unpackState alg outer) (b + n) x n

/-- One bit of the reflected CRC-32C. -/
def crcBit (c : Nat) : Nat := if c % 2 = 1 then Nat.xor (c / 2) 0x82F63B78 else c / 2

/-- One byte into the CRC-32C register. -/
def crcByte (c : BitVec 32) (b : Byte) : BitVec 32 :=
  BitVec.ofNat 32 ((List.range 8).foldl (fun r _ => crcBit r) (Nat.xor c.toNat b.toNat))

/-- Bytes into the CRC-32C register, before the final XOR. -/
def crcUpdate (c : BitVec 32) (bs : Bytes) : BitVec 32 := bs.foldl crcByte c

/-- CRC-32C: polynomial 0x1EDC_6F41 reflected, initial value and final XOR 0xFFFF_FFFF (00_scope.md). -/
def crc32c (bs : Bytes) : BitVec 32 := crcUpdate 0xFFFFFFFF bs ^^^ 0xFFFFFFFF

end Sys2Proof.Machine
end

