-- ==== Sys2Proof/Machine/Cipher.lean ====
section
/-! DEFINITION. AES (FIPS 197), TDES (SP 800-67) and the modes over them that 04_cipher_lanes_and_wide_engines.md R121 names,
the key derivations of 05 R170 and 07 R211, and the CTR_DRBG of 09 R261. -/

namespace Sys2Proof.Machine

/-- Multiplication by x in the AES field. -/
def xtime (b : Byte) : Byte := (b <<< 1) ^^^ (if b.getLsbD 7 then 0x1B else 0)

/-- The S-box of FIPS 197 5.1.1, by rows: in row x the value of byte xy is in bits 8y + 7 to 8y. -/
def aesSbox : List Nat :=
  [0x76abd7fe2b670130c56f6bf27b777c63, 0xc072a49cafa2d4adf04759fa7dc982ca,
   0x1531d871f1e5a534ccf73f362693fdb7, 0x75b227ebe28012079a059618c323c704,
   0x842fe329b3d63b52a05a6e1b1a2c8309, 0xcf584c4a39becb6a5bb1fc20ed00d153,
   0xa89f3c507f02f94585334d43fbaaefd0, 0xd2f3ff1021dab6bcf5389d928f40a351] ++
  [0x73195d643d7ea7c41744975fec130ccd, 0xdb0b5ede14b8ee4688902a22dc4f8160,
   0x79e4959162acd3c25c2406490a3a32e0, 0x08ae7a65eaf4566ca94ed58d6d37c8e7,
   0x8a8bbd4b1f74dde8c6b4a61c2e2578ba, 0x9e1dc186b95735610ef6034866b53e70,
   0xdf2855cee9871e9b948ed9691198f8e1, 0x16bb54b00f2d99416842e6bf0d89a18c]

/-- The inverse S-box of FIPS 197 5.3.2 in the same form. -/
def aesInvSbox : List Nat :=
  [0xfbd7f3819ea340bf38a53630d56a0952, 0xcbe9dec444438e3487ff2f9b8239e37c,
   0x4ec3fa420b954cee3d23c2a632947b54, 0x25d18b6d49a25b76b224d92866a12e08,
   0x92b6655dcc5ca4d41698688664f6f872, 0x849d8da75746155edab9edfd5048706c,
   0x0645b3b80558e4f70ad3bc8c00abd890, 0x6b8a130103bdafc1020f3fca8f1e2cd0] ++
  [0x73e6b4f0cecff297eadc674f4111913a, 0x6edf751ce837f9e28535ade72274ac96,
   0x1bbe18aa0e62b76f89c5291d711af147, 0xf45acd78fec0db9a2079d2c64b3e56fc,
   0x5fec8027591012b131c7078833a8dd1f, 0xef9cc9939f7ae52d0d4ab519a97f5160,
   0x619953833cbbebc8b0f52aae4d3be0a0, 0x7d0c2155631469e126d677ba7e042b17]

/-- A byte through an S-box. -/
def substitute (box : List Nat) (b : Byte) : Byte := BitVec.ofNat 8 (box.getD (b.toNat / 16) 0 / 2 ^ (8 * (b.toNat % 16)))

/-- SubBytes. -/
def subBytes (bs : Bytes) : Bytes := bs.map (substitute aesSbox)

/-- InvSubBytes. -/
def invSubBytes (bs : Bytes) : Bytes := bs.map (substitute aesInvSbox)

/-- ShiftRows on the sixteen bytes in column order. -/
def shiftRows (bs : Bytes) : Bytes := (List.range 16).map fun i => bs.getD ((i + 4 * (i % 4)) % 16) 0

/-- InvShiftRows. -/
def invShiftRows (bs : Bytes) : Bytes := (List.range 16).map fun i => bs.getD ((i + 12 * (i % 4)) % 16) 0

/-- A column times the matrix of MixColumns (2, 3, 1, 1): byte r becomes itself, the sum of all four, and twice its sum with the next. -/
def mixColumn (c : Bytes) : Bytes :=
  let t := c.foldl (fun a b => a ^^^ b) 0
  List.zipWith (fun a b => a ^^^ t ^^^ xtime (a ^^^ b)) c (c.drop 1 ++ c.take 1)

/-- A column times the matrix of InvMixColumns (14, 11, 13, 9): four times the sum of opposite bytes is added first. -/
def invMixColumn (c : Bytes) : Bytes :=
  mixColumn (xorBytes c (List.zipWith (fun a b => xtime (xtime (a ^^^ b))) c (c.drop 2 ++ c.take 2)))

/-- MixColumns. -/
def mixColumns (bs : Bytes) : Bytes := (chunks 4 bs).flatMap mixColumn

/-- InvMixColumns. -/
def invMixColumns (bs : Bytes) : Bytes := (chunks 4 bs).flatMap invMixColumn

/-- The key schedule, newest word first, extended n words; nk is the key length in words. -/
def aesExpand (nk : Nat) : Nat → Nat → Byte → List Bytes → List Bytes
  | 0, _, _, ws => ws
  | n + 1, i, rc, ws =>
    let t := ws.headD []
    let t' := if i % nk = 0 then xorBytes (subBytes (t.drop 1 ++ t.take 1)) [rc, 0, 0, 0]
      else if 6 < nk && i % nk = 4 then subBytes t else t
    aesExpand nk n (i + 1) (if i % nk = 0 then xtime rc else rc) (xorBytes (ws.getD (nk - 1) []) t' :: ws)

/-- The round keys of an AES key of 16, 24 or 32 bytes. -/
def aesRoundKeys (key : Bytes) : List Bytes :=
  let nk := key.length / 4
  chunks 16 ((aesExpand nk (4 * (nk + 7) - nk) nk 1 (chunks 4 key).reverse).reverse.flatten)

/-- AES encryption of one block under expanded round keys. -/
def aesEncWith (rks : List Bytes) (b : Bytes) : Bytes :=
  match rks with
  | [] => b
  | k0 :: ks =>
    let mid := ks.dropLast.foldl (fun s k => xorBytes (mixColumns (shiftRows (subBytes s))) k) (xorBytes b k0)
    xorBytes (shiftRows (subBytes mid)) (ks.getLastD [])

/-- AES decryption of one block under expanded round keys. -/
def aesDecWith (rks : List Bytes) (b : Bytes) : Bytes :=
  match rks.reverse with
  | [] => b
  | k0 :: ks =>
    let mid := ks.dropLast.foldl (fun s k => invMixColumns (xorBytes (invSubBytes (invShiftRows s)) k)) (xorBytes b k0)
    xorBytes (invSubBytes (invShiftRows mid)) (ks.getLastD [])

/-- AES encryption of one block. -/
def aesEnc (key : Bytes) : Bytes → Bytes := let rks := aesRoundKeys key; aesEncWith rks

/-- AES decryption of one block. -/
def aesDec (key : Bytes) : Bytes → Bytes := let rks := aesRoundKeys key; aesDecWith rks

/-- The S-boxes of DES, by row. -/
def desS1 : List Nat :=
  [14, 4, 13, 1, 2, 15, 11, 8, 3, 10, 6, 12, 5, 9, 0, 7, 0, 15, 7, 4, 14, 2, 13, 1, 10, 6, 12, 11, 9, 5, 3, 8] ++
  [4, 1, 14, 8, 13, 6, 2, 11, 15, 12, 9, 7, 3, 10, 5, 0, 15, 12, 8, 2, 4, 9, 1, 7, 5, 11, 3, 14, 10, 0, 6, 13]
/-- S2. -/
def desS2 : List Nat :=
  [15, 1, 8, 14, 6, 11, 3, 4, 9, 7, 2, 13, 12, 0, 5, 10, 3, 13, 4, 7, 15, 2, 8, 14, 12, 0, 1, 10, 6, 9, 11, 5] ++
  [0, 14, 7, 11, 10, 4, 13, 1, 5, 8, 12, 6, 9, 3, 2, 15, 13, 8, 10, 1, 3, 15, 4, 2, 11, 6, 7, 12, 0, 5, 14, 9]
/-- S3. -/
def desS3 : List Nat :=
  [10, 0, 9, 14, 6, 3, 15, 5, 1, 13, 12, 7, 11, 4, 2, 8, 13, 7, 0, 9, 3, 4, 6, 10, 2, 8, 5, 14, 12, 11, 15, 1] ++
  [13, 6, 4, 9, 8, 15, 3, 0, 11, 1, 2, 12, 5, 10, 14, 7, 1, 10, 13, 0, 6, 9, 8, 7, 4, 15, 14, 3, 11, 5, 2, 12]
/-- S4. -/
def desS4 : List Nat :=
  [7, 13, 14, 3, 0, 6, 9, 10, 1, 2, 8, 5, 11, 12, 4, 15, 13, 8, 11, 5, 6, 15, 0, 3, 4, 7, 2, 12, 1, 10, 14, 9] ++
  [10, 6, 9, 0, 12, 11, 7, 13, 15, 1, 3, 14, 5, 2, 8, 4, 3, 15, 0, 6, 10, 1, 13, 8, 9, 4, 5, 11, 12, 7, 2, 14]
/-- S5. -/
def desS5 : List Nat :=
  [2, 12, 4, 1, 7, 10, 11, 6, 8, 5, 3, 15, 13, 0, 14, 9, 14, 11, 2, 12, 4, 7, 13, 1, 5, 0, 15, 10, 3, 9, 8, 6] ++
  [4, 2, 1, 11, 10, 13, 7, 8, 15, 9, 12, 5, 6, 3, 0, 14, 11, 8, 12, 7, 1, 14, 2, 13, 6, 15, 0, 9, 10, 4, 5, 3]
/-- S6. -/
def desS6 : List Nat :=
  [12, 1, 10, 15, 9, 2, 6, 8, 0, 13, 3, 4, 14, 7, 5, 11, 10, 15, 4, 2, 7, 12, 9, 5, 6, 1, 13, 14, 0, 11, 3, 8] ++
  [9, 14, 15, 5, 2, 8, 12, 3, 7, 0, 4, 10, 1, 13, 11, 6, 4, 3, 2, 12, 9, 5, 15, 10, 11, 14, 1, 7, 6, 0, 8, 13]
/-- S7. -/
def desS7 : List Nat :=
  [4, 11, 2, 14, 15, 0, 8, 13, 3, 12, 9, 7, 5, 10, 6, 1, 13, 0, 11, 7, 4, 9, 1, 10, 14, 3, 5, 12, 2, 15, 8, 6] ++
  [1, 4, 11, 13, 12, 3, 7, 14, 10, 15, 6, 8, 0, 5, 9, 2, 6, 11, 13, 8, 1, 4, 10, 7, 9, 5, 0, 15, 14, 2, 3, 12]
/-- S8. -/
def desS8 : List Nat :=
  [13, 2, 8, 4, 6, 15, 11, 1, 10, 9, 3, 14, 5, 0, 12, 7, 1, 15, 13, 8, 10, 3, 7, 4, 12, 5, 6, 11, 0, 14, 9, 2] ++
  [7, 11, 4, 1, 9, 12, 14, 2, 0, 6, 10, 13, 15, 3, 5, 8, 2, 1, 14, 7, 4, 10, 8, 13, 15, 12, 9, 0, 3, 5, 6, 11]

/-- The eight S-boxes. -/
def desS : List (List Nat) := [desS1, desS2, desS3, desS4, desS5, desS6, desS7, desS8]

/-- The permutation P. -/
def desP : List Nat :=
  [16, 7, 20, 21, 29, 12, 28, 17, 1, 15, 23, 26, 5, 18, 31, 10] ++ [2, 8, 24, 14, 32, 27, 3, 9, 19, 13, 30, 6, 22, 11, 4, 25]

/-- Permuted choice 2. -/
def desPC2 : List Nat :=
  [14, 17, 11, 24, 1, 5, 3, 28, 15, 6, 21, 10, 23, 19, 12, 4, 26, 8, 16, 7, 27, 20, 13, 2] ++
  [41, 52, 31, 37, 47, 55, 30, 40, 51, 45, 33, 48, 44, 49, 39, 56, 34, 53, 46, 42, 50, 36, 29, 32]

/-- Permuted choice 1. -/
def desPC1 : List Nat :=
  [57, 49, 41, 33, 25, 17, 9, 1, 58, 50, 42, 34, 26, 18, 10, 2, 59, 51, 43, 35, 27, 19, 11, 3, 60, 52, 44, 36] ++
  [63, 55, 47, 39, 31, 23, 15, 7, 62, 54, 46, 38, 30, 22, 14, 6, 61, 53, 45, 37, 29, 21, 13, 5, 28, 20, 12, 4]

/-- The initial permutation: bit rows 58, 60, 62, 64, 57, 59, 61, 63 stepping down by 8. -/
def desIP : List Nat := [58, 60, 62, 64, 57, 59, 61, 63].flatMap fun s => (List.range 8).map fun i => s - 8 * i

/-- The expansion E. -/
def desE : List Nat := (List.range 8).flatMap fun r => (List.range 6).map fun c => (4 * r + c + 31) % 32 + 1

/-- The bits of a number of w bits that a table picks, in its order; tables count from 1 at the most significant bit. -/
def desPermute (t : List Nat) (w x : Nat) : Nat := t.foldl (fun a i => 2 * a + x / 2 ^ (w - i) % 2) 0

/-- The inverse of the initial permutation. -/
def desFP : List Nat := (List.range 64).map fun i => desIP.idxOf (i + 1) + 1

/-- Rotation of a half key of 28 bits left by n. -/
def desRot (n x : Nat) : Nat := x * 2 ^ n % 2 ^ 28 + x / 2 ^ (28 - n)

/-- The round keys of both half keys for the rotations left. -/
def desKeysAux : List Nat → Nat → Nat → List Nat
  | [], _, _ => []
  | n :: ns, c, d => desPermute desPC2 56 (desRot n c * 2 ^ 28 + desRot n d) :: desKeysAux ns (desRot n c) (desRot n d)

/-- The sixteen round keys of an 8-byte key. -/
def desKeys (key : Bytes) : List Nat :=
  let cd := desPermute desPC1 64 (beNat key)
  desKeysAux [1, 1, 2, 2, 2, 2, 2, 2, 1, 2, 2, 2, 2, 2, 2, 1] (cd / 2 ^ 28) (cd % 2 ^ 28)

/-- The S-boxes on the six-bit groups of 48 bits, the first group the most significant: bits 1 and 6 give the row. -/
def desBoxes (x : Nat) : Nat :=
  (desS.zipIdx).foldl (fun a p =>
    let g := x / 2 ^ (42 - 6 * p.2) % 64
    16 * a + p.1.getD ((g / 32 * 2 + g % 2) * 16 + g / 2 % 16) 0) 0

/-- The cipher function f. -/
def desF (r k : Nat) : Nat := desPermute desP 32 (desBoxes (Nat.xor (desPermute desE 32 r) k))

/-- The rounds: the halves after the last, exchanged. -/
def desRounds : List Nat → Nat → Nat → Nat
  | [], l, r => r * 2 ^ 32 + l
  | k :: ks, l, r => desRounds ks r (Nat.xor l (desF r k))

/-- DES on one block under round keys in the order given. -/
def desWith (ks : List Nat) (b : Bytes) : Bytes :=
  let x := desPermute desIP 64 (beNat b)
  toBe 8 (desPermute desFP 64 (desRounds ks (x / 2 ^ 32) (x % 2 ^ 32)))

/-- DES encryption of one block. -/
def desEnc (key : Bytes) : Bytes → Bytes := let ks := desKeys key; desWith ks

/-- DES decryption of one block. -/
def desDec (key : Bytes) : Bytes → Bytes := let ks := (desKeys key).reverse; desWith ks

/-- The third key of a TDES key of 16 or 24 bytes (04 R119). -/
def tdesK3 (key : Bytes) : Bytes := if key.length = 24 then key.drop 16 else key.take 8

/-- TDES encryption of one block. -/
def tdesEnc (key : Bytes) : Bytes → Bytes :=
  let e1 := desEnc (key.take 8); let d2 := desDec (slice 8 8 key); let e3 := desEnc (tdesK3 key)
  fun b => e3 (d2 (e1 b))

/-- TDES decryption of one block. -/
def tdesDec (key : Bytes) : Bytes → Bytes :=
  let d1 := desDec (key.take 8); let e2 := desEnc (slice 8 8 key); let d3 := desDec (tdesK3 key)
  fun b => d1 (e2 (d3 b))

/-- Whether a class code is an AES class (08 Table 8.3). -/
def isAes (cls : Nat) : Bool := 1 ≤ cls && cls ≤ 3

/-- Whether a class code is a TDES class (08 Table 8.3). -/
def isTdes (cls : Nat) : Bool := cls = 4 || cls = 5

/-- The block size of an AES or TDES class. -/
def blockSize (cls : Nat) : Nat := if isTdes cls then 8 else 16

/-- One-block encryption under a key of an AES or TDES class. -/
def blockEnc (cls : Nat) (key : Bytes) : Bytes → Bytes := if isTdes cls then tdesEnc key else aesEnc key

/-- One-block decryption under a key of an AES or TDES class. -/
def blockDec (cls : Nat) (key : Bytes) : Bytes → Bytes := if isTdes cls then tdesDec key else aesDec key

/-- CBC encryption with an initial block: the output and the last block. -/
def cbcEnc (enc : Bytes → Bytes) (b : Nat) (iv m : Bytes) : Bytes :=
  ((chunks b m).foldl (fun (p : Bytes × List Bytes) x => let y := enc (xorBytes p.1 x); (y, y :: p.2)) (iv, [])).2.reverse.flatten

/-- CBC decryption. -/
def cbcDec (dec : Bytes → Bytes) (b : Nat) (iv c : Bytes) : Bytes :=
  ((chunks b c).foldl (fun (p : Bytes × List Bytes) x => (x, xorBytes p.1 (dec x) :: p.2)) (iv, [])).2.reverse.flatten

/-- The counter block after n steps, as one big-endian integer (04 R121). -/
def ctrBlock (iv : Bytes) (n : Nat) : Bytes := toBe iv.length (beNat iv + n)

/-- CTR mode from a counter block. -/
def ctrMode (enc : Bytes → Bytes) (iv m : Bytes) : Bytes :=
  ((chunks iv.length m).zipIdx).flatMap fun p => xorBytes p.1 (enc (ctrBlock iv p.2))

/-- Doubling for the subkeys of CMAC (SP 800-38B). -/
def cmacDouble (b : Bytes) : Bytes :=
  let v := 2 * beNat b
  let n := b.length
  toBe n (if v < 2 ^ (8 * n) then v else Nat.xor (v % 2 ^ (8 * n)) (if n = 8 then 0x1B else 0x87))

/-- CMAC (SP 800-38B) over a block cipher of b bytes. -/
def cmac (enc : Bytes → Bytes) (b : Nat) (m : Bytes) : Bytes :=
  let k1 := cmacDouble (enc (zeroBytes b))
  let n := if m.length = 0 then 1 else ceilDiv m.length b
  let last := m.drop ((n - 1) * b)
  let fin := if last.length = b then xorBytes last k1 else xorBytes (fit b (last ++ [0x80])) (cmacDouble k1)
  enc (xorBytes ((chunks b (m.take ((n - 1) * b))).foldl (fun c x => enc (xorBytes c x)) (zeroBytes b)) fin)

/-- CMAC under a key of an AES or TDES class. -/
def cmacKey (cls : Nat) (key m : Bytes) : Bytes := cmac (blockEnc cls key) (blockSize cls) m

/-- Padding method 1 of ISO/IEC 9797-1 as 04 R121 gives it. -/
def padM1 (b : Nat) (m : Bytes) : Bytes := if m.length = 0 then zeroBytes b else m ++ zeroBytes (roundUp b m.length - m.length)

/-- Padding method 2 of ISO/IEC 9797-1. -/
def padM2 (b : Nat) (m : Bytes) : Bytes := let x := m ++ [0x80]; x ++ zeroBytes (roundUp b x.length - x.length)

/-- The CBC-MAC of a padded message. -/
def cbcMac (enc : Bytes → Bytes) (b : Nat) (m : Bytes) : Bytes :=
  (chunks b m).foldl (fun c x => enc (xorBytes c x)) (zeroBytes b)

/-- ISO/IEC 9797-1 algorithm 3 of a padded message under K ‖ K′. -/
def retailMac (key m : Bytes) : Bytes := desEnc (key.take 8) (desDec (slice 8 8 key) (cbcMac (desEnc (key.take 8)) 8 m))

/-- The check value of a key (04 R121): AES the CMAC of sixteen zero bytes, TDES the encryption of eight, leftmost 3 bytes. -/
def kcvOf (cls : Nat) (key : Bytes) : Bytes :=
  if isAes cls then (cmacKey cls key (zeroBytes 16)).take 3
  else if isTdes cls then (tdesEnc key (zeroBytes 8)).take 3
  else [0, 0, 0]

/-- One bit step of the GCM field: halving in the reflected order. -/
def ghashHalve (v : Nat) : Nat := Nat.xor (v / 2) (v % 2 * (0xE1 * 2 ^ 120))

/-- Multiplication in the GCM field (SP 800-38D), bit 0 of the standard being bit 127. -/
def ghashMulAux : Nat → Nat → Nat → Nat → Nat
  | 0, _, _, z => z
  | n + 1, x, v, z => ghashMulAux n x (ghashHalve v) (Nat.xor z (x / 2 ^ n % 2 * v))

/-- GHASH over whole blocks, from a running value. -/
def ghashFrom (h y : Nat) (m : Bytes) : Nat :=
  (chunks 16 m).foldl (fun a x => ghashMulAux 128 (Nat.xor a (beNat (fit 16 x))) h 0) y

/-- The GCM tag of additional data and ciphertext. -/
def gcmTag (enc : Bytes → Bytes) (iv aad c : Bytes) : Bytes :=
  let h := beNat (enc (zeroBytes 16))
  let y := ghashFrom h (ghashFrom h 0 aad) c
  let s := ghashFrom h y (toBe 8 (8 * aad.length) ++ toBe 8 (8 * c.length))
  xorBytes (toBe 16 s) (enc (iv ++ [0, 0, 0, 1]))

/-- The inc32 counter mode of GCM. -/
def gcmCtr (enc : Bytes → Bytes) (iv m : Bytes) : Bytes :=
  ((chunks 16 m).zipIdx).flatMap fun p => xorBytes p.1 (enc (iv ++ toBe 4 (p.2 + 2)))

/-- GCM encryption under a 96-bit IV: ciphertext, tag. -/
def gcmEnc (enc : Bytes → Bytes) (iv aad m : Bytes) : Bytes × Bytes :=
  let c := gcmCtr enc iv m
  (c, gcmTag enc iv aad c)

/-- GCM decryption; none where the tag differs. -/
def gcmDec (enc : Bytes → Bytes) (iv aad c tag : Bytes) : Option Bytes :=
  if gcmTag enc iv aad c = tag then some (gcmCtr enc iv c) else none

/-- The tweak of XTS doubled once per block. -/
def xtsDouble (t : Bytes) : Bytes :=
  let v := 2 * leNat t
  toLe 16 (if v < 2 ^ 128 then v else Nat.xor (v % 2 ^ 128) 0x87)

/-- XTS of whole blocks with a tweak: the output and the next tweak. -/
def xtsBlocks (f : Bytes → Bytes) (t m : Bytes) : Bytes × Bytes :=
  let r := (chunks 16 m).foldl (fun (p : List Bytes × Bytes) x => (xorBytes p.2 (f (xorBytes p.2 x)) :: p.1, xtsDouble p.2)) ([], t)
  (r.1.reverse.flatten, r.2)

/-- One XTS data unit with ciphertext stealing (SP 800-38E). -/
def xtsUnit (f e2 : Bytes → Bytes) (decrypt : Bool) (seq : Nat) (m : Bytes) : Bytes :=
  let t := e2 (toLe 16 seq)
  let full := m.length / 16
  let rest := m.length % 16
  if rest = 0 then (xtsBlocks f t m).1
  else
    let r := xtsBlocks f t (m.take (16 * (full - 1)))
    let x := slice (16 * (full - 1)) 16 m
    let tail := m.drop (16 * full)
    let t1 := if decrypt then xtsDouble r.2 else r.2
    let t2 := if decrypt then r.2 else xtsDouble r.2
    let y := xorBytes t1 (f (xorBytes t1 x))
    let z := tail ++ y.drop rest
    r.1 ++ xorBytes t2 (f (xorBytes t2 z)) ++ y.take rest

/-- One step of the wrap function W of SP 800-38F: A, R and the counter. -/
def kwSteps (f : Bytes → Bytes) : Nat → Nat → Bytes → List Bytes → Bytes × List Bytes
  | 0, _, a, r => (a, r)
  | n + 1, t, a, r =>
    match r with
    | [] => (a, r)
    | r0 :: rs =>
      let b := f (a ++ r0)
      kwSteps f n (t + 1) (xorBytes (b.take 8) (toBe 8 t)) (rs ++ [b.drop 8])

/-- The wrap function W over a 16-byte block cipher, S at least three semiblocks. -/
def kwWrap (enc : Bytes → Bytes) (s : Bytes) : Bytes :=
  let r := chunks 8 (s.drop 8)
  let w := kwSteps enc (6 * r.length) 1 (s.take 8) r
  w.1 ++ w.2.flatten

/-- Steps of the inverse function, from step t downward. -/
def kwUnsteps (f : Bytes → Bytes) : Nat → Bytes → List Bytes → Bytes × List Bytes
  | 0, a, r => (a, r)
  | n + 1, a, r =>
    let b := f (xorBytes a (toBe 8 (n + 1)) ++ r.getLastD [])
    kwUnsteps f n (b.take 8) (b.drop 8 :: r.dropLast)

/-- The inverse of W. -/
def kwUnwrap (dec : Bytes → Bytes) (c : Bytes) : Bytes :=
  let r := chunks 8 (c.drop 8)
  let w := kwUnsteps dec (6 * r.length) (c.take 8) r
  w.1 ++ w.2.flatten

/-- KW-AE: the data is a multiple of 8 bytes, at least 16. -/
def kwSeal (enc : Bytes → Bytes) (m : Bytes) : Bytes := kwWrap enc (List.replicate 8 0xA6 ++ m)

/-- KW-AD. -/
def kwOpen (dec : Bytes → Bytes) (c : Bytes) : Option Bytes :=
  let s := kwUnwrap dec c
  if s.take 8 = List.replicate 8 0xA6 then some (s.drop 8) else none

/-- KWP-AE. -/
def kwpSeal (enc : Bytes → Bytes) (m : Bytes) : Bytes :=
  let s := [0xA6, 0x59, 0x59, 0xA6] ++ toBe 4 m.length ++ m ++ zeroBytes (roundUp 8 m.length - m.length)
  if m.length ≤ 8 then enc s else kwWrap enc s

/-- KWP-AD, with its padding check. -/
def kwpOpen (dec : Bytes → Bytes) (c : Bytes) : Option Bytes :=
  let s := if c.length = 16 then dec c else kwUnwrap dec c
  let n := beNat (slice 4 4 s)
  if s.take 4 = [0xA6, 0x59, 0x59, 0xA6] && roundUp 8 n = s.length - 8 && 0 < n && allZero (s.drop (8 + n))
  then some (slice 8 n s) else none

/-- A byte with DES odd parity. -/
def oddParity (b : Byte) : Byte :=
  let ones := ((List.range 7).filter fun i => b.getLsbD (i + 1)).length
  (b &&& 0xFE) ||| (if ones % 2 = 0 then 1 else 0)

/-- The SP 800-108 counter mode with AES-CMAC of 05 R170, n bytes. -/
def kdfCounter (key label context : Bytes) (n : Nat) : Bytes :=
  let enc := aesEnc key
  ((List.range (ceilDiv n 16)).flatMap fun i =>
    cmac enc 16 (toBe 4 (i + 1) ++ label ++ [0] ++ context ++ toBe 4 (8 * n))).take n

/-- The single-step derivation with SHA-384 of 07 R211, n bytes. -/
def kdfSingle (z info : Bytes) (n : Nat) : Bytes :=
  ((List.range (ceilDiv n 48)).flatMap fun i => sha384 (toBe 4 (i + 1) ++ z ++ info)).take n

/-- CTR_DRBG update (SP 800-90A) with AES-256. -/
def drbgUpdate (kv : Bytes × Bytes) (data : Bytes) : Bytes × Bytes :=
  let enc := aesEnc kv.1
  let t := (List.range 3).flatMap fun i => enc (ctrBlock kv.2 (i + 1))
  let x := xorBytes t data
  (x.take 32, x.drop 32)

/-- Block_Cipher_df (SP 800-90A) to 48 bytes with AES-256. -/
def drbgDf (m : Bytes) : Bytes :=
  let s := toBe 4 m.length ++ toBe 4 48 ++ m ++ [0x80]
  let s := s ++ zeroBytes (roundUp 16 s.length - s.length)
  let k0 := aesEnc ((List.range 32).map fun i => BitVec.ofNat 8 i)
  let t := (List.range 3).flatMap fun i => cbcMac k0 16 (toBe 4 i ++ zeroBytes 12 ++ s)
  let enc := aesEnc (t.take 32)
  let x1 := enc (t.drop 32)
  let x2 := enc x1
  x1 ++ x2 ++ enc x2

/-- CTR_DRBG instantiate with the derivation function. -/
def drbgInstantiate (entropy nonce pers : Bytes) : Bytes × Bytes :=
  drbgUpdate (zeroBytes 32, zeroBytes 16) (drbgDf (entropy ++ nonce ++ pers))

/-- CTR_DRBG reseed. -/
def drbgReseed (kv : Bytes × Bytes) (entropy add : Bytes) : Bytes × Bytes := drbgUpdate kv (drbgDf (entropy ++ add))

/-- CTR_DRBG generate of n bytes: the bytes and the new state. -/
def drbgGenerate (kv : Bytes × Bytes) (add : Bytes) (n : Nat) : Bytes × (Bytes × Bytes) :=
  let a := if add.length = 0 then zeroBytes 48 else drbgDf add
  let kv := if add.length = 0 then kv else drbgUpdate kv a
  let enc := aesEnc kv.1
  let out := ((List.range (ceilDiv n 16)).flatMap fun i => enc (ctrBlock kv.2 (i + 1))).take n
  (out, drbgUpdate (kv.1, ctrBlock kv.2 (ceilDiv n 16)) a)

end Sys2Proof.Machine
end

