-- ==== Sys2Proof/Machine/Curves.lean ====
section
/-! DEFINITION. The curves and groups of 07_public_key_cores.md: NIST prime curves with ECDSA and ECDH (FIPS 186-5,
SP 800-56A), Ed25519 and Ed448 (RFC 8032), X25519 and X448 (RFC 7748). Arithmetic is exact over Nat and reduced. -/

namespace Sys2Proof.Machine

/-- A short Weierstrass curve with a = -3. -/
structure Curve where
  /-- The field prime. -/
  p : Nat
  /-- The coefficient b. -/
  b : Nat
  /-- The order of the base point. -/
  n : Nat
  /-- The base point. -/
  g : Nat × Nat
  /-- The field size F in bytes. -/
  f : Nat
deriving DecidableEq, Repr

/-- P-256. -/
def p256 : Curve :=
  { p := 2 ^ 256 - 2 ^ 224 + 2 ^ 192 + 2 ^ 96 - 1,
    b := 0x5ac635d8aa3a93e7b3ebbd55769886bc651d06b0cc53b0f63bce3c3e27d2604b,
    n := 0xffffffff00000000ffffffffffffffffbce6faada7179e84f3b9cac2fc632551,
    g := (0x6b17d1f2e12c4247f8bce6e563a440f277037d812deb33a0f4a13945d898c296,
          0x4fe342e2fe1a7f9b8ee7eb4a7c0f9e162bce33576b315ececbb6406837bf51f5),
    f := 32 }

/-- P-384. -/
def p384 : Curve :=
  { p := 2 ^ 384 - 2 ^ 128 - 2 ^ 96 + 2 ^ 32 - 1,
    b := 0xb3312fa7e23ee7e4988e056be3f82d19181d9c6efe8141120314088f5013875ac656398d8a2ed19d2a85c8edd3ec2aef,
    n := 0xffffffffffffffffffffffffffffffffffffffffffffffffc7634d81f4372ddf581a0db248b0a77aecec196accc52973,
    g := (0xaa87ca22be8b05378eb1c71ef320ad746e1d3b628ba79b9859f741e082542a385502f25dbf55296c3a545e3872760ab7,
          0x3617de4a96262c6f5d9e98bf9292dc29f8f41dbd289a147ce9da3113b5f0b8c00a60b1ce1d7e819d7a431d7c90ea0e5f),
    f := 48 }

/-- P-521. -/
def p521 : Curve :=
  { p := 2 ^ 521 - 1,
    b := 0x51953eb9618e1c9a1f929a21a0b68540eea2da725b99b315f3b8b489918ef109e156193951ec7e937b1652c0bd3bb1bf073573df883d2c34f1ef451fd46b503f00,
    n := 0x1fffffffffffffffffffffffffffffffffffffffffffffffffffffffffffffffffa51868783bf2f966b7fcc0148f709a5d03bb5c9b8899c47aebb6fb71e91386409,
    g := (0xc6858e06b70404e9cd9e3ecb662395b4429c648139053fb521f828af606b4d3dbaa14b5e77efe75928fe1dc127a2ffa8de3348b3c1856a429bf97e7e31c2e5bd66,
          0x11839296a789a3bc0045c8a5fb42c7d1bd998f54449579b446817afbd17273e662c97ee72995ef42640c550b9013fad0761353c7086a272c24088be94769fd16650),
    f := 66 }

/-- The curve of a class or VAR code: 0 P-256, 1 P-384, 2 P-521. -/
def curveOf (i : Nat) : Curve := if i = 0 then p256 else if i = 1 then p384 else p521

/-- A point, or none for the point at infinity. -/
abbrev Point := Option (Nat × Nat)

/-- Whether coordinates are a point of the curve other than infinity. -/
def onCurve (c : Curve) (q : Nat × Nat) : Bool :=
  q.1 < c.p && q.2 < c.p && (q.2 * q.2) % c.p == (q.1 ^ 3 + (c.p - 3) * q.1 + c.b) % c.p

/-- The third point of the line of slope l through q and r, reflected. -/
def ecChord (c : Curve) (l : Nat) (q r : Nat × Nat) : Point :=
  let x := subMod (subMod (l * l % c.p) q.1 c.p) r.1 c.p
  some (x, subMod (l * subMod q.1 x c.p % c.p) q.2 c.p)

/-- Point addition. -/
def ecAdd (c : Curve) (a b : Point) : Point :=
  match a, b with
  | none, _ => b
  | _, none => a
  | some q, some r =>
    if q.1 = r.1 then
      if (q.2 + r.2) % c.p = 0 then none
      else ecChord c ((3 * q.1 * q.1 + c.p - 3) * invMod (2 * q.2) c.p % c.p) q r
    else ecChord c (subMod r.2 q.2 c.p * invMod (subMod r.1 q.1 c.p) c.p % c.p) q r

/-- A point with a denominator: X, Y, Z. -/
abbrev Weighted := Nat × Nat × Nat

/-- Twice the point x = X / Z², y = Y / Z³ of a curve over the field of p; Z is 0 at infinity. -/
def ecTwice (p : Nat) (a : Weighted) : Weighted :=
  let g := a.2.1 * a.2.1 % p
  let b := a.1 * g % p
  let d := a.2.2 * a.2.2 % p
  let l := 3 * subMod a.1 d p * (a.1 + d) % p
  let x := subMod (l * l) (8 * b) p
  (x, subMod (l * subMod (4 * b) x p) (8 * g * g) p, 2 * a.2.1 * a.2.2 % p)

/-- The sum of two such points. -/
def ecSum (p : Nat) (a b : Weighted) : Weighted :=
  if a.2.2 = 0 then b
  else if b.2.2 = 0 then a
  else
    let za := a.2.2 * a.2.2 % p
    let zb := b.2.2 * b.2.2 % p
    let u := a.1 * zb % p
    let s := a.2.1 * zb * b.2.2 % p
    let h := subMod (b.1 * za) u p
    let r := subMod (b.2.1 * za * a.2.2) s p
    if h = 0 then (if r = 0 then ecTwice p a else (1, 1, 0))
    else
      let hh := h * h % p
      let v := u * hh % p
      let x := subMod (r * r) (h * hh + 2 * v) p
      (x, subMod (r * subMod v x p) (s * (h * hh % p)) p, a.2.2 * b.2.2 * h % p)

/-- From a on, double and add along the n low bits of k. -/
def ecMulAux (p k : Nat) (q : Weighted) : Nat → Weighted → Weighted
  | 0, a => a
  | n + 1, a =>
    if a.2.2 = 0 then ecMulAux p k q n (if k.testBit n then q else a)
    else if k.testBit n then ecMulAux p k q n (ecSum p (ecTwice p a) q)
    else ecMulAux p k q n (ecTwice p a)

/-- The blinding values of a secret scalar and of a point (07 R218). -/
structure Blind where
  /-- The random multiple of the group order that is added to the scalar. -/
  multiple : Nat
  /-- The denominator of the point's random representation. -/
  weight : Nat
deriving DecidableEq, Repr

/-- No blinding: public operands. -/
def Blind.none : Blind := { multiple := 0, weight := 1 }

/-- A denominator in the field of p, never 0. -/
def Blind.denom (b : Blind) (p : Nat) : Nat := if b.weight % p = 0 then 1 else b.weight % p

/-- Scalar multiplication under blinding values. -/
def ecMulWith (c : Curve) (bl : Blind) (k : Nat) (q : Point) : Point :=
  match q with
  | .none => .none
  | some q =>
    let w := bl.denom c.p
    let k := k + bl.multiple * c.n
    let r := ecMulAux c.p k (q.1 * w % c.p * w % c.p, q.2 * w % c.p * w % c.p * w % c.p, w) (Nat.log2 k + 1) (1, 1, 0)
    if r.2.2 = 0 then none
    else
      let z := invMod r.2.2 c.p
      let zz := z * z % c.p
      some (r.1 * zz % c.p, r.2.1 * (zz * z % c.p) % c.p)

/-- Scalar multiplication. -/
def ecMul (c : Curve) (k : Nat) (q : Point) : Point := ecMulWith c Blind.none k q

/-- The coordinates X ‖ Y of a point (07: byte strings of 2F bytes). -/
def pointBytes (c : Curve) (q : Point) : Bytes :=
  match q with
  | some r => toBe c.f r.1 ++ toBe c.f r.2
  | none => zeroBytes (2 * c.f)

/-- The point of 2F bytes, none where it is not a point of the curve. -/
def pointOf (c : Curve) (bs : Bytes) : Point :=
  let q := (beNat (bs.take c.f), beNat (slice c.f c.f bs))
  if bs.length = 2 * c.f && onCurve c q then some q else none

/-- The public key of a scalar, under blinding values. -/
def ecPublicWith (c : Curve) (bl : Blind) (d : Nat) : Bytes := pointBytes c (ecMulWith c bl d (some c.g))

/-- The public key of a scalar. -/
def ecPublic (c : Curve) (d : Nat) : Bytes := ecPublicWith c Blind.none d

/-- The integer of a digest as ECDSA truncates it: the leftmost bits, as many as the order has. -/
def ecdsaZ (c : Curve) (digest : Bytes) : Nat :=
  let nb := Nat.log2 c.n + 1
  beNat digest / 2 ^ (8 * digest.length - nb)

/-- An ECDSA signature with per-signature value k: r ‖ s. -/
def ecdsaSign (c : Curve) (bl : Blind) (d k : Nat) (digest : Bytes) : Bytes :=
  match ecMulWith c bl k (some c.g) with
  | some q =>
    let r := q.1 % c.n
    toBe c.f r ++ toBe c.f (invMod k c.n * (ecdsaZ c digest + r * d) % c.n)
  | none => zeroBytes (2 * c.f)

/-- Whether r ‖ s verifies under a public key X ‖ Y. -/
def ecdsaVerify (c : Curve) (pub digest sig : Bytes) : Bool :=
  let r := beNat (sig.take c.f)
  let s := beNat (slice c.f c.f sig)
  match pointOf c pub with
  | none => false
  | some q =>
    if sig.length = 2 * c.f && 0 < r && r < c.n && 0 < s && s < c.n then
      let w := invMod s c.n
      match ecAdd c (ecMul c (ecdsaZ c digest * w % c.n) (some c.g)) (ecMul c (r * w % c.n) (some q)) with
      | some v => v.1 % c.n == r
      | none => false
    else false

/-- The shared secret of ECDH: the x coordinate, F bytes; none where the key is no point or the result is infinity. -/
def ecdhWith (c : Curve) (bl : Blind) (d : Nat) (pub : Bytes) : Option Bytes :=
  match pointOf c pub with
  | none => none
  | some q => (ecMulWith c bl d (some q)).map fun r => toBe c.f r.1

/-- ECDH without blinding values. -/
def ecdh (c : Curve) (d : Nat) (pub : Bytes) : Option Bytes := ecdhWith c Blind.none d pub

/-- A twisted Edwards curve. -/
structure Edwards where
  /-- The field prime. -/
  p : Nat
  /-- The coefficients a and d. -/
  a : Nat
  /-- d. -/
  d : Nat
  /-- The order of the base point. -/
  l : Nat
  /-- The base point. -/
  g : Nat × Nat
  /-- The bytes of an encoded point. -/
  f : Nat
  /-- Ed448. -/
  big : Bool
deriving DecidableEq, Repr

/-- A square root modulo p for p = 3 mod 4 or p = 5 mod 8. -/
def sqrtMod (v p : Nat) : Option Nat :=
  let r := if p % 4 = 3 then powMod v ((p + 1) / 4) p
    else let c := powMod v ((p + 3) / 8) p
         if c * c % p = v % p then c else c * powMod 2 ((p - 1) / 4) p % p
  if r * r % p = v % p then some r else none

/-- The x coordinate for y with the given lowest bit. -/
def edX (p a d y sign : Nat) : Option Nat :=
  let y2 := y * y % p
  match sqrtMod (subMod 1 y2 p * invMod (subMod a (d * y2 % p) p) p % p) p with
  | none => none
  | some x => if x = 0 && sign = 1 then none else some (if x % 2 = sign then x else p - x)

/-- edwards25519. -/
def ed25519 : Edwards :=
  let p := 2 ^ 255 - 19
  let d := subMod 0 (121665 * invMod 121666 p % p) p
  let y := 4 * invMod 5 p % p
  { p := p, a := p - 1, d := d, l := 2 ^ 252 + 27742317777372353535851937790883648493,
    g := ((edX p (p - 1) d y 0).getD 0, y), f := 32, big := false }

/-- edwards448. -/
def ed448 : Edwards :=
  { p := 2 ^ 448 - 2 ^ 224 - 1, a := 1, d := 2 ^ 448 - 2 ^ 224 - 1 - 39081,
    l := 2 ^ 446 - 13818066809895115352007386748515426880336692474882178609894547503885,
    g := (224580040295924300187604334099896036246789641632564134246125461686950415467406032909029192869357953282578032075146446173674602635247710,
          298819210078481492676017930443930673437544040154080242095928241372331506189835876003536878655418784733982303233503462500531545062832660),
    f := 57, big := true }

/-- Edwards addition. -/
def edAdd (e : Edwards) (q r : Nat × Nat) : Nat × Nat :=
  let t := e.d * (q.1 * r.1 % e.p) % e.p * (q.2 * r.2 % e.p) % e.p
  ((q.1 * r.2 + q.2 * r.1) * invMod (1 + t) e.p % e.p,
   subMod (q.2 * r.2) (e.a * (q.1 * r.1) % e.p) e.p * invMod (subMod 1 t e.p) e.p % e.p)

/-- The sum of two points x = X / Z, y = Y / Z of an Edwards curve. -/
def edSum (e : Edwards) (q r : Weighted) : Weighted :=
  let p := e.p
  let a := q.2.2 * r.2.2 % p
  let c := q.1 * r.1 % p
  let d := q.2.1 * r.2.1 % p
  let t := e.d * (c * d % p) % p
  let f := subMod (a * a) t p
  let g := (a * a + t) % p
  (a * f % p * ((q.1 * r.2.1 + q.2.1 * r.1) % p) % p, a * g % p * subMod d (e.a * c) p % p, f * g % p)

/-- From a on, double and add along the n low bits of k; doubling the neutral element is left out. -/
def edMulAux (e : Edwards) (k : Nat) (q : Weighted) : Nat → Weighted → Weighted
  | 0, a => a
  | n + 1, a =>
    if a.1 = 0 ∧ a.2.1 = a.2.2 then edMulAux e k q n (if k.testBit n then q else a)
    else if k.testBit n then edMulAux e k q n (edSum e (edSum e a a) q)
    else edMulAux e k q n (edSum e a a)

/-- Edwards scalar multiplication of a point of the base point's group, under blinding values. -/
def edMulWith (e : Edwards) (bl : Blind) (k : Nat) (q : Nat × Nat) : Nat × Nat :=
  let w := bl.denom e.p
  let k := k + bl.multiple * e.l
  let r := edMulAux e k (q.1 * w % e.p, q.2 * w % e.p, w) (Nat.log2 k + 1) (0, 1, 1)
  let z := invMod r.2.2 e.p
  (r.1 * z % e.p, r.2.1 * z % e.p)

/-- Edwards scalar multiplication. -/
def edMul (e : Edwards) (k : Nat) (q : Nat × Nat) : Nat × Nat := edMulWith e Blind.none k q

/-- The bit that holds the sign of x in an encoded point. -/
def edSignBit (e : Edwards) : Nat := 8 * e.f - 1

/-- The encoding of a point. -/
def edEncode (e : Edwards) (q : Nat × Nat) : Bytes := toLe e.f (q.2 + (q.1 % 2) * 2 ^ edSignBit e)

/-- The point of an encoding; none where it is no point. -/
def edDecode (e : Edwards) (bs : Bytes) : Option (Nat × Nat) :=
  let v := leNat bs
  let y := v % 2 ^ edSignBit e
  if bs.length = e.f && y < e.p then (edX e.p e.a e.d y (v / 2 ^ edSignBit e)).map fun x => (x, y) else none

/-- The hash of RFC 8032 for the curve, with the pure prefix. -/
def edHash (e : Edwards) (m : Bytes) : Bytes :=
  if e.big then shake256 114 (ascii "SigEd448" ++ [0, 0] ++ m) else sha512 m

/-- The clamped scalar and the prefix of a secret key. -/
def edSecret (e : Edwards) (sk : Bytes) : Nat × Bytes :=
  let h := if e.big then shake256 114 sk else sha512 sk
  let v := leNat (h.take e.f)
  let s := if e.big then v % 2 ^ 447 / 4 * 4 + 2 ^ 447 else v % 2 ^ 254 / 8 * 8 + 2 ^ 254
  (s, h.drop e.f)

/-- The public key of a secret key, under blinding values. -/
def edPublicWith (e : Edwards) (bl : Blind) (sk : Bytes) : Bytes := edEncode e (edMulWith e bl (edSecret e sk).1 e.g)

/-- The public key of a secret key. -/
def edPublic (e : Edwards) (sk : Bytes) : Bytes := edPublicWith e Blind.none sk

/-- The signature R ‖ S of RFC 8032. -/
def edSign (e : Edwards) (bl : Blind) (sk m : Bytes) : Bytes :=
  let s := edSecret e sk
  let a := edPublicWith e bl sk
  let r := leNat (edHash e (s.2 ++ m)) % e.l
  let rb := edEncode e (edMulWith e bl r e.g)
  let k := leNat (edHash e (rb ++ a ++ m)) % e.l
  rb ++ toLe e.f ((r + k * s.1) % e.l)

/-- Whether S of a signature is below the group order and its R decodes. -/
def edSigOk (e : Edwards) (sig : Bytes) : Bool :=
  sig.length == 2 * e.f && leNat (sig.drop e.f) < e.l && (edDecode e (sig.take e.f)).isSome

/-- Verification by the cofactored equation [8][S]B = [8]R + [8][k]A (07 R210). -/
def edVerify (e : Edwards) (pub m sig : Bytes) : Bool :=
  let s := leNat (sig.drop e.f)
  match edDecode e pub, edDecode e (sig.take e.f) with
  | some a, some r =>
    let k := leNat (edHash e (sig.take e.f ++ pub ++ m)) % e.l
    edSigOk e sig && edMul e 8 (edMul e s e.g) == edMul e 8 (edAdd e r (edMul e k a))
  | _, _ => false

/-- A Montgomery curve of RFC 7748: prime, (A - 2) / 4, bits. -/
structure Montgomery where
  /-- The prime. -/
  p : Nat
  /-- a24. -/
  a24 : Nat
  /-- Bits of the scalar. -/
  n : Nat
  /-- The bytes of a coordinate. -/
  f : Nat
  /-- The base u-coordinate. -/
  g : Nat
deriving DecidableEq, Repr

/-- X25519. -/
def x25519 : Montgomery := { p := 2 ^ 255 - 19, a24 := 121665, n := 255, f := 32, g := 9 }

/-- X448. -/
def x448 : Montgomery := { p := 2 ^ 448 - 2 ^ 224 - 1, a24 := 39081, n := 448, f := 56, g := 5 }

/-- The decoded scalar of RFC 7748. -/
def xScalar (m : Montgomery) (k : Bytes) : Nat :=
  if m.f = 32 then leNat k % 2 ^ 254 / 8 * 8 + 2 ^ 254 else leNat k % 2 ^ 447 / 4 * 4 + 2 ^ 447

/-- One ladder step on x2, z2, x3, z3 (already swapped for the bit). -/
def xStep (m : Montgomery) (x1 x2 z2 x3 z3 : Nat) : Nat × Nat × Nat × Nat :=
  let p := m.p
  let a := (x2 + z2) % p
  let aa := a * a % p
  let b := subMod x2 z2 p
  let bb := b * b % p
  let e := subMod aa bb p
  let da := subMod x3 z3 p * a % p
  let cb := (x3 + z3) * b % p
  let d := subMod da cb p
  (aa * bb % p, e * (aa + m.a24 * e) % p, (da + cb) * (da + cb) % p, x1 * (d * d % p) % p)

/-- The ladder from bit t - 1 downward. -/
def xLadder (m : Montgomery) (k x1 : Nat) : Nat → Nat × Nat × Nat × Nat → Nat × Nat × Nat × Nat
  | 0, v => v
  | t + 1, v =>
    let v' := if k.testBit t
      then let r := xStep m x1 v.2.2.1 v.2.2.2 v.1 v.2.1
           (r.2.2.1, r.2.2.2, r.1, r.2.1)
      else xStep m x1 v.1 v.2.1 v.2.2.1 v.2.2.2
    xLadder m k x1 t v'

/-- The order of the group a u-coordinate belongs to: the curve's, or that of its twist, which the function serves alike. -/
def xOrder (m : Montgomery) (u : Nat) : Nat :=
  let a := 4 * m.a24 + 2
  let onCurve := powMod (u * (u * u + a * u + 1)) ((m.p - 1) / 2) m.p ≤ 1
  let n := if m.f = 32 then 8 * ed25519.l else 4 * ed448.l
  if onCurve then n else 2 * (m.p + 1) - n

/-- The function X25519 or X448 of a scalar and a u-coordinate, under blinding values. -/
def xdh (m : Montgomery) (bl : Blind) (k u : Bytes) : Bytes :=
  let x1 := (if m.f = 32 then leNat u % 2 ^ 255 else leNat u) % m.p
  let w := bl.denom m.p
  let e := xScalar m k + bl.multiple * xOrder m x1
  let v := xLadder m e x1 (max m.n (Nat.log2 e + 1)) (1, 0, x1 * w % m.p, w)
  toLe m.f (v.1 * powMod v.2.1 (m.p - 2) m.p % m.p)

/-! ### Safe-prime groups (07 R208: RFC 3526, RFC 7919) -/

/-- The arctangent of 1/x times 2^g, from n terms. -/
def atanInv (x g n : Nat) : Nat :=
  let r := (List.range n).foldl (fun (a : Nat × Nat × Nat) k =>
    let t := a.1 / (2 * k + 1)
    (a.1 / (x * x), if k % 2 = 0 then (a.2.1 + t, a.2.2) else (a.2.1, a.2.2 + t))) (2 ^ g / x, 0, 0)
  r.2.1 - r.2.2

/-- The integer part of 2^n times pi. -/
def piBits (n : Nat) : Nat := 4 * (4 * atanInv 5 (n + 64) (n / 4 + 16) - atanInv 239 (n + 64) (n / 15 + 16)) / 2 ^ 64

/-- The integer part of 2^n times e, for n up to 4,096. -/
def eBits (n : Nat) : Nat :=
  ((List.range 700).foldl (fun (a : Nat × Nat) k => (a.1 / (k + 1), a.2 + a.1)) (2 ^ (n + 64), 0)).2 / 2 ^ 64

/-- The prime of a group of n bits over the bits of a constant and its offset. -/
def groupPrime (n : Nat) (bits : Nat → Nat) (offset : Nat) : Nat :=
  2 ^ n - 2 ^ (n - 64) - 1 + 2 ^ 64 * (bits (n - 130) + offset)

/-- The prime of an FFDH group by VAR (07 Table 7.2); its generator is 2. -/
def ffdhPrime (v : Nat) : Nat :=
  match v with
  | 0 => groupPrime 2048 eBits 560316
  | 1 => groupPrime 3072 eBits 2625351
  | 2 => groupPrime 4096 eBits 5736041
  | 4 => groupPrime 2048 piBits 124476
  | 5 => groupPrime 3072 piBits 1690314
  | _ => groupPrime 4096 piBits 240904

end Sys2Proof.Machine
end

