-- ==== Sys2Proof/Machine/State.lean ====
section
/-! DEFINITION. The state of the block as plain data: every register, context, buffer, counter, mode and pin of the spec, and
the queue of waiting commands. A field's docstring reads: width; chapter and rule of spec/; reset value. "log n" is
notes/assumptions/n.md. A field marked MODEL is the model's own. -/

namespace Sys2Proof.Machine

/-- A sparse table: keys strictly rising, no entry equal to the table's default (`Map.get` in Ops.lean). -/
abbrev Map (α : Type) := List (Nat × α)

/-- The sizes of 00_scope.md Table 0.1. -/
inductive Size where
  | small
  | medium
  | large
deriving DecidableEq, Repr

/-- The twelve modes (12_modes_and_power.md Table 12.3). -/
inductive Mode where
  | hold | reset | selftest | sealed | ceremony | operational | degraded | drowse | maintenance | factory | struck | retired
deriving DecidableEq, Repr

/-- The faults of the block: it has none of its own. The register port answers an access that does not exist with an error
response or with zero (13 R354, R356), and every other failure is a status, so no command stops the model. Safe. -/
inductive Fault where
deriving DecidableEq, Repr

/-- The refusals. -/
inductive Refusal where
  /-- A command whose meaning is not written. Raised by an arm of Dispatch.lean only. Safe. -/
  | notModelled (mnemonic : String)
deriving DecidableEq, Repr

/-- Fuses, straps and certified values of the chip. -/
structure Chip where
  /-- 1 of 3; 00 Table 0.1; DESIGN CHOICE TX7-L, log 20. The configuration. -/
  size : Size
  /-- 7 bits; 14 R376; DESIGN CHOICE 64, log 20. FAB_ADDR_BITS. -/
  fabAddrBits : Nat
  /-- 1 bit; 14 R376; DESIGN CHOICE 1, log 20. FP1_PRESENT. -/
  fp1Present : Bool
  /-- 6 bits; 14 R388; DESIGN CHOICE 36, log 20. DOM_LSB. -/
  domLsb : Nat
  /-- 11 bits; 14 R407; DESIGN CHOICE 0, log 20. TAP_MFR. -/
  tapMfr : BitVec 11
  /-- 16 B; 15 R418; DESIGN CHOICE zeros, log 20. DEVICE_ID fuses. -/
  deviceId : Bytes
  /-- 64 bits; 15 R427; DESIGN CHOICE 0, log 20. The fused default address of a firmware image. -/
  fwDefault : Word
  /-- 48 B; 15 R426; DESIGN CHOICE zeros, log 20. The firmware key hash fuses. -/
  fwKeyHash : Bytes
  /-- 48 B; 15 R431; DESIGN CHOICE zeros, log 20. The maintenance key hash fuses. -/
  maintKeyHash : Bytes
  /-- 32 B or blank; 14 R390, R396; DESIGN CHOICE zeros, log 20. K_V fuses. -/
  vaultKey : Option Bytes
  /-- 32 B or blank; 09 R260; DESIGN CHOICE zeros, log 20. The conditioning key fuses. -/
  condKey : Option Bytes
  /-- 1 bit; 12 R345; DESIGN CHOICE 1, log 20. The enrolled fuse. -/
  enrolled : Bool
  /-- 1 bit; 14 R408; DESIGN CHOICE 1, log 20. The field-lock fuse, blown with the enrolled fuse. -/
  fieldLock : Bool
  /-- 1 bit; 12 R331; DESIGN CHOICE 0, log 20. The retired fuse. -/
  retired : Bool
  /-- 16 B; 12 Table 12.6; DESIGN CHOICE the value of a DRK of zeros, log 20. The DRK check value fused at enrolment. -/
  drkCheck : Bytes
  /-- 96 B; 12 Table 12.6; DESIGN CHOICE the key of the scalar 1, log 20. The certified IDK public key X ‖ Y. -/
  idkPublic : Bytes
deriving DecidableEq, Repr

/-- A tamper or sensor record the always-on island makes in HOLD (12 R344). -/
structure HoldRecord where
  /-- 8 bits; 12 R344; –. The event to raise at the next start. -/
  event : BitVec 8
  /-- 64 bits; 15 Table 15.5; –. The channel or sensor. -/
  object : Word
  /-- 64 bits; 15 Table 15.5; –. The measured value. -/
  value : Word
deriving DecidableEq, Repr

/-- The always-on island (12 R344, 15 R418). -/
structure AlwaysOn where
  /-- 256 bits or absent; 08 R249; DESIGN CHOICE 32 zero bytes, log 20. The device root key DRK. -/
  drk : Option Bytes
  /-- 384 bits or absent; 08 R249; DESIGN CHOICE 1, log 20. The IDK private scalar. -/
  idk : Option Nat
  /-- 24 bits or absent; 12 R330, R333; DESIGN CHOICE 0, log 20. The epoch shadow. -/
  epochShadow : Option (BitVec 24)
  /-- 1 bit; 15 R416; DESIGN CHOICE 0, log 20. TP_STATUS.STRUCK_FLAG. -/
  strikeFlag : Bool
  /-- 1 bit; 15 R416, R419; DESIGN CHOICE 0, log 20. TP_STATUS.VERIFIED. -/
  verified : Bool
  /-- 8 bits; 15 Table 15.10; DESIGN CHOICE 0, log 20. TP_STATUS.LAST_CAUSE. -/
  lastCause : BitVec 8
  /-- 32 bits; 15 Table 15.10; DESIGN CHOICE 0, log 20. TP_COUNT.WARNS. -/
  warns : Nat
  /-- 16 bits; 15 Table 15.10; DESIGN CHOICE 0, log 20. TP_COUNT.GUARDS. -/
  guards : Nat
  /-- 16 bits; 15 Table 15.10; DESIGN CHOICE 0, log 20. TP_COUNT.STRIKES. -/
  strikes : Nat
  /-- 1 bit; 15 R427; DESIGN CHOICE 0, log 20. TRIAL_RUN. -/
  trialRun : Bool
  /-- 64 bits; 15 R431; DESIGN CHOICE 0, log 20. CHAL_NO. -/
  chalNo : Nat
  /-- 64 bits; 14 R392; DESIGN CHOICE 0, log 20. The vault nonce counter. -/
  nonceCounter : Nat
  /-- 64 bits; 08 R245; DESIGN CHOICE 0, log 20. EXPORT_NO. -/
  exportNo : Nat
  /-- 31 bits; 15 R410; DESIGN CHOICE 0, log 20. The mesh seed S. -/
  meshSeed : BitVec 31
  /-- 8 × 16 bits; 15 R412; DESIGN CHOICE zeros, log 20. TP_MESHi.BASELINE. -/
  baseline : List (BitVec 16)
  /-- 8 × 16 bits; 15 Table 15.10; DESIGN CHOICE zeros, log 20. TP_MESHi.RESIST. -/
  resist : List (BitVec 16)
  /-- 8 × 4 bits; 15 R411; DESIGN CHOICE zeros, log 20. TP_MESHi.FAULT, held until the next start. -/
  meshFault : List (BitVec 4)
  /-- 8 bits; 15 Table 15.10; 0x00. TP_STATUS.MESH_DRIFT. -/
  meshDrift : BitVec 8
  /-- at most 16 records; 12 R344; none. The records made in HOLD. -/
  holdRecords : List HoldRecord
  /-- 24 B or none; 15 R423; none. SEQ and CHAIN of the last chained entry. -/
  lastEntry : Option (Nat × Bytes)
  /-- count; 15 R429; DESIGN CHOICE 0, log 20. Successive password failures. -/
  diagFailures : Nat
  /-- µs; 15 R429; none. The end of a password lockout. -/
  lockedUntil : Option Nat
  /-- 1 bit; 14 R402; 0. STRIKE_OUT, with the time its strike completed. -/
  strikeOut : Option Nat
  /-- 1 bit; 15 R412; 0. A MESH_ENROL measurement is running. -/
  enrolling : Bool
  /-- µs; 12 R344; 0. The island's own timekeeping, in every mode. -/
  time : Nat
deriving DecidableEq, Repr

/-- The monitored values (15 Table 15.10). -/
structure Sensors where
  /-- 4 × 16 bits signed; 15 Table 15.10; DESIGN CHOICE 0, log 20. SENS_TEMP T0 to T3. -/
  temps : List Int
  /-- 16 bits; 15 Table 15.10; DESIGN CHOICE 750, log 20. VDD_CORE in mV. -/
  vddCore : Int
  /-- 16 bits; 15 Table 15.10; DESIGN CHOICE 800, log 20. VDD_SRAM in mV. -/
  vddSram : Int
  /-- 16 bits; 15 Table 15.10; DESIGN CHOICE 800, log 20. VDD_AO in mV. -/
  vddAo : Int
  /-- 16 bits; 15 Table 15.10; DESIGN CHOICE 600, log 20. FEED_A in mV. -/
  feedA : Int
  /-- 16 bits; 15 Table 15.10; DESIGN CHOICE 600, log 20. FEED_B in mV. -/
  feedB : Int
  /-- 16 bits; 15 Table 15.10; DESIGN CHOICE 0, log 20. LIGHT in pA. -/
  light : Int
  /-- 16 bits signed; 15 Table 15.10; DESIGN CHOICE 0, log 20. REFCLK in 10 ppm. -/
  refclk : Int
  /-- 4 bits; 15 Table 15.10; 0. TEMP_WARN, FEED_WARN, AO_WARN, LIGHT_WARN. -/
  tempWarn : Bool
  /-- 1 bit; 15 Table 15.10; 0. FEED_WARN. -/
  feedWarn : Bool
  /-- 1 bit; 15 Table 15.10; 0. AO_WARN. -/
  aoWarn : Bool
  /-- 1 bit; 15 Table 15.10; 0. LIGHT_WARN. -/
  lightWarn : Bool
  /-- 1 bit; 15 Table 15.10; 0. TP_STATUS.WARN, W1C. -/
  warn : Bool
deriving DecidableEq, Repr

/-- MODE, MODE_REQ and the start-up sequence. -/
structure Modes where
  /-- 4 bits; 12 Table 12.2; 0x2. MODE.MODE. -/
  mode : Mode
  /-- 4 bits; 12 Table 12.2; DESIGN CHOICE 0x1 (HOLD), log 20. MODE.PREV. -/
  prev : Mode
  /-- 1 bit and 4 bits; 12 Table 12.2; 0. MODE.PENDING and MODE.TARGET. -/
  pending : Option Mode
  /-- 8 bits; 12 Table 12.2; 0x00. MODE.ST_FAIL. -/
  stFail : BitVec 8
  /-- 16 bits; 12 Table 12.2; 0x0000. MODE_REQ.RESULT. -/
  result : Status
  /-- 1 bit; 12 Table 12.2; 0. MODE_REQ.BUSY. -/
  busy : Bool
  /-- 1 bit; 12 Table 12.2; 0. MODE_REQ.LOST. -/
  lost : Bool
  /-- 1 bit; 12 Table 12.2; 0. MODE_REQ.ARMED, with its time. -/
  armed : Option Nat
  /-- 1 bit; 12 Table 12.2; 1. MODE_REQ.DRAIN. -/
  drain : Bool
  /-- 4 bits; 12 Table 12.2; 0x0. MODE_REQ.TARGET. -/
  target : BitVec 4
  /-- 3 bits; 15 Table 15.4; DESIGN CHOICE 2 (supply return), log 20. The kind of the last reset. -/
  resetKind : BitVec 3
  /-- 1 bit; 15 R413; 0. The tamper logic holds the core reset (GUARD). -/
  guardHeld : Bool
  /-- 1 bit; 14 R402; DESIGN CHOICE 1, log 20. VDD_CORE_OK. -/
  coreOk : Bool
  /-- 1 bit; 14 R402; DESIGN CHOICE 1, log 20. VDD_SRAM_OK. -/
  sramOk : Bool
  /-- 1 bit; 14 R402; DESIGN CHOICE released, log 20. CORE_RST_N is low. -/
  rstLow : Bool
  /-- set; 12 R332; none. The self-test items not yet ended. -/
  items : List TestItem
  /-- 1 bit; 14 R463; 0. HOLD_READY. -/
  holdReady : Bool
  /-- µs; 15 R427; none. The next firmware attempt after a failed one. -/
  fwRetryAt : Option Nat
  /-- 1 bit; 12 Table 12.4; 0. The firmware is authenticated, and SELFTEST waits for the last switched island. -/
  authenticated : Bool
  /-- 1 bit; 13 R363, 16 R443; 0. The scheduler issues no further slate read. -/
  readsStopped : Bool
  /-- 1 bit; 13 R363, 16 R443; 0. The MP is to write MODE_REQ with TARGET 0x2 and DRAIN 0 within 1 µs. -/
  resetDue : Bool
  /-- µs; 12 R342; 0. The last mask-refresh pass. -/
  refreshAt : Nat
deriving DecidableEq, Repr

/-- A register access that the port holds (13 R355, 14 Table 14.4). -/
structure HeldAccess where
  /-- –; 14 R385; –. Who makes it. -/
  src : Source
  /-- 1 bit; 14 Table 14.4; –. RP_REQ_SIZE, with its alignment. -/
  size : AccSize
  /-- 20 bits; 14 Table 14.4; –. RP_REQ_OFFSET. -/
  offset : BitVec 20
  /-- 1 bit; 14 Table 14.4; –. RP_REQ_WRITE. -/
  write : Bool
  /-- 64 bits; 14 Table 14.4; –. RP_REQ_WDATA. -/
  value : Word
  /-- 6 bits; 14 Table 14.4; –. RP_REQ_TAG. -/
  tag : BitVec 6
deriving DecidableEq, Repr

/-- The registers of 13 Table 13.3 not held elsewhere, and the port's last answer. -/
structure Regs where
  /-- 1 bit; 13 R358; 0. LOCK_STATE.MGR_OPEN, with the time of its UNLOCK. -/
  mgrOpen : Option Nat
  /-- 1 bit; 13 R358; 0. LOCK_STATE.MP_OPEN, with the time of its UNLOCK. -/
  mpOpen : Option Nat
  /-- 1 bit; 13 Table 13.4; 0. LOCK_STATE.BAD_KEY. -/
  badKey : Bool
  /-- 1 bit; 13 Table 13.4; 0. LOCK_STATE.DENIED. -/
  denied : Bool
  /-- 16 bits; 13 Table 13.4; 0. LOCK_STATE.DENIED_COUNT. -/
  deniedCount : BitVec 16
  /-- 20 bits; 13 Table 13.4; 0. LOCK_STATE.DENIED_OFFSET. -/
  deniedOffset : BitVec 20
  /-- 2 bits; 13 Table 13.4; 0. LOCK_STATE.DENIED_SRC. -/
  deniedSrc : BitVec 2
  /-- 1 bit; 13 Table 13.4; 0. VOTE_STATUS.FLAG. -/
  voteFlag : Bool
  /-- 16 bits; 13 Table 13.4; 0. VOTE_STATUS.COUNT. -/
  voteCount : BitVec 16
  /-- 4 bits; 13 Table 13.4; 0. VOTE_STATUS.AREA. -/
  voteArea : BitVec 4
  /-- 3 bits; 13 Table 13.4; 0. VOTE_STATUS.COPY. -/
  voteCopy : BitVec 3
  /-- 32 bits; 13 Table 13.4; 0. VOTE_STATUS.WHERE. -/
  voteWhere : BitVec 32
  /-- 4 bits; 13 R363; none. MODE as it reads while its three copies differ: copy 0, until the reset. -/
  modeCopy : Option (BitVec 4)
  /-- 11 bits; 13 R363; none. FUNCTION of each call sheet whose copies differ, as it reads: copy 0, until the reset. -/
  funcCopies : List (Nat × Nat)
  /-- 64 bits; 13 Table 13.4; DESIGN CHOICE 0, log 20. FW_VERSION. -/
  fwVersion : Word
  /-- 64 bits; 13 Table 13.4; 0. CORE_TIME. -/
  coreTime : Word
  /-- 1 bit; 14 R384; 0. RP_RSP_ERR of the last access. -/
  rspErr : Bool
  /-- 64 bits; 14 R384; 0. RP_RSP_DATA of the last access. -/
  rspData : Word
  /-- 6 bits; 14 R384; 0. RP_REQ_TAG of the access being carried out. -/
  reqTag : BitVec 6
  /-- 6 bits; 14 R384; 0. RP_RSP_TAG of the last response. -/
  rspTag : BitVec 6
  /-- count; MODEL; 0. The accesses accepted, for the tags the containing chip chooses. -/
  accesses : Nat
  /-- at most 64; 13 R355, 12 R343, 14 R385; none. The accesses held and not yet answered, in arrival order. -/
  held : List HeldAccess
deriving DecidableEq, Repr

/-- An event vector (13 Table 13.9). -/
structure Vec where
  /-- 64 bits; 13 Table 13.9; 0. ADDR. -/
  addr : Word
  /-- 32 bits; 13 Table 13.9; 0. DATA. -/
  data : BitVec 32
  /-- 1 bit; 13 Table 13.9; 0. CTRL.PORT. -/
  port : Bool
  /-- 1 bit; 13 Table 13.9; 0. CTRL.MASKED. -/
  masked : Bool
deriving DecidableEq, Repr

/-- The event block (13 Table 13.8). -/
structure Events where
  /-- 256 bits; 13 R370; 0. EVT_STATUS0 to 3. -/
  status : BitVec 256
  /-- 256 bits; 16 R449; the default routing. EVT_ENABLE0 to 3. -/
  enable : BitVec 256
  /-- 512 bits; 13 R370; 0. EVT_ROUTE0 to 7. -/
  route : BitVec 512
  /-- 256 vectors; 13 R372; 0. EVT_VECTOR. -/
  vectors : Map Vec
  /-- 1 bit; 13 Table 13.8; 1. EVT_CTRL.MSG_EN. -/
  msgEn : Bool
  /-- vectors; 13 R372; none. Messages started and not yet issued, with their vector as it stood then. -/
  started : List (Nat × Vec)
  /-- vectors; 13 R373; none. Vectors on which 0xE6 starts nothing until they are written. -/
  blocked : List Nat
  /-- 16 bits; 13 Table 13.8; 0. EVT_LOST.COUNT. -/
  lostCount : BitVec 16
  /-- 1 bit; 13 Table 13.8; 0. EVT_LOST.FLAG. -/
  lostFlag : Bool
  /-- 8 bits; 13 Table 13.8; 0. EVT_LOST.LAST_VECTOR. -/
  lostVector : BitVec 8
deriving DecidableEq, Repr

/-- The states of a reel (02 Table 2.8). -/
inductive ReelState where
  | free | idle | active | paused | halted | aborted
deriving DecidableEq, Repr

/-- A reel context (02 Table 2.1). -/
structure ReelCtx where
  /-- 64 bits; 02 Table 2.1; from the command. RING_BASE. -/
  base : Word
  /-- 8 bits; 02 Table 2.1; from the command. SIZE_LOG2. -/
  log2 : Nat
  /-- 8 bits; 02 Table 2.1; 0x01. STATE. -/
  state : ReelState
  /-- 1 bit; 02 Table 2.2; 0. FLAGS.AGED. -/
  aged : Bool
  /-- 1 bit; 02 Table 2.2; 0. FLAGS.AGE_RUNNING. -/
  ageRunning : Bool
  /-- 1 bit; 02 Table 2.2; 0. FLAGS.ELIGIBLE. -/
  eligible : Bool
  /-- 1 bit; 02 Table 2.2; from the command. FLAGS.SERIAL. -/
  serial : Bool
  /-- 20 bits; 02 Table 2.1; from the command. DAILIES_INDEX. -/
  dailies : Nat
  /-- 16 bits; 02 Table 2.1; 0. HEAD. -/
  head : Nat
  /-- 16 bits; 02 Table 2.1; 0. TAIL. -/
  tail : Nat
  /-- 16 bits; 02 Table 2.1; from the command. START_FILL. -/
  startFill : Nat
  /-- 16 bits; 02 Table 2.1; from the command. STOP_FILL. -/
  stopFill : Nat
  /-- 16 bits; 02 Table 2.1; from the command. AGE_LIMIT. -/
  ageLimit : Nat
  /-- 16 bits; 02 Table 2.1; 0. IN_FLIGHT. -/
  inFlight : Nat
  /-- 16 bits; 02 Table 2.1; 0. HALT_STATUS. -/
  haltStatus : Status
  /-- 16 bits; 02 Table 2.1; 0. ABORT_REMAIN. -/
  abortRemain : Nat
  /-- 64 bits; 02 Table 2.1; 0. LAST_SEQ. -/
  lastSeq : Word
  /-- 64 bits; 02 Table 2.1; 0. DAILIES_WRITTEN. -/
  written : Word
  /-- 32 bits; 02 Table 2.1; 0. AGE_START. -/
  ageStart : BitVec 32
deriving DecidableEq, Repr

/-- A dailies context (02 Table 2.3). -/
structure DailiesCtx where
  /-- 64 bits; 02 Table 2.3; from the command. RING_BASE. -/
  base : Word
  /-- 8 bits; 02 Table 2.3; from the command. SIZE_LOG2. -/
  log2 : Nat
  /-- 8 bits; 02 Table 2.3; 0x01. STATE: 0x01 OPEN, or 0x04 HALTED. -/
  halted : Bool
  /-- 1 bit; 02 Table 2.3; 1. FLAGS.PHASE. -/
  phase : Bool
  /-- 1 bit; 02 Table 2.3; from the command. FLAGS.INT_EN. -/
  intEn : Bool
  /-- 16 bits; 02 Table 2.3; 0. HEAD. -/
  head : Nat
  /-- 16 bits; 02 Table 2.3; 0. TAIL. -/
  tail : Nat
  /-- 16 bits; 02 Table 2.3; 0. CREDITS_HELD. -/
  credits : Nat
  /-- 21 bits; 02 Table 2.3; 0. BOUND_REELS. -/
  bound : Nat
  /-- 64 bits; 02 Table 2.3; from the command. MSG_ADDR. -/
  msgAddr : Word
  /-- 32 bits; 02 Table 2.3; from the command. MSG_DATA. -/
  msgData : BitVec 32
  /-- 16 bits; 02 Table 2.3; from the command. MOD_COUNT. -/
  modCount : Nat
  /-- 16 bits; 02 Table 2.3; from the command. MOD_TIME. -/
  modTime : Nat
  /-- 16 bits; 02 Table 2.3; 0. PENDING. -/
  pending : Nat
  /-- 16 bits; 02 Table 2.3; 0. HALT_STATUS. -/
  haltStatus : Status
  /-- 32 bits; 02 Table 2.3; 0. MOD_START. -/
  modStart : BitVec 32
deriving DecidableEq, Repr

/-- What the core keeps of one reel, beside its context in the arena. -/
structure ReelObj where
  /-- 1 bit; 02 R44; 0. The object was created. -/
  created : Bool
  /-- 1 bit; 02 R44; 0. Its context failed its check. -/
  dead : Bool
  /-- 64 B; 02 R41; not cached. The cached context. -/
  ctx : Option ReelCtx
  /-- 1 bit; 02 R43; 0. The cached copy is newer than the arena's, since this time in µs. -/
  changed : Option Nat
  /-- 64 B; 02 R41; none. The context bytes a fetch has brought and the cache has not yet taken. -/
  arrived : Option Bytes
  /-- 1 bit; 02 R41; 0. A fetch is under way. -/
  fetching : Bool
  /-- 1 bit; 02 R41; 0. The reel was eligible when its context left the cache. -/
  wanted : Bool
  /-- order; 02 R42; 0. When the entry was last used. -/
  used : Nat
  /-- 64 bits; MODEL; none. LAST_SEQ of a slate read while the context was not cached: it goes in once the context is fetched. -/
  seqOwed : Option Word
  /-- count; MODEL; 0. Dailies lost while the context was not cached, which DAILIES_WRITTEN is not to count. -/
  lostOwed : Nat
deriving DecidableEq, Repr

/-- What the core keeps of one dailies, beside its context in the arena. -/
structure DailiesObj where
  /-- 1 bit; 02 R44; 0. The object was created. -/
  created : Bool
  /-- 1 bit; 02 R44; 0. Its context failed its check. -/
  dead : Bool
  /-- 64 B; 02 R41; not cached. The cached context. -/
  ctx : Option DailiesCtx
  /-- 1 bit; 02 R43; 0. The cached copy is newer than the arena's, since this time in µs. -/
  changed : Option Nat
  /-- 64 B; 02 R41; none. The context bytes a fetch has brought. -/
  arrived : Option Bytes
  /-- 1 bit; 02 R41; 0. A fetch is under way. -/
  fetching : Bool
  /-- order; 02 R42; 0. When the entry was last used. -/
  used : Nat
  /-- 1 bit; 02 R53; 0. A message is due and not yet issued. -/
  msgDue : Bool
  /-- 1 bit; 02 R53; 0. The due message is due by MOD_TIME, a pause or a drain, whatever MOD_COUNT says. -/
  msgTimed : Bool
  /-- 1 bit; 02 R53; 0. The context left the cache with PENDING at least 1. -/
  owes : Bool
  /-- µs; 02 R459; none. Since when a due message has waited on a sleeping domain. -/
  msgSince : Option Nat
  /-- 16 bits; 02 R57; none. A halt not yet visible, because daily writes are outstanding or the context is not cached. -/
  halting : Option Status
  /-- count; MODEL; 0. Dailies lost while the context was not cached, which PENDING is not to count. -/
  lostOwed : Nat
  /-- count; MODEL; 0. What BOUND_REELS is still to change by, from while the context was not cached. -/
  boundOwed : Int
deriving DecidableEq, Repr

/-- The states of a tenant (10 Table 10.3). -/
inductive TenantState where
  | free | running | pausing | paused
deriving DecidableEq, Repr

/-- A call sheet (10 Table 10.4); the state a FREE function shows is the reset content of CS_DATA. -/
structure Sheet where
  /-- 8 bits; 10 Table 10.4; 1. WEIGHT. -/
  weight : Nat
  /-- 8 bits; 10 Table 10.4; 3. RETRY. -/
  retry : Nat
  /-- 16 bits; 10 Table 10.4; 4,096. BUDGET. -/
  budget : Nat
  /-- 32 bits; 10 Table 10.4; 10,000. PARK_TIMEOUT. -/
  parkTimeout : Nat
  /-- 64 bits; 10 Table 10.4; 0. ARENA_BASE. -/
  arena : Word
  /-- 32 bits; 10 Table 10.4; 0. REELS. -/
  reels : Nat
  /-- 32 bits; 10 Table 10.4; 0. DAILIES. -/
  dailies : Nat
  /-- 32 bits; 10 Table 10.4; 0. SLOT_BASE. -/
  slotBase : Nat
  /-- 32 bits; 10 Table 10.4; 0. SLOTS. -/
  slots : Nat
  /-- 16 bits; 10 Table 10.4; 0. SEQ_MIN. -/
  seqMin : Nat
  /-- 16 bits; 10 Table 10.4; 1. SEQ_MAX. -/
  seqMax : Nat
  /-- 16 bits; 10 Table 10.4; 0. LANE_MIN. -/
  laneMin : Nat
  /-- 16 bits; 10 Table 10.4; 0. LANE_MAX. -/
  laneMax : Nat
  /-- 8 bits; 10 Table 10.4; 0. DIGEST_MIN. -/
  digestMin : Nat
  /-- 8 bits; 10 Table 10.4; 0. DIGEST_MAX. -/
  digestMax : Nat
  /-- 8 bits; 10 Table 10.4; 0. PK_MIN. -/
  pkMin : Nat
  /-- 8 bits; 10 Table 10.4; 0. PK_MAX. -/
  pkMax : Nat
  /-- 8 bits; 10 Table 10.4; 0. SH_MIN. -/
  shMin : Nat
  /-- 8 bits; 10 Table 10.4; 0. SH_MAX. -/
  shMax : Nat
  /-- 8 bits; 10 Table 10.4; 0. PK_PINNED. -/
  pinned : Nat
  /-- 8 bits; 10 Table 10.4; 0x00. ENGINE_MASK. -/
  engines : BitVec 8
  /-- 32, 32 bits; 10 Table 10.4; 0. TAKE_RATE, TAKE_BURST. -/
  takeRate : Nat
  /-- 32 bits; 10 Table 10.4; 0. TAKE_BURST. -/
  takeBurst : Nat
  /-- 64 bits; 10 Table 10.4; 0. BYTE_RATE. -/
  byteRate : Nat
  /-- 64 bits; 10 Table 10.4; 0. BYTE_BURST. -/
  byteBurst : Nat
  /-- 32 bits; 10 Table 10.4; 0. PK_RATE. -/
  pkRate : Nat
  /-- 32 bits; 10 Table 10.4; 0. PK_BURST. -/
  pkBurst : Nat
  /-- 1 bit; 10 Table 10.5; 0. FLAGS.SHIELDED. -/
  shielded : Bool
  /-- 64 bits; 10 Table 10.4; 0. DIRTY_REGION. -/
  region : Word
  /-- 32 bits; 10 Table 10.4; 0. DIRTY_PAGES. -/
  pages : Nat
  /-- 64 bits; 10 Table 10.4; 0. BITMAP_A. -/
  bitmapA : Word
  /-- 64 bits; 10 Table 10.4; 0. BITMAP_B. -/
  bitmapB : Word
deriving DecidableEq, Repr

/-- What a scheduler round reads of a call sheet; a CHANGE of these fields takes effect at the next round (10 R285, Table 10.10). -/
structure RoundShares where
  /-- 8 bits; 10 R287; 1. WEIGHT as the last round read it. -/
  weight : Nat
  /-- 16 bits; 10 R287; 0. SEQ_MIN as the last round read it. -/
  seqMin : Nat
  /-- 16 bits; 10 R287; 1. SEQ_MAX as the last round read it. -/
  seqMax : Nat
  /-- 32 bits; 10 R287; 0. TAKE_RATE as the last round read it. -/
  takeRate : Nat
  /-- 64 bits; 10 R287; 0. BYTE_RATE as the last round read it. -/
  byteRate : Nat
  /-- 32 bits; 10 R287; 0. PK_RATE as the last round read it. -/
  pkRate : Nat
deriving DecidableEq, Repr

/-- The REEL_CMD mailbox of a tenant window (02 Table 2.9). -/
structure ReelBox where
  /-- 64 bits; 02 Table 2.9; 0. RC_COMMAND. -/
  command : Word
  /-- 64 bits; 02 Table 2.9; 0. RC_ARG0. -/
  arg0 : Word
  /-- 64 bits; 02 Table 2.9; 0. RC_ARG1. -/
  arg1 : Word
  /-- 64 bits; 02 Table 2.9; 0. RC_ARG2. -/
  arg2 : Word
  /-- 64 bits; 02 Table 2.9; 0. RC_ARG3. -/
  arg3 : Word
  /-- 1 bit; 02 Table 2.10; 0. RC_STATUS.BUSY. -/
  busy : Bool
  /-- 1 bit; 02 R61; 0. A CREATE or DESTROY awaits its context write. -/
  writing : Bool
  /-- 1 bit; 02 Table 2.10; 0. RC_STATUS.LOST. -/
  lost : Bool
  /-- 16 bits; 02 Table 2.10; 0. RC_STATUS.RESULT. -/
  result : Status
  /-- 64 bits; 02 Table 2.9; 0. RC_RESULT0. -/
  result0 : Word
  /-- 64 bits; 02 Table 2.9; 0. RC_RESULT1. -/
  result1 : Word
  /-- 1 bit; 02 Table 2.11; 0. RC_DB_ERR.PRESENT. -/
  dbPresent : Bool
  /-- 1 bit; 02 Table 2.11; 0. RC_DB_ERR.DAILIES. -/
  dbDailies : Bool
  /-- 4 bits; 02 Table 2.11; 0. RC_DB_ERR.REASON. -/
  dbReason : BitVec 4
  /-- 16 bits; 02 Table 2.11; 0. RC_DB_ERR.COUNT. -/
  dbCount : BitVec 16
  /-- 36 bits; 02 Table 2.11; 0. RC_DB_ERR.LAST. -/
  dbLast : BitVec 36
deriving DecidableEq, Repr

/-- The ATTEST mailbox of a tenant window (08 Table 8.17). -/
structure AttestBox where
  /-- 64 bits; 08 Table 8.17; 0. AT_ARG. -/
  arg : Word
  /-- 1 bit; 08 Table 8.17; 0. AT_STATUS.DONE. -/
  done : Bool
  /-- 16 bits; 08 Table 8.17; 0. AT_STATUS.RESULT. -/
  result : Status
  /-- 32 B; 08 Table 8.17; 0. AT_CHAL0 to 3. -/
  chal : Bytes
  /-- 48 B; 08 Table 8.17; 0. AT_RESP0 to 5. -/
  resp : Bytes
  /-- 4 bits; 08 Table 8.17; 0. AT_MODE. -/
  mode : BitVec 4
  /-- 64 bits; 08 Table 8.17; 0. AT_FWVER. -/
  fwver : Word
  /-- 48 B; 08 Table 8.17; 0. AT_DIGEST0 to 5. -/
  digest : Bytes
deriving DecidableEq, Repr

/-- A doorbell or command of a tenant that waits for a context fetch (02 R46). -/
inductive Waiting where
  | reelBell (value : Word)
  | dailiesBell (value : Word)
  | command (word arg0 arg1 arg2 arg3 : Word)
deriving DecidableEq, Repr

/-- A tenant function. -/
structure Tenant where
  /-- 2 bits; 10 Table 10.3; FREE. The tenant state. -/
  state : TenantState
  /-- 128 B; 10 Table 10.4; the defaults. The call sheet. -/
  sheet : Sheet
  /-- 6 fields; 10 R285, R287; the defaults. The shares and rates the last round read. -/
  round : RoundShares
  /-- 96 B; 11 R316; empty. The owner key that CREATE latched. -/
  ownerKey : Bytes
  /-- signed, 1/65,536 take; 10 R286; 0. The take bucket. -/
  takeLevel : Int
  /-- signed, 1/65,536 byte; 10 R286; 0. The byte bucket. -/
  byteLevel : Int
  /-- signed, 1/65,536 µs; 10 R286; 0. The public-key bucket. -/
  pkLevel : Int
  /-- 9 registers; 02 Table 2.9; 0. The REEL_CMD mailbox. -/
  rc : ReelBox
  /-- 19 registers; 08 Table 8.17; 0. The ATTEST mailbox. -/
  attest : AttestBox
  /-- queue; 02 R46; empty. Doorbells and commands waiting for a context, in arrival order. -/
  waiting : List Waiting
  /-- index; 10 R285; 0. The tenant-local reel the rotation serves next. -/
  rotation : Nat
  /-- 0 to 255; 10 R285; 0. The deficit. -/
  deficit : Nat
  /-- 1 bit; 10 Table 10.5; 0. FLAGS.LOGGING. -/
  logging : Bool
  /-- 1 bit; 10 Table 10.5; 0. FLAGS.ACTIVE_B. -/
  activeB : Bool
  /-- 1 bit; 10 Table 10.5; 0. FLAGS.INCOMPLETE. -/
  incomplete : Bool
  /-- pages; 10 R296; none. Marks of the active bitmap held internally. -/
  marks : List Nat
  /-- 1 bit; 10 R297; 0. Marking has stopped until the next SWAP or START_LOG. -/
  markStopped : Bool
  /-- 1 bit; 11 R316; 0. A partner's TENANT_REMOVE waits for PAUSED. -/
  removing : Bool
deriving DecidableEq, Repr

/-- How far a slate read has come. -/
inductive SlateStage where
  | reading
  | read
  | extReading
  | extRead
  | failed (status : Status)
  | extFailed (status : Status)
  /-- An unread slate of an aborted reel, its header not yet read (02 R64). -/
  | owed
  /-- Its header is being read. -/
  | owedReading
  /-- Its header has been read, or the read has failed. -/
  | owedRead (ok : Bool)
deriving DecidableEq, Repr

/-- A slate between its read and its admission (02 R56, 10 R285). -/
structure Slate where
  /-- number; MODEL; –. Identifies the slate among those being read. -/
  id : Nat
  /-- 11 bits; 10 R285; –. The tenant. -/
  tenant : Nat
  /-- 20 bits; 10 R285; –. The reel. -/
  reel : Nat
  /-- 20 bits; 02 R62; –. The dailies whose credit it holds. -/
  dailies : Nat
  /-- 16 bits; 02 R31; –. The ring index. -/
  index : Nat
  /-- unit; 10 R285; –. The sequencer held for it. -/
  seq : Nat
  /-- 1 bit; 02 R62; –. It holds a credit. -/
  credit : Bool
  /-- state; 02 R56; –. How far its reads have come. -/
  stage : SlateStage
  /-- 128 B; 03 Table 3.1; –. The slate's bytes, by burst offset. -/
  bytes : Map Bytes
  /-- up to 4,096 B; 03 R69; –. The extended program's bytes, by burst offset. -/
  ext : Map Bytes
deriving DecidableEq, Repr

/-- What the companion area of a slot group holds beside its key (08 R233); its cells are masked like the others. -/
inductive Companion where
  /-- Nothing: the key's class has no companion content, or the key is in no slot. -/
  | none
  /-- The inner and outer states of an HMAC key for its hash, as 06 Table 6.6 packs a state (06 R184). -/
  | hmac (inner outer : Bytes)
  /-- The fixed-base table of an EC or Ed signing key's public point (07 Table 7.7). -/
  | table (bytes : Bytes)
  /-- The modulus of an RSA key and its reduction constants. -/
  | rsa (n : Nat) (constants : Bytes)
deriving DecidableEq, Repr

/-- A key as a unit uses it: class, attributes and clear material (08 Table 8.1, 8.2). -/
structure KeyMat where
  /-- 8 bits; 08 Table 8.3; –. CLASS. -/
  cls : Nat
  /-- 32 bits; 08 Table 8.4; –. USAGE. -/
  usage : BitVec 32
  /-- 32 bits; 08 Table 8.2; –. DERIVED_MASK. -/
  derived : BitVec 32
  /-- 8 bits; 08 Table 8.2; –. HASH. -/
  hash : Nat
  /-- KEY_BYTES bytes; 08 Table 8.3; –. The clear material. -/
  material : Bytes
  /-- –; 08 R233; none. The companion content of a resident key. -/
  companion : Companion := .none
deriving DecidableEq, Repr

/-- What a key position holds (03 R89, 05 R170, 07 R211, R212). -/
inductive Binding where
  /-- A resident slot or group, its content at the KEY code and the material's generation. -/
  | resident (slot gen : Nat) (key : KeyMat)
  /-- A key unwrapped from a blob. -/
  | blob (key : KeyMat)
  /-- A KDF_BIND binding: parent slot, parent key, label, context, class, usage. -/
  | derived (parent : KeyMat) (label context : Bytes) (cls : Nat) (usage : BitVec 32)
  /-- An agreement binding or an ephemeral private key. -/
  | bound (key : KeyMat)
deriving DecidableEq, Repr

/-- A running loop (03 R82). -/
structure LoopFrame where
  /-- index; 03 R82; –. The first code of the body. -/
  first : Nat
  /-- index; 03 R82; –. The code after the body. -/
  past : Nat
  /-- 16 bits; 03 R82; –. COUNT. -/
  count : Nat
  /-- 16 bits; 03 R82; –. The iteration number i. -/
  iter : Nat
deriving DecidableEq, Repr

/-- The kinds of execution unit. -/
inductive UnitKind where
  | lane | engine | digest | standard | shielded | rng
deriving DecidableEq, Repr

/-- A burst a code still has to issue, or has issued. -/
structure Burst where
  /-- 1 bit; 14 R376; –. A write. -/
  write : Bool
  /-- 64 bits; 14 R377; –. The host address. -/
  addr : Word
  /-- 1 to 64; 03 R100; –. The length. -/
  len : Nat
  /-- bytes; 03 R100; –. The data of a write. -/
  data : Bytes
  /-- 15 bits; 03 R74; –. Where in the operand the burst's bytes lie. -/
  pos : Nat
  /-- 1 bit; 14 R377; –. UNIT. -/
  unit : Bool
deriving DecidableEq, Repr

/-- What a take does between codes. -/
inductive TakePhase where
  /-- The next code may start. -/
  | ready
  /-- A MOVE is issuing its bursts or awaiting read data. -/
  | moving
  /-- A SIGNAL or WAIT awaits the acknowledgement of earlier writes. -/
  | waitWrites
  /-- An OP waits for random values. -/
  | waitRandom
  /-- An OP waits for the epoch to advance (04 R132). -/
  | waitEpoch
  /-- An OP has reserved what it uses and waits for a unit. -/
  | waitUnit
  /-- An OP runs on, or is queued for, its unit. -/
  | running
  /-- A fence has stopped the take; it awaits re-execution. -/
  | stopped
  /-- The take has ended with this status; its daily is not yet written. -/
  | ended (status : Status)
deriving DecidableEq, Repr

/-- How a take ends whose end a running public-key OP holds up (07 R223). -/
inductive OpEnd where
  /-- With a status. -/
  | ends (st : Status)
  /-- By a fence, to run again. -/
  | stops
deriving DecidableEq, Repr

/-- The OP a take has under way. -/
structure OpRun where
  /-- kind; 03 R92; –. The kind of unit. -/
  kind : UnitKind
  /-- unit; 03 R92; –. The unit, or none while an engine job waits. -/
  unit : Option Nat
  /-- µs; 03 R92; –. When it was issued. -/
  started : Nat
  /-- bytes; 04 Table 4.4; –. The parameter block as read at issue. -/
  param : Bytes
  /-- 12 B; 04 R131; –. The nonce reserved for it. -/
  nonce : Bytes
  /-- bytes; 01 R21; –. The random bytes reserved for it. -/
  drawn : Bytes
  /-- bytes; 04 R142; –. Input bytes read so far, by position. -/
  input : Map Bytes
  /-- count; 04 R142; –. Input bytes whose reads have been given to the engine. -/
  asked : Nat
  /-- 1 bit; 03 R92; 0. Every segment has been computed; host writes remain to be issued. -/
  finished : Bool
  /-- count; 04 R124; –. Input bytes whose segments are done. -/
  done : Nat
  /-- count; 04 R115; –. Output bytes already released. -/
  released : Nat
  /-- unit or none; 04 R126; none. The engine whose hold memory the job has. -/
  hold : Option Nat
  /-- unit or none; 04 R124; none. The engine in which the context of a job that was switched out or parked is kept. -/
  saved : Option Nat
  /-- 1 bit; 10 Table 10.10; 0. A fence by command takes effect when the OP ends. -/
  fenceAfter : Bool
  /-- –; 07 R223; none. An end of the take that came while its public-key OP runs. -/
  after : Option OpEnd
deriving DecidableEq, Repr

/-- What a take has reserved, in the order its codes reserved it (01 R21, 07 R216). -/
inductive Reserved where
  | nonce (bytes : Bytes)
  | random (bytes : Bytes)
  | binding (b : Binding)
  /-- A use counted under 04 R134. -/
  | use
  /-- A public-key charge made under 07 R199. -/
  | charge
deriving DecidableEq, Repr

/-- A take and its record (16 R438). -/
structure Take where
  /-- number; MODEL; –. Identifies the take. -/
  id : Nat
  /-- 11 bits; 16 R438; –. The tenant. -/
  tenant : Nat
  /-- 20 bits; 16 R438; –. The reel. -/
  reel : Nat
  /-- 20 bits; 16 R438; –. The dailies that holds the take's credit. -/
  dailies : Nat
  /-- 16 bits; 02 R31; –. The slate's ring index. -/
  index : Nat
  /-- 64 bits; 03 Table 3.1; –. SEQ. -/
  seqNo : Word
  /-- 64 bits; 03 Table 3.1; –. USER_TAG. -/
  userTag : Word
  /-- 1 bit; 03 Table 3.2; –. CLAPPER. -/
  clapper : Bool
  /-- 1 bit; 03 Table 3.2; –. CRC. -/
  crcFlag : Bool
  /-- 16 B each; 03 R69; –. The program copy. -/
  program : List Bytes
  /-- unit or none; 16 R439; –. The sequencer. -/
  seq : Option Nat
  /-- index; 03 R67; 0. The next code. -/
  pc : Nat
  /-- 32 KiB; 03 R74; zeros. The stage area: listed bytes differ from zero. -/
  stage : List Host.Cell
  /-- four positions; 03 R89; empty. K0 to K3. -/
  keys : List (Option Binding)
  /-- at most two; 03 R82; none. The loops entered, innermost first. -/
  loops : List LoopFrame
  /-- 1 bit; 03 R96; 0. The condition flag. -/
  flag : Bool
  /-- count; 03 R83; 0. Codes counted against the budget. -/
  count : Nat
  /-- 32 bits; 03 R80; 0xFFFF_FFFF. The CRC accumulator. -/
  crc : BitVec 32
  /-- 64 bits or none; 03 R95; none. The last inline result. -/
  result : Option Bytes
  /-- 1 bit; 03 R96; 0. The most recent OP ended with success. -/
  lastOk : Bool
  /-- state; 03; ready. What the take is doing. -/
  phase : TakePhase
  /-- bursts; 03 R100; none. Bursts of the running code not yet issued. -/
  todo : List Burst
  /-- bytes; 03 R79; none. Read data of the running code, by position: the copy buffer. -/
  buffer : Map Bytes
  /-- count; 03 R101; 0. Read bursts outstanding. -/
  reads : Nat
  /-- count; 03 R22; 0. Write bursts issued and not acknowledged. -/
  writes : Nat
  /-- µs or none; 03 R103; none. Since when the take is parked. -/
  parked : Option Nat
  /-- –; 03 R92; none. The OP under way. -/
  op : Option OpRun
  /-- units; 01 R11; none. The units its OPs have run on in this execution, whose islands are not gated before it ends. -/
  used : List (UnitKind × Nat)
  /-- list; 01 R21; none. The record of reserved values and bound contents. -/
  record : List Reserved
  /-- count; 16 R441; 0. How many of them this execution has used. -/
  cursor : Nat
  /-- 1 to 4; 16 R440; 1. The executions so far. -/
  runs : Nat
  /-- 1 bit; 03 R99; 0. END has started. -/
  ending : Bool
  /-- µs; 02 R57; none. Since when the daily waits on a sleeping domain. -/
  dailySince : Option Nat
  /-- 1 bit; 16 R445; 0. The sequencer is fenced when the daily is written. -/
  fenceSeq : Bool
deriving DecidableEq, Repr

/-- What a fabric request was issued for. -/
inductive Purpose where
  | slateRead (slate pos : Nat)
  | extRead (slate pos : Nat)
  | takeRead (take pos : Nat)
  /-- A write of a take, with the count of the code that issued it. -/
  | takeWrite (take code : Nat)
  | daily (tenant reel dailies : Nat) (counts : Bool)
  | dailiesMessage (tenant dailies : Nat)
  | fetch (tenant : Nat) (isDailies : Bool) (index : Nat)
  | writeBack (tenant : Nat) (isDailies : Bool) (index : Nat)
  | eventMessage (vec : Nat)
  | bitmapRead (tenant : Nat) (old : Bool) (line : Nat)
  | bitmapWrite (tenant : Nat) (old : Bool) (line : Nat)
  | abortHeader (slate : Nat)
  /-- The MP's read of a firmware image (15 R428), as function 0x401. -/
  | imageRead
  /-- The context write of a CREATE or DESTROY. -/
  | commandWrite (tenant : Nat) (isDailies : Bool) (index : Nat)
  /-- The answer is discarded: its work has ended (15 R417). -/
  | dropped
deriving DecidableEq, Repr

/-- A request outstanding on a fabric port (14 Table 14.1). -/
structure Request where
  /-- 10 bits; 14 R379; –. The tag. -/
  tag : Nat
  /-- 64 bits; 14 Table 14.1; –. The address. -/
  addr : Word
  /-- 1 to 64; 14 R377; –. The length. -/
  len : Nat
  /-- bytes; 14 Table 14.1; –. The write data. -/
  data : Bytes
  /-- 11 bits; 14 R383; –. The function carried. -/
  func : Nat
  /-- 4 bits; 14 Table 14.2; –. ATTR: META, MSG, UNIT in bits 2 to 0. -/
  attr : BitVec 4
  /-- –; 14 R383; –. The work that issued it. -/
  purpose : Purpose
  /-- count; 03 R101; 1. The times it has been issued. -/
  issues : Nat
deriving DecidableEq, Repr

/-- A host fabric port (14 R376). -/
structure Port where
  /-- 1 bit; 16 R437; 0. The port is fenced. -/
  fenced : Bool
  /-- at most 1,024; 14 R379; none. The reads outstanding. -/
  reads : List Request
  /-- at most 1,024; 14 R379; none. The writes outstanding. -/
  writes : List Request
deriving DecidableEq, Repr

/-- A request held back because its domain sleeps, or waiting for a tag (14 R389). -/
structure Held where
  /-- 1 bit; 14 R389; –. A write. -/
  write : Bool
  /-- –; 14 R389; –. The request. -/
  req : Request
  /-- port; 14 R378; –. The port it goes to. -/
  port : Bool
  /-- µs; 03 R103; –. Since when it waits. -/
  since : Nat
deriving DecidableEq, Repr

/-- The fabric ports and the power-domain handshake. -/
structure Fabric where
  /-- port; 14 R376; idle. Host fabric port 0. -/
  port0 : Port
  /-- port; 14 R376; idle. Host fabric port 1. -/
  port1 : Port
  /-- list; 14 R389; none. Requests waiting on a sleeping domain or for a tag. -/
  held : List Held
  /-- 16 bits; 14 R389; 0. DOMAIN_SLEEP_REQ as last seen. -/
  sleepReq : BitVec 16
  /-- 16 bits; 14 R389; 0. DOMAIN_SLEEP_ACK. -/
  sleepAck : BitVec 16
deriving DecidableEq, Repr

/-- What an execution unit holds of the OP it runs (01 R13, R14; 05 R147; 07 R219, R225). No command reads it out. -/
structure UnitRegs where
  /-- keys; 01 R13, 05 R147; none. The key registers: the keys loaded over the key bus, then those derived. -/
  keys : List Bytes
  /-- up to 12 digits; 05 R147; none. A lane's sealed PIN register: as many digits as its PIN length, none when it is cleared. -/
  pin : List Nat
  /-- up to 12 digits; 05 R160; none. Its second part, for a reference block. -/
  ref : List Nat
  /-- 16 KiB; 07 R225; 0. A core's operand memory as far as it has been written; the rest is zero. -/
  memory : Bytes
  /-- bytes; 07 R219; none. The recorded bytes that order a shielded core's real and dummy slots. -/
  foley : Bytes
  /-- 1 bit; 07 Table 7.11; 0. A core is wiped when its OP ends, because the mode has changed. -/
  wipe : Bool
deriving DecidableEq, Repr

/-- An operation under the IDK that waits for a shielded core (07 R198). -/
inductive IdkJob where
  /-- A checkpoint, with the bytes drawn for its per-signature value (15 R425). -/
  | checkpoint (drawn : Bytes)
  /-- PACKAGE_EXPORT of a tenant, with the bytes drawn for its ephemeral key and its signature (08 R247). -/
  | package (tenant : Nat) (drawn : Bytes)
  /-- The static secret of the partner's key (11 R304). -/
  | peer
  /-- The attestation secret of a tenant for its owner's key (08 R250). -/
  | secret (tenant : Nat) (owner : Bytes)
deriving DecidableEq, Repr

/-- The units: fences, cores' owners and pins, and the UNIT_STATUS registers (16 R444). -/
structure Units where
  /-- units; 01 R13, 05 R147, 07 R225; cleared. The registers of the units of kinds 1 to 5, by 1,024 times the kind plus the index. -/
  regs : Map UnitRegs
  /-- 256 bits; 16 R444; 0. US_SEQ. -/
  seq : BitVec 256
  /-- 512 bits; 16 R444; 0. US_LANE. -/
  lane : BitVec 512
  /-- 8 bits; 16 R444; 0. US_ENGINE. -/
  engine : BitVec 8
  /-- 64 bits; 16 R444; 0. US_DIGEST. -/
  digest : BitVec 64
  /-- 60 bits; 16 R444; 0. US_PKSTD. -/
  standard : BitVec 60
  /-- 4 bits; 16 R444; 0. US_PKSH. -/
  shielded : BitVec 4
  /-- functions; 07 R227; none. The owner of each standard core, plus one. -/
  owners : Map Nat
  /-- functions; 10 R283; none. The tenant each standard core is pinned to, plus one. -/
  pins : Map Nat
  /-- takes; 04 R123, R124; none. Takes whose OP waits for a unit, the longest waiting first. -/
  jobs : List Nat
  /-- operations; 07 R198; none. Operations under the IDK that wait for a shielded core, served ahead of every tenant's OP. -/
  idk : List IdkJob
  /-- 26 bits; 16 Table 16.4; 0. US_CMD. -/
  cmd : Word
  /-- 1 bit; 16 Table 16.4; 0. US_STATUS.LOST. -/
  lost : Bool
  /-- 16 bits; 16 Table 16.4; 0. US_STATUS.RESULT. -/
  result : Status
  /-- 64 bits; 16 Table 16.4; 0. US_LAST. -/
  last : Word
  /-- 16 bits; 16 Table 16.4; 0. US_COUNT.FENCES. -/
  fences : BitVec 16
  /-- 16 bits; 16 Table 16.4; 0. US_COUNT.UNFENCES. -/
  unfences : BitVec 16
  /-- 16 bits; 16 Table 16.4; 0. US_COUNT.RETRIES. -/
  retries : BitVec 16
  /-- 16 bits; 16 Table 16.4; 0. US_COUNT.LIMITED. -/
  limited : BitVec 16
deriving DecidableEq, Repr

/-- The states of an island (12 Table 12.8). -/
inductive IslandState where
  | off | starting | running | clockGated | powerGated | retained
deriving DecidableEq, Repr

/-- One island (12 Table 12.8). -/
structure Island where
  /-- 3 bits; 12 Table 12.8; 0b000. STATE. -/
  state : IslandState
  /-- 24 bits; 12 Table 12.8; 0. WAKES. -/
  wakes : Nat
  /-- µs; 12 R348; 0. When the island last had work or began to run. -/
  idleSince : Nat
  /-- 1 bit; 12 R349; 0. It waits in the gaffer's queue, because work or a wake has reached it while it had no power. -/
  queued : Bool
deriving DecidableEq, Repr

/-- The gaffer (12 Table 12.8). -/
structure Gaffer where
  /-- 16 bits; 12 Table 12.8; 0x03E8. GF_CTRL.IDLE_PWR. -/
  idlePwr : BitVec 16
  /-- 8 bits; 12 Table 12.8; 0x04. GF_CTRL.IDLE_CLK. -/
  idleClk : BitVec 8
  /-- 4 bits; 12 Table 12.8; 0x2. GF_CTRL.STAGGER. -/
  stagger : BitVec 4
  /-- islands; 12 R347; OFF but island 0. GF_ISLAND. -/
  islands : Map Island
  /-- µs; 12 R349; 0. When the last rail was started. -/
  startAt : Nat
deriving DecidableEq, Repr

/-- The direct-feed port (06 Table 6.9). -/
structure Direct where
  /-- 4 bits; 06 Table 6.10; 0x2. DD_CTRL.ALG. -/
  alg : BitVec 4
  /-- 40 bits; 06 Table 6.10; 0. DD_LEN.LEN. -/
  len : BitVec 40
  /-- 2 bits; 06 Table 6.11; 0b00. OWNER. -/
  owner : Option Source
  /-- 1 bit; 06 Table 6.11; 0. ACTIVE. -/
  active : Bool
  /-- 1 bit; 06 Table 6.11; 0. BUSY. -/
  busy : Bool
  /-- 1 bit; 06 Table 6.11; 0. DONE. -/
  done : Bool
  /-- 1 bit; 06 Table 6.11; 0. LENGTH_MISMATCH. -/
  lengthMismatch : Bool
  /-- 1 bit; 06 Table 6.11; 0. OWNED_BY_OTHER. -/
  ownedByOther : Bool
  /-- 1 bit; 06 Table 6.11; 0. TIMED_OUT. -/
  timedOut : Bool
  /-- 1 bit; 06 Table 6.11; 0. BAD_ALG. -/
  badAlg : Bool
  /-- 1 bit; 06 Table 6.11; 0. NO_MESSAGE. -/
  noMessage : Bool
  /-- 2 bits; 06 Table 6.11; 0b00. FLAG_SRC. -/
  flagSrc : BitVec 2
  /-- 32 bits; 06 Table 6.11; 0. DONE_SEQ. -/
  doneSeq : BitVec 32
  /-- 32 bits; 06 Table 6.10; 0. SEQ. -/
  seq : BitVec 32
  /-- 38 bits; 06 Table 6.10; 0. WORDS. -/
  words : Nat
  /-- 64 B; 06 Table 6.12; 0. DD_DIGEST. -/
  digest : Bytes
  /-- 4 bits; 06 R190; 0. The algorithm of the current message. -/
  msgAlg : BitVec 4
  /-- 40 bits; 06 R190; 0. The declared length of the current message. -/
  msgLen : Nat
  /-- bytes; 06 R191; none. The words of the current message. -/
  message : Bytes
  /-- 1 bit; 06 R193; 0. FINISH has been taken and the final blocks are being compressed. -/
  finishing : Bool
  /-- µs; 06 R193; 0. The owner's last write. -/
  lastWrite : Nat
deriving DecidableEq, Repr

/-- The states of a slot (08 Table 8.2). -/
inductive SlotState where
  | empty | pending | active | faulted
deriving DecidableEq, Repr

/-- A slot: its attribute record (08 Table 8.2) and its share of the material (08 Table 8.1). -/
structure Slot where
  /-- 11 bits; 08 Table 8.2; 0x7FF. OWNER. -/
  owner : Nat
  /-- 8 bits; 08 Table 8.2; 0x00. CLASS. -/
  cls : Nat
  /-- 5 bits; 08 Table 8.2; 0. Group size less one. -/
  size : Nat
  /-- 1 bit; 08 Table 8.2; 0. CONT. -/
  cont : Bool
  /-- 32 bits; 08 Table 8.2; 0. USAGE. -/
  usage : BitVec 32
  /-- 32 bits; 08 Table 8.2; 0. DERIVED_MASK. -/
  derived : BitVec 32
  /-- 8 bits; 08 Table 8.2; 0x00. HASH. -/
  hash : Nat
  /-- 2 bits; 08 Table 8.2; EMPTY. STATE. -/
  state : SlotState
  /-- 1 bit; 08 Table 8.2; 0. DUAL. -/
  dual : Bool
  /-- 16 bits; 08 Table 8.2; 0. KEY_BYTES. -/
  keyBytes : Nat
  /-- 64 bits; 08 Table 8.2; 0. WRITTEN_BY. -/
  writtenBy : Word
  /-- 40 bits; 08 Table 8.2; 0. USE_CAP. -/
  useCap : Nat
  /-- 40 bits; 08 Table 8.2; 0. USE_COUNT. -/
  useCount : Nat
  /-- 40 bits; 08 Table 8.2; 0. LOCAL_COUNT. -/
  localCount : Nat
  /-- 24 bits; 08 Table 8.2; 0. KCV. -/
  kcv : Bytes
  /-- 16 bits; 08 Table 8.2; 0x0000. SCOPE. -/
  scope : Nat
  /-- 56 B; 08 Table 8.1; 0. The clear share; the cell holds it XOR the current mask (`cellMaterial`). -/
  share : Bytes
  /-- –; 08 R233; none. The companion area of the group, in the record of its first slot. -/
  companion : Companion := .none
  /-- 4 bits; 08 R239; none. The custodian entry that signed the pending component. -/
  custodian : Option Nat
  /-- number; MODEL; 0. Counts the times the material was written, to tell superseded content apart (R91, R134). -/
  gen : Nat
deriving DecidableEq, Repr

/-- An entry of the retention area (08 R233); the material is in the bindings of the takes that refer to it. -/
structure Retained where
  /-- 17 bits; 08 R233; –. The slot. -/
  slot : Nat
  /-- number; MODEL; –. The generation of the superseded material. -/
  gen : Nat
  /-- 40 bits; 04 R134; –. Uses of the superseded material. -/
  useCount : Nat
  /-- 40 bits; 04 R134; –. Its cap. -/
  useCap : Nat
  /-- –; 08 R233; –. Its companion area. -/
  companion : Companion := .none
deriving DecidableEq, Repr

/-- A KUM whose checks 1 to 15 have passed (08 R237). -/
structure Checked where
  /-- 1 to 6; 08 Table 8.5; –. KIND. -/
  kind : Nat
  /-- 64 bits; 08 Table 8.5; –. COUNTER. -/
  counter : Nat
  /-- 17 bits; 08 Table 8.5; –. SLOT. -/
  slot : Nat
  /-- record; 08 Table 8.5; –. The attribute record the commit writes. -/
  entry : Slot
  /-- bytes; 08 Table 8.6; –. The clear material, or a permit's public key. -/
  material : Bytes
  /-- 4 bits; 08 Table 8.5; –. AUTH_ENTRY. -/
  auth : Nat
  /-- 1 bit; 08 Table 8.5; –. TARGET_KIND: a roster KUM. -/
  roster : Bool
  /-- 1 bit; 08 R236, R240; –. A vault write is not yet acknowledged. -/
  waiting : Bool
deriving DecidableEq, Repr

/-- The command in progress at the KUM mailbox (08 Table 8.13). -/
inductive KmRun where
  | kum
  | imageRestore
  | packageImport
  | checked (c : Checked)
  /-- Output of SLOT_QUERY or READ_CERT is pending. -/
  | output
  /-- The sealed image is being read out. -/
  | imageOut
  /-- FLOOR awaits its vault write. -/
  | floorWait
  /-- PACKAGE_EXPORT for this tenant waits for random bytes. -/
  | packageDraw (tenant : Nat)
  /-- The package is being read out for this tenant. -/
  | packageOut (tenant : Nat)
  /-- The package has been read; the floor write is awaited. -/
  | packageWait (tenant : Nat)
deriving DecidableEq, Repr

/-- The key store (08) and its mailbox. -/
structure KeyStore where
  /-- slots of 64 + 48 B; 08 R228; empty. The slots. -/
  slots : Map Slot
  /-- 4 × sequencers entries; 08 R233; none. The retention area. -/
  retained : List Retained
  /-- 48 B per function; 08 R250; none. The attestation secrets. -/
  secrets : Map Bytes
  /-- 96 B per function; 08 R247; none. MIGRATE_PERMITs: the destination IDK key. -/
  migrate : Map Bytes
  /-- 96 B per function; 08 R247; none. IMPORT_PERMITs: the source IDK key. -/
  imports : Map Bytes
  /-- 128 B; 10 R292; none. The imported call sheet not yet read, with its function. -/
  importedSheet : Option (Nat × Bytes)
  /-- count; 08 R232; 0. Mask refreshes, which name the current masks. -/
  refreshes : Nat
  /-- 32 B; 08 R232, 12 R334; none. The TAG key of this start. -/
  tagKey : Option Bytes
  /-- bytes; 12 R334; none. The blinding values of this start's IDK check. -/
  idkBlind : Option Bytes
  /-- 64 bits; 08 R236; DESIGN CHOICE 0, log 20. UPDATE_NEXT (KM_COUNTER). -/
  updateNext : Nat
  /-- 8 bits; 08 Table 8.12; 0. KM_CTRL.CMD. -/
  cmd : BitVec 8
  /-- 32 bits; 08 Table 8.12; 0. KM_LEN. -/
  len : BitVec 32
  /-- 64 bits; 08 Table 8.12; 0. KM_ARG. -/
  arg : Word
  /-- 32 bits; 08 R244; 0. KM_LEN as latched. -/
  inLen : Nat
  /-- 64 bits; 08 R244; 0. KM_ARG as latched. -/
  inArg : Word
  /-- bytes; 08 R244; none. The input taken so far. -/
  input : Bytes
  /-- bytes; 08 R244; none. Output not yet read. -/
  output : Bytes
  /-- 26 bits; 08 Table 8.12; 0. KM_STATUS.OUT_LEN. -/
  outLen : Nat
  /-- 1 bit; 08 Table 8.12; 0. KM_STATUS.LOST. -/
  lost : Bool
  /-- 5 bits; 08 Table 8.12; 0. KM_STATUS.REASON. -/
  reason : Nat
  /-- 16 bits; 08 Table 8.12; 0. KM_STATUS.RESULT. -/
  result : Status
  /-- command; 08 Table 8.12; none. The command in progress (KM_STATUS.BUSY). -/
  run : Option KmRun
deriving DecidableEq, Repr

/-- The CALLSHEET and MIGRATION windows (10 Table 10.6, 10.11). -/
structure Sheets where
  /-- 27 bits; 10 Table 10.7; 0. CS_CMD. -/
  cmd : Word
  /-- 128 B; 10 Table 10.6; the defaults of 10 Table 10.4. CS_DATA. -/
  data : Bytes
  /-- 96 B; 10 Table 10.6; 0. CS_KEY. -/
  key : Bytes
  /-- 1 bit; 10 Table 10.7; 0. CS_STATUS.BUSY: a REMOVE awaits its vault write. -/
  busy : Bool
  /-- 1 bit; 10 Table 10.7; 0. CS_STATUS.LOST. -/
  lost : Bool
  /-- 4 bits; 10 Table 10.7; 0. CS_STATUS.REASON. -/
  reason : Nat
  /-- 16 bits; 10 Table 10.7; 0. CS_STATUS.RESULT. -/
  result : Status
  /-- 27 bits; 10 Table 10.11; 0. MIG_CMD. -/
  migCmd : Word
  /-- function; 10 R296; none. MIG_STATUS.BUSY: the tenant whose closed period is being written, and whether by STOP_LOG. -/
  closing : Option (Nat × Bool)
  /-- function and page; 10 R296; none. Marks of closed periods not yet written. -/
  closedMarks : List (Nat × Nat)
  /-- 1 bit; 10 Table 10.11; 0. MIG_STATUS.LOST. -/
  migLost : Bool
  /-- 1 bit; 10 Table 10.11; 0. MIG_STATUS.LOGGING. -/
  migLogging : Bool
  /-- 1 bit; 10 Table 10.11; 0. MIG_STATUS.ACTIVE_B. -/
  migActiveB : Bool
  /-- 1 bit; 10 Table 10.11; 0. MIG_STATUS.CLOSED_INCOMPLETE. -/
  migClosed : Bool
  /-- 1 bit; 10 Table 10.11; 0. MIG_STATUS.INCOMPLETE. -/
  migIncomplete : Bool
  /-- 16 bits; 10 Table 10.11; 0. MIG_STATUS.RESULT. -/
  migResult : Status
deriving DecidableEq, Repr

/-- What waits for the acknowledgement of a record write (14 R397). -/
inductive VaultWaiter where
  /-- The start's write of epoch and ceiling (12 Table 12.6). -/
  | start
  /-- An epoch advance after a local-count wrap (04 R132). -/
  | wrap
  /-- A checked KUM (08 R236, R240). -/
  | kum
  /-- FLOOR (08 R248). -/
  | floor
  /-- The end of PACKAGE_EXPORT (08 R247). -/
  | package
  /-- REMOVE (10 R291). -/
  | remove
  /-- SET_OFFICER (15 R430). -/
  | officer
deriving DecidableEq, Repr

/-- Changes of the vault record waiting together (14 R397). -/
structure VaultChange where
  /-- 24 bits; 14 Table 14.9; none. A new EPOCH. -/
  epoch : Option Nat
  /-- 64 bits; 14 Table 14.9; none. A new UPDATE_CEILING. -/
  ceiling : Option Nat
  /-- 64 bits; 14 Table 14.9; none. A new UPDATE_FLOOR. -/
  floor : Option Nat
  /-- 9 bits; 14 Table 14.9; none. A new MEMBER. -/
  member : Option Nat
  /-- –; 14 R397; none. What waits for the write. -/
  waiters : List VaultWaiter
deriving DecidableEq, Repr

/-- Why block 1 is written (15 R427 to R430). -/
inductive Block1Why where
  | trialOff | stage | confirm | password | officer
deriving DecidableEq, Repr

/-- What a vault access is for. -/
inductive VaultWhy where
  | readRecord
  | writeRecord (c : VaultChange)
  | writeBlock1 (why : Block1Why)
  | programKey
deriving DecidableEq, Repr

/-- The vault request outstanding (14 R391, R392). -/
structure VaultReq where
  /-- –; 14 R393; –. Its purpose. -/
  why : VaultWhy
  /-- 184 B; 14 Table 14.8; –. The message. -/
  message : Bytes
  /-- 1 bit; 14 R393; 0. It is the reissue. -/
  reissued : Bool
  /-- µs; 14 R393; –. When its last word was sent. -/
  sentAt : Nat
deriving DecidableEq, Repr

/-- The vault port and the record as the core holds it. -/
structure Vault where
  /-- 24 bits; 14 Table 14.9; DESIGN CHOICE 0, log 20. EPOCH in force (KM_EPOCH). -/
  epoch : Nat
  /-- 64 bits; 14 Table 14.9; DESIGN CHOICE 0, log 20. UPDATE_CEILING. -/
  ceiling : Nat
  /-- 64 bits; 14 Table 14.9; DESIGN CHOICE 0, log 20. UPDATE_FLOOR (KM_FLOOR). -/
  floor : Nat
  /-- 9 bits; 14 Table 14.9; DESIGN CHOICE 0, log 20. MEMBER in force (TWIN_CFG.MEMBER). -/
  member : Nat
  /-- 32 bits; 14 R391; DESIGN CHOICE 0, log 20. WCOUNT of the last response. -/
  wcount : Nat
  /-- –; 14 R397; none. The record changes waiting. -/
  queued : VaultChange
  /-- –; 14 R397, 15 R428; none. Block-1 writes waiting, in order. -/
  block1 : List (Block1Why × Bytes)
  /-- –; 14 R392; none. The request outstanding. -/
  outstanding : Option VaultReq
  /-- 1 bit; 14 R398; 0. Event 0xE7 has been raised. -/
  warned90 : Bool
  /-- 1 bit; 14 R398; 0. Event 0xE8 has been raised. -/
  warned100 : Bool
deriving DecidableEq, Repr

/-- The states of a noise source (09 R259). -/
inductive SourceState where
  | trim | startup | contrib | failed
deriving DecidableEq, Repr

/-- A noise source (09 Table 9.5, RNG_SRCi). -/
structure NoiseSource where
  /-- 6 bits; 09 Table 9.5; 0x20. TRIM. -/
  trim : Nat
  /-- 2 bits; 09 Table 9.5; TRIM. STATE. -/
  state : SourceState
  /-- 4 bits; 09 Table 9.5; 0. FAIL_REASON. -/
  reason : Nat
  /-- 11 bits; 09 Table 9.5; 0. ONES. -/
  ones : Nat
  /-- 1 bit; 09 R257; 0. The last trim window was in band. -/
  inBand : Bool
  /-- µs; 09 R259; 0. When it last entered TRIM. -/
  trimAt : Nat
  /-- µs; 09 R255; 0. The start of the present 1 ms trim window. -/
  trimFrom : Nat
  /-- µs; 09 R257; 0. The start of the present adaptive-proportion window. -/
  windowFrom : Nat
  /-- count; 09 R259, R265; 0. Windows passed since it entered STARTUP, or since it entered CONTRIB. -/
  windows : Nat
  /-- 1 bit; 09 R257; 0. The last first-stage bit the tests have seen. -/
  runBit : Bool
  /-- count; 09 R257; 0. The successive bits equal to it so far, up to the present window; 0 where the tests start afresh. -/
  runLen : Nat
deriving DecidableEq, Repr

/-- The states of the RNG (09 Table 9.5). -/
inductive RngState where
  | starting | ready | failed | stalled
deriving DecidableEq, Repr

/-- A request for random bytes that waits (09 R262). -/
structure RandomReq where
  /-- asker; 09 R262; –. Who asks. -/
  who : Asker
  /-- count; 09 R262; –. The bytes asked for. -/
  bytes : Nat
  /-- 1 bit; 09 R270; –. With prediction resistance. -/
  pr : Bool
  /-- µs; 09 R265; –. Its issue. -/
  asked : Nat
deriving DecidableEq, Repr

/-- Eight released first-stage bits (09 R258, R270). -/
structure Released where
  /-- µs; 09 R270; –. No bit of these was produced before. -/
  since : Nat
  /-- 8 bits; 09 R260; –. The bits, the first in bit 7. -/
  byte : Byte
deriving DecidableEq, Repr

/-- The RNG island (09). -/
structure Rng where
  /-- 16 sources; 09 Table 9.5; TRIM 0x20. RNG_SRC0 to 15. -/
  sources : List NoiseSource
  /-- 16 bits; 09 Table 9.5; 0xFFFF. RNG_SRC_CFG.ENABLE. -/
  enable : BitVec 16
  /-- 16 bits; 09 Table 9.5; 0. RNG_SRC_CFG.VON_NEUMANN. -/
  vonNeumann : BitVec 16
  /-- 16 bits; 09 Table 9.5; 0x000A. RNG_RESEED.PERIOD. -/
  period : BitVec 16
  /-- 1 bit; 09 Table 9.5; 0. RNG_CTRL.PATTERN. -/
  pattern : Bool
  /-- µs; 09 R274; 0. When the test pattern was loaded. -/
  patternAt : Nat
  /-- 64 bits; 09 R274; 0. SEED as loaded. -/
  patternSeed : Word
  /-- 64 bits; 09 Table 9.5; 0. RNG_PATTERN.SEED. -/
  seedReg : Word
  /-- 4 bits; 09 Table 9.5; 0. RNG_RAW_SEL.SOURCE. -/
  rawSel : BitVec 4
  /-- 2 bits; 09 Table 9.5; STARTING. STATE. -/
  state : RngState
  /-- 4 bits; 09 Table 9.5; 0. FAIL_CAUSE. -/
  cause : Nat
  /-- queue; 09 R260; none. Released bits not yet conditioned, in the order of their release. -/
  bits : List Released
  /-- 64 B or none; 09 R260; none. The finished seed that waits. -/
  seed : Option Bytes
  /-- 32 B and 16 B; 09 R261; none. The DRBG's Key and V, absent before the first instantiate. -/
  drbg : Option (Bytes × Bytes)
  /-- 32 bits; 09 Table 9.5; 0. RNG_COUNT.RESEEDS. -/
  reseeds : Nat
  /-- count; 09 R261; 0. Requests since the last instantiate or reseed. -/
  requests : Nat
  /-- µs; 09 R261; 0. The last instantiate or reseed. -/
  reseedAt : Nat
  /-- µs or none; 09 R264; none. When the pending reseed fell due. -/
  dueAt : Option Nat
  /-- µs or none; 09 R268; none. When DROWSE stopped the sources. -/
  stoppedAt : Option Nat
  /-- 64 KiB; 09 R261; none. The output buffer. -/
  buffer : Bytes
  /-- queue; 09 R262; none. The requests waiting, in order. -/
  waiting : List RandomReq
deriving DecidableEq, Repr

/-- ML_STATUS.LINK (11 Table 11.3). -/
inductive Link where
  | off | wait | handshake | sync | paired
deriving DecidableEq, Repr

/-- ML_STATUS.ROLE (11 Table 11.3). -/
inductive Role where
  | solo | senior | junior
deriving DecidableEq, Repr

/-- An entry of a continuity record (11 Table 11.9) as its bytes. -/
abbrev Entry := Bytes

/-- A pairing attempt and its session (11 R308, R309). -/
structure Session where
  /-- bytes; 11 R309; none. The bytes drawn for the ephemeral private key. -/
  drawn : Option Bytes
  /-- 1 to 521 bits; 11 R309; none. The ephemeral private key. -/
  eph : Option Nat
  /-- 160 B; 11 Table 11.7; none. The HELLO payload sent. -/
  hello : Option Bytes
  /-- 160 B; 11 Table 11.7; none. The partner's HELLO payload, checked. -/
  peerHello : Option Bytes
  /-- 48 B; 11 R309; none. The transcript. -/
  transcript : Bytes
  /-- 64 B; 11 R309; none. The frame keys of both directions. -/
  keys : Option Bytes
  /-- 1 bit; 11 R307; –. This core had the lower member index at the handshake. -/
  lower : Bool
  /-- 64 bits; 11 R308; 0. The last SEQ sent. -/
  sendSeq : Nat
  /-- 64 bits; 11 R308; 0. The last SEQ accepted. -/
  recvSeq : Nat
  /-- 1 bit; 11 R308; 0. GAP is to be set in the next frame. -/
  gap : Bool
  /-- at most 256 frames; 11 R308; none. Unacknowledged frames by SEQ: SEQ, sealed frame. -/
  unacked : List (Nat × Bytes)
  /-- frames; 11 R308; none. Frames waiting because 256 are unacknowledged: TYPE, FLAGS, payload. -/
  toSend : List (Nat × Nat × Bytes)
  /-- µs; 11 Table 11.6; 0. When the HELLO was sent. -/
  helloAt : Nat
  /-- payloads; 11 R314; none. Entries of the partner record being received. -/
  inParts : List Entry
  /-- bytes; 11 R311; none. The junior's INVENTORY and TENANTS entries, received by the senior. -/
  inventory : List Entry
  /-- SEQ; 11 R311; none. The senior's final SYNC frame. -/
  lastSync : Option Nat
  /-- pairs; 11 R308; none. SEQ of the final frame of each record sent and not acknowledged, with its number. -/
  recordSeqs : List (Nat × Nat)
deriving DecidableEq, Repr

/-- The twin machinery and the M-link (11). -/
structure Twin where
  /-- 16 bits; 11 Table 11.1; 0x0064. TWIN_CFG.PERIOD. -/
  period : BitVec 16
  /-- 8 bits; 11 Table 11.1; 0x04. TWIN_CFG.MISS_LIMIT. -/
  missLimit : BitVec 8
  /-- 2 bits; 11 Table 11.1; 0. TWIN_CFG.DUP. -/
  dup : BitVec 2
  /-- 1 bit; 11 Table 11.1; 0. TWIN_CFG.PREF. -/
  pref : Bool
  /-- 1 bit; 11 Table 11.1; 0. TWIN_CFG.ENABLE. -/
  enable : Bool
  /-- 96 B; 11 Table 11.2; 0. ML_PEER_KEY. -/
  peerKey : Bytes
  /-- 48 B; 11 Table 11.2; 0. ML_PEER_HASH. -/
  peerHash : Bytes
  /-- 48 B or none; 11 R304; none. Z_s. -/
  zs : Option Bytes
  /-- 3 bits; 11 Table 11.3; OFF. LINK. -/
  link : Link
  /-- 2 bits; 11 Table 11.3; SOLO. ROLE. -/
  role : Role
  /-- 4 bits; 11 Table 11.3; 0. REFUSE. -/
  refuse : Nat
  /-- 4 bits; 11 Table 11.3; 0. LOSS_CAUSE. -/
  lossCause : Nat
  /-- 1 bit; 14 R399; 0. MLA_UP (PORT_A_UP). -/
  upA : Bool
  /-- 1 bit; 14 R399; 0. MLB_UP; PORT_B_UP shows it while port B runs. -/
  upB : Bool
  /-- level; 11 R306; DESIGN CHOICE good, log 20. Feed A as monitored. -/
  feedA : FeedLevel
  /-- level; 11 R306; DESIGN CHOICE good, log 20. Feed B as monitored. -/
  feedB : FeedLevel
  /-- 64 bits; 11 Table 11.2; 0. ML_TX. -/
  tx : Nat
  /-- 64 bits; 11 Table 11.2; 0. ML_COMMIT. -/
  commit : Nat
  /-- 64 bits; 11 Table 11.2; 0. ML_PEER_APPLIED. -/
  applied : Nat
  /-- 64 bits; 11 Table 11.2; 0. ML_RX. -/
  rx : Nat
  /-- 9 bits; 11 Table 11.3; 0. ML_PEER.MEMBER. -/
  peerMember : Nat
  /-- 24 bits; 11 Table 11.3; 0. ML_PEER.EPOCH. -/
  peerEpoch : Nat
  /-- 16 bits; 11 Table 11.3; 0. LOSSES. -/
  losses : BitVec 16
  /-- 16 bits; 11 Table 11.3; 0. REPLACED. -/
  replaced : BitVec 16
  /-- 16 bits; 11 Table 11.3; 0. CONFLICTS. -/
  conflicts : BitVec 16
  /-- 16 bits; 11 Table 11.3; 0. REJECTED. -/
  rejected : BitVec 16
  /-- –; 11 R309; none. The attempt or session. -/
  session : Session
  /-- entries; 11 R313; none. Local changes not yet carried, in commit order. -/
  changes : List Entry
  /-- record numbers; 11 R315; 0. The record of each slot's last local change in the session. -/
  slotRecord : Map Nat
  /-- µs; 11 R317; 0. The last frame accepted. -/
  heardAt : Nat
  /-- µs; 11 R308; 0. The last record closed or frame sent. -/
  closedAt : Nat
  /-- µs or none; 11 R309; none. When a fresh HELLO follows a refusal. -/
  retryAt : Option Nat
  /-- µs; 11 Table 11.7; 0. When the core last entered OPERATIONAL from a start. -/
  runSince : Nat
  /-- bytes; 11 R307; none. The frame last presented at the ports. -/
  lastSent : Bytes
deriving DecidableEq, Repr

/-- The logbook (15 Table 15.9). -/
structure Logbook where
  /-- 4,096 × 64 B; 15 R423; none. The chained entries held, by SEQ. -/
  entries : List (Nat × Bytes)
  /-- 64 bits; 15 Table 15.9; 0. LB_HEAD. -/
  head : Nat
  /-- 64 bits; 15 Table 15.9; 0. LB_TAIL. -/
  tail : Nat
  /-- 64 bits; 15 Table 15.9; 0. LB_ACK. -/
  ack : Word
  /-- 64 bits; 15 Table 15.9; 0. LB_SEL. -/
  sel : Word
  /-- 64 B; 15 Table 15.9; 0. LB_ENTRY. -/
  entry : Bytes
  /-- 16 B; 15 Table 15.9; 0. LB_CHAIN. -/
  chain : Bytes
  /-- 96 B; 15 Table 15.9; 0. LB_SIG. -/
  sig : Bytes
  /-- 1 bit; 15 Table 15.10; 0. MISS. -/
  miss : Bool
  /-- 1 bit; 15 Table 15.10; 0. OVERWROTE. -/
  overwrote : Bool
  /-- 16 bits; 15 Table 15.10; 0. LOST. -/
  lost : BitVec 16
  /-- 16 bits; 15 Table 15.10; 0. RESULT. -/
  result : Status
  /-- entries; 15 Table 15.12; none. Entries not yet chained, oldest first: bytes 0x08 to 0x2F. -/
  queue : List Bytes
deriving DecidableEq, Repr

/-- What FW_STATUS.BUSY stands for (15 R428). -/
inductive FwRun where
  /-- STAGE reads the image at this address; these bytes have arrived. -/
  | reading (addr : Word) (got : Bytes)
  /-- A read of the image has failed with this status. -/
  | readFailed (addr : Word) (got : Bytes) (status : Status)
  /-- The image has passed its checks; the vault write is awaited. -/
  | staging (addr : Word) (secver : Nat)
  | confirming
deriving DecidableEq, Repr

/-- Firmware update (15 Table 15.9). -/
structure Firmware where
  /-- 8 bits; 15 Table 15.10; 0. FW_CMD. -/
  cmd : BitVec 8
  /-- 64 bits; 15 Table 15.9; 0. FW_ARG. -/
  arg : Word
  /-- –; 15 Table 15.10; none. The command in progress (FW_STATUS.BUSY). -/
  run : Option FwRun
  /-- 1 bit; 15 Table 15.10; 0. LOST. -/
  lost : Bool
  /-- 16 bits; 15 Table 15.10; 0. RESULT. -/
  result : Status
  /-- 1 bit; 15 Table 15.10; 0. FALLBACK. -/
  fallback : Bool
  /-- 1 bit; 15 Table 15.10; DESIGN CHOICE 0, log 20. RUNNING_SLOT. -/
  runningB : Bool
  /-- 32 bits; 15 Table 15.9; DESIGN CHOICE 0, log 20. FW_SECVER. -/
  secver : Nat
  /-- 1 bit; 15 Table 15.6; 0. RAISE_FLOOR of the running image. -/
  raiseFloor : Bool
  /-- 128 B or none; 15 Table 15.7; none. Vault block 1 as the core holds it. -/
  block1 : Option Bytes
  /-- 64 bits or none; 15 R427; none. The address of the image that runs after a trial's one run, until SELFTEST reports the fallback. -/
  backAt : Option Word
deriving DecidableEq, Repr

/-- What AC_STATUS.BUSY stands for (15 R430, R431). -/
inductive AcRun where
  | password | officer | response | writing
deriving DecidableEq, Repr

/-- The access block and the maintenance console (15 R429 to R432). -/
structure Access where
  /-- 8 bits; 15 Table 15.10; 0. AC_CMD. -/
  cmd : BitVec 8
  /-- 64 bits; 15 Table 15.9; 0. AC_LEN. -/
  len : Word
  /-- bytes; 15 R433; 0. AC_LEN as latched. -/
  inLen : Nat
  /-- bytes; 15 R433; none. The input taken. -/
  input : Bytes
  /-- bytes; 15 R433; none. Output not yet read through AC_DATA. -/
  output : Bytes
  /-- 16 B; 15 R430; none. The salt drawn for SET_PASSWORD. -/
  salt : Option Bytes
  /-- 24 bits; 15 Table 15.10; 0. OUT_LEN. -/
  outLen : Nat
  /-- –; 15 Table 15.10; none. The command in progress (BUSY). -/
  run : Option AcRun
  /-- 1 bit; 15 Table 15.10; 0. LOST. -/
  lost : Bool
  /-- 16 bits; 15 Table 15.10; 0. RESULT. -/
  result : Status
  /-- 128 B or none; 15 R431; none. The valid challenge (CHAL_VALID). -/
  challenge : Option Bytes
  /-- 64 bits; 15 Table 15.8; 0. EXPIRES of the valid challenge. -/
  expires : Nat
  /-- 2 bits; 15 Table 15.10; 0. ATTEMPTS. -/
  attempts : Nat
  /-- µs or none; 15 R431; none. The end of a refusal of new challenges. -/
  refusedUntil : Option Nat
  /-- µs or none; 15 R429; none. An open diagnostic session (DIAG_OPEN), with its last command. -/
  diag : Option Nat
  /-- bytes; 15 R432; none. The last answer frame on the console. -/
  answer : Bytes
deriving DecidableEq, Repr

/-- The instructions of the test port (14 R407). -/
inductive TapInstr where
  | bypass | idcode | samplePreload | extest | clamp | highz | ababry
deriving DecidableEq, Repr

/-- The test port (14 R407). -/
structure Tap where
  /-- instruction; 14 R407; DESIGN CHOICE IDCODE, log 20. The instruction loaded. -/
  instr : TapInstr
  /-- 32 bits; 14 R407; DESIGN CHOICE 0, log 20. The IDCODE captured for TDO. -/
  captured : BitVec 32
deriving DecidableEq, Repr

/-- The scheduler (10 R285, R286). -/
structure Sched where
  /-- function; 10 R285; 0. The rotation point. -/
  rotation : Nat
  /-- µs; 10 R286; 0. The last bucket refill. -/
  refillAt : Nat
  /-- number; MODEL; 0. The next number of a take or slate. -/
  nextId : Nat
  /-- order; MODEL; 0. Counts uses of cache entries, for R42. -/
  clock : Nat
deriving DecidableEq, Repr

/-- The whole block. -/
structure State where
  /-- commands; MODEL; none. The commands waiting, first in first out. -/
  pending : List Instr
  /-- count; MODEL; DESIGN CHOICE 0, log 17. Advances with every free value taken from Config; no statement rests on its value. -/
  free : Nat
  /-- fuses and straps; 14; see Chip. The chip. -/
  chip : Chip
  /-- island; 12 R344; see AlwaysOn. The always-on island. -/
  ao : AlwaysOn
  /-- registers; 15 Table 15.10; see Sensors. The monitored values. -/
  sens : Sensors
  /-- registers; 12 Table 12.2; see Modes. Mode and start-up. -/
  modes : Modes
  /-- registers; 13 Table 13.3; see Regs. Identity and management registers. -/
  regs : Regs
  /-- registers; 13 Table 13.8; see Events. The event block. -/
  events : Events
  /-- 1,024 tenants; 10; FREE. The tenants, by function. -/
  tenants : Map Tenant
  /-- reels; 02; FREE. By function × 2^20 + index. -/
  reels : Map ReelObj
  /-- dailies; 02; FREE. By function × 2^20 + index. -/
  dailies : Map DailiesObj
  /-- slates; 10 R285; none. Slates between read and admission, in issue order. -/
  slates : List Slate
  /-- takes; 16 R438; none. Admitted takes whose daily is not acknowledged as written, in admission order. -/
  takes : List Take
  /-- ports; 14 R376; idle. The host fabric. -/
  fabric : Fabric
  /-- units; 16 R444; none fenced. The execution units. -/
  units : Units
  /-- islands; 12 Table 12.8; see Gaffer. The gaffer. -/
  gaffer : Gaffer
  /-- port; 06 Table 6.9; see Direct. The direct-feed port. -/
  direct : Direct
  /-- slots; 08; see KeyStore. The key store. -/
  keys : KeyStore
  /-- registers; 10 Table 10.6; see Sheets. CALLSHEET and MIGRATION. -/
  sheets : Sheets
  /-- port; 14 R390; see Vault. The vault port. -/
  vault : Vault
  /-- island; 09; see Rng. The RNG. -/
  rng : Rng
  /-- link; 11; see Twin. The twin machinery. -/
  twin : Twin
  /-- buffer; 15 R422; see Logbook. The logbook. -/
  log : Logbook
  /-- registers; 15 Table 15.9; see Firmware. Firmware update. -/
  fw : Firmware
  /-- registers; 15 Table 15.9; see Access. Field access. -/
  access : Access
  /-- port; 14 R407; see Tap. The test port. -/
  tap : Tap
  /-- scheduler; 10 R285; see Sched. The scheduler. -/
  sched : Sched
deriving DecidableEq, Repr

/-- n zero bytes. -/
def zeros (n : Nat) : Bytes := List.replicate n 0

/-- The defaults of 10 Table 10.4, byte by byte, as CS_DATA holds them at reset. -/
def sheetDefaults : Bytes :=
  [0, 0, 0, 0, 1, 3, 0x00, 0x10, 0x10, 0x27, 0, 0] ++ zeros 30 ++ [1, 0] ++ zeros 84

/-- The call sheet of a FREE function. -/
def Sheet.reset : Sheet :=
  { weight := 1, retry := 3, budget := 4096, parkTimeout := 10000, arena := 0, reels := 0, dailies := 0, slotBase := 0,
    slots := 0, seqMin := 0, seqMax := 1, laneMin := 0, laneMax := 0, digestMin := 0, digestMax := 0, pkMin := 0,
    pkMax := 0, shMin := 0, shMax := 0, pinned := 0, engines := 0, takeRate := 0, takeBurst := 0, byteRate := 0,
    byteBurst := 0, pkRate := 0, pkBurst := 0, shielded := false, region := 0, pages := 0, bitmapA := 0, bitmapB := 0 }

/-- The mailbox of a tenant at its creation. -/
def ReelBox.reset : ReelBox :=
  { command := 0, arg0 := 0, arg1 := 0, arg2 := 0, arg3 := 0, busy := false, writing := false, lost := false, result := 0, result0 := 0,
    result1 := 0, dbPresent := false, dbDailies := false, dbReason := 0, dbCount := 0, dbLast := 0 }

/-- The attestation mailbox of a tenant at its creation. -/
def AttestBox.reset : AttestBox :=
  { arg := 0, done := false, result := 0, chal := zeros 32, resp := zeros 48, mode := 0, fwver := 0, digest := zeros 48 }

/-- What a round reads of a call sheet (10 R285). -/
def Sheet.shares (x : Sheet) : RoundShares :=
  { weight := x.weight, seqMin := x.seqMin, seqMax := x.seqMax, takeRate := x.takeRate, byteRate := x.byteRate, pkRate := x.pkRate }

/-- A FREE function. -/
def Tenant.reset : Tenant :=
  { state := .free, sheet := Sheet.reset, round := Sheet.reset.shares, ownerKey := [], takeLevel := 0, byteLevel := 0, pkLevel := 0,
    rc := ReelBox.reset, attest := AttestBox.reset, waiting := [], rotation := 0, deficit := 0, logging := false,
    activeB := false, incomplete := false, marks := [], markStopped := false, removing := false }

/-- A reel that does not exist. -/
def ReelObj.reset : ReelObj :=
  { created := false, dead := false, ctx := none, changed := none, arrived := none, fetching := false, wanted := false,
    used := 0, seqOwed := none, lostOwed := 0 }

/-- A dailies that does not exist. -/
def DailiesObj.reset : DailiesObj :=
  { created := false, dead := false, ctx := none, changed := none, arrived := none, fetching := false, used := 0,
    msgDue := false, msgTimed := false, owes := false, msgSince := none, halting := none, lostOwed := 0, boundOwed := 0 }

/-- An empty slot (08 Table 8.1, 8.2). -/
def Slot.reset : Slot :=
  { owner := 0x7FF, cls := 0, size := 0, cont := false, usage := 0, derived := 0, hash := 0, state := .empty,
    dual := false, keyBytes := 0, writtenBy := 0, useCap := 0, useCount := 0, localCount := 0, kcv := [0, 0, 0],
    scope := 0, share := [], companion := .none, custodian := none, gen := 0 }

/-- A vector at reset (13 Table 13.9). -/
def Vec.reset : Vec := { addr := 0, data := 0, port := false, masked := false }

/-- An island at reset (12 Table 12.8). -/
def Island.reset : Island := { state := .off, wakes := 0, idleSince := 0, queued := false }

/-- A noise source at reset (09 Table 9.4). -/
def NoiseSource.reset : NoiseSource :=
  { trim := 0x20, state := .trim, reason := 0, ones := 0, inBand := false, trimAt := 0, trimFrom := 0,
    windowFrom := 0, windows := 0, runBit := false, runLen := 0 }

/-- The check value of a DRK of zeros: the counter mode of 05 R170 with the label "TX7 DRK CHECK" and no context (12 Table 12.6). -/
def zeroDrkCheck : Bytes := [0xD5, 0xD5, 0x51, 0x1D, 0xC4, 0x30, 0x49, 0xE9, 0x70, 0x8D, 0xAA, 0xA0, 0x2F, 0xA3, 0xF1, 0xDF]

/-- The public key of the private scalar 1: the base point of P-384. -/
def unitPublic : Bytes :=
  [0xAA, 0x87, 0xCA, 0x22, 0xBE, 0x8B, 0x05, 0x37, 0x8E, 0xB1, 0xC7, 0x1E, 0xF3, 0x20, 0xAD, 0x74, 0x6E, 0x1D, 0x3B, 0x62, 0x8B, 0xA7, 0x9B, 0x98] ++
  [0x59, 0xF7, 0x41, 0xE0, 0x82, 0x54, 0x2A, 0x38, 0x55, 0x02, 0xF2, 0x5D, 0xBF, 0x55, 0x29, 0x6C, 0x3A, 0x54, 0x5E, 0x38, 0x72, 0x76, 0x0A, 0xB7] ++
  [0x36, 0x17, 0xDE, 0x4A, 0x96, 0x26, 0x2C, 0x6F, 0x5D, 0x9E, 0x98, 0xBF, 0x92, 0x92, 0xDC, 0x29, 0xF8, 0xF4, 0x1D, 0xBD, 0x28, 0x9A, 0x14, 0x7C] ++
  [0xE9, 0xDA, 0x31, 0x13, 0xB5, 0xF0, 0xB8, 0xC0, 0x0A, 0x60, 0xB1, 0xCE, 0x1D, 0x7E, 0x81, 0x9D, 0x7A, 0x43, 0x1D, 0x7C, 0x90, 0xEA, 0x0E, 0x5F]

/-- A chip of the family as log 20 chooses it. -/
def Chip.reset : Chip :=
  { size := .large, fabAddrBits := 64, fp1Present := true, domLsb := 36, tapMfr := 0, deviceId := zeros 16, fwDefault := 0,
    fwKeyHash := zeros 48, maintKeyHash := zeros 48, vaultKey := some (zeros 32), condKey := some (zeros 32), enrolled := true,
    fieldLock := true, retired := false, drkCheck := zeroDrkCheck, idkPublic := unitPublic }

/-- The always-on island as log 20 chooses it. -/
def AlwaysOn.reset : AlwaysOn :=
  { drk := some (zeros 32), idk := some 1, epochShadow := some 0, strikeFlag := false, verified := false, lastCause := 0,
    warns := 0, guards := 0, strikes := 0, trialRun := false, chalNo := 0, nonceCounter := 0, exportNo := 0,
    meshSeed := 0, baseline := List.replicate 8 0, resist := List.replicate 8 0, meshFault := List.replicate 8 0,
    meshDrift := 0, holdRecords := [], lastEntry := none, diagFailures := 0, lockedUntil := none, strikeOut := none,
    enrolling := false, time := 0 }

/-- The sensors as log 20 chooses them. -/
def Sensors.reset : Sensors :=
  { temps := [0, 0, 0, 0], vddCore := 750, vddSram := 800, vddAo := 800, feedA := 600, feedB := 600, light := 0,
    refclk := 0, tempWarn := false, feedWarn := false, aoWarn := false, lightWarn := false, warn := false }

/-- 12 Table 12.1, 12.2. -/
def Modes.reset : Modes :=
  { mode := .reset, prev := .hold, pending := none, stFail := 0, result := 0, busy := false, lost := false,
    armed := none, drain := true, target := 0, resetKind := 2, guardHeld := false, coreOk := true, sramOk := true,
    rstLow := false, items := [], holdReady := false, fwRetryAt := none, authenticated := false, readsStopped := false, resetDue := false,
    refreshAt := 0 }

/-- 13 Table 13.3. -/
def Regs.reset : Regs :=
  { mgrOpen := none, mpOpen := none, badKey := false, denied := false, deniedCount := 0, deniedOffset := 0,
    deniedSrc := 0, voteFlag := false, voteCount := 0, voteArea := 0, voteCopy := 0, voteWhere := 0, modeCopy := none, funcCopies := [],
    fwVersion := 0, coreTime := 0, rspErr := false, rspData := 0, reqTag := 0, rspTag := 0, accesses := 0, held := [] }

/-- 13 Table 13.8, 16 R449. -/
def Events.reset : Events :=
  { status := 0,
    enable := 0x0001FFFE00000FFF00000F3E000001EF00000FDE0000001D000003FF47FFFFFF,
    route := 0, vectors := [], msgEn := true, started := [], blocked := [], lostCount := 0, lostFlag := false,
    lostVector := 0 }

/-- 14 R376: both ports idle. -/
def Fabric.reset : Fabric :=
  { port0 := { fenced := false, reads := [], writes := [] }, port1 := { fenced := false, reads := [], writes := [] },
    held := [], sleepReq := 0, sleepAck := 0 }

/-- 16 Table 16.3. -/
def Units.reset : Units :=
  { regs := [], seq := 0, lane := 0, engine := 0, digest := 0, standard := 0, shielded := 0, owners := [], pins := [], jobs := [], idk := [],
    cmd := 0, lost := false, result := 0, last := 0, fences := 0, unfences := 0, retries := 0, limited := 0 }

/-- Cleared registers and a wiped operand memory. -/
def UnitRegs.reset : UnitRegs := { keys := [], pin := [], ref := [], memory := [], foley := [], wipe := false }

/-- 12 Table 12.8: every island off but the always-on island. -/
def Gaffer.reset : Gaffer :=
  { idlePwr := 0x03E8, idleClk := 0x04, stagger := 2, islands := [(0, { state := .running, wakes := 0, idleSince := 0, queued := false })],
    startAt := 0 }

/-- 06 Table 6.9. -/
def Direct.reset : Direct :=
  { alg := 2, len := 0, owner := none, active := false, busy := false, done := false, lengthMismatch := false,
    ownedByOther := false, timedOut := false, badAlg := false, noMessage := false, flagSrc := 0, doneSeq := 0, seq := 0,
    words := 0, digest := zeros 64, msgAlg := 0, msgLen := 0, message := [], finishing := false,
    lastWrite := 0 }

/-- 08 Table 8.11 and an empty store. -/
def KeyStore.reset : KeyStore :=
  { slots := [], retained := [], secrets := [], migrate := [], imports := [], importedSheet := none, refreshes := 0,
    tagKey := none, idkBlind := none, updateNext := 0, cmd := 0, len := 0, arg := 0, inLen := 0, inArg := 0, input := [], output := [],
    outLen := 0, lost := false, reason := 0, result := 0, run := none }

/-- 10 Table 10.6, 10.11. -/
def Sheets.reset : Sheets :=
  { cmd := 0, data := sheetDefaults, key := zeros 96, busy := false, lost := false, reason := 0, result := 0,
    migCmd := 0, closing := none, closedMarks := [], migLost := false, migLogging := false, migActiveB := false,
    migClosed := false, migIncomplete := false, migResult := 0 }

/-- No record change waits. -/
def VaultChange.none : VaultChange := { epoch := .none, ceiling := .none, floor := .none, member := .none, waiters := [] }

/-- 14 R396's record, no request outstanding. -/
def Vault.reset : Vault :=
  { epoch := 0, ceiling := 0, floor := 0, member := 0, wcount := 0, queued := VaultChange.none, block1 := [],
    outstanding := none, warned90 := false, warned100 := false }

/-- 09 Table 9.4. -/
def Rng.reset : Rng :=
  { sources := List.replicate 16 NoiseSource.reset, enable := 0xFFFF, vonNeumann := 0, period := 0x000A, pattern := false,
    patternAt := 0, patternSeed := 0, seedReg := 0, rawSel := 0, state := .starting, cause := 0, bits := [], seed := none, drbg := none,
    reseeds := 0, requests := 0, reseedAt := 0, dueAt := none, stoppedAt := none, buffer := [], waiting := [] }

/-- No attempt. -/
def Session.reset : Session :=
  { drawn := none, eph := none, hello := none, peerHello := none, transcript := [], keys := none, lower := false, sendSeq := 0,
    recvSeq := 0, gap := false, unacked := [], toSend := [], helloAt := 0, inParts := [], inventory := [],
    lastSync := none, recordSeqs := [] }

/-- 11 Table 11.1 to 11.3. -/
def Twin.reset : Twin :=
  { period := 0x0064, missLimit := 0x04, dup := 0, pref := false, enable := false, peerKey := zeros 96,
    peerHash := zeros 48, zs := none, link := .off, role := .solo, refuse := 0, lossCause := 0, upA := false,
    upB := false, feedA := .good, feedB := .good, tx := 0, commit := 0, applied := 0, rx := 0, peerMember := 0,
    peerEpoch := 0, losses := 0, replaced := 0, conflicts := 0, rejected := 0, session := Session.reset, changes := [],
    slotRecord := [], heardAt := 0, closedAt := 0, retryAt := none, runSince := 0, lastSent := [] }

/-- 15 Table 15.9. -/
def Logbook.reset : Logbook :=
  { entries := [], head := 0, tail := 0, ack := 0, sel := 0, entry := zeros 64, chain := zeros 16, sig := zeros 96,
    miss := false, overwrote := false, lost := 0, result := 0, queue := [] }

/-- 15 Table 15.9. -/
def Firmware.reset : Firmware :=
  { cmd := 0, arg := 0, run := none, lost := false, result := 0, fallback := false, runningB := false, secver := 0,
    raiseFloor := false, block1 := none, backAt := none }

/-- 15 Table 15.9. -/
def Access.reset : Access :=
  { cmd := 0, len := 0, inLen := 0, input := [], output := [], salt := none, outLen := 0, run := none, lost := false, result := 0,
    challenge := none, expires := 0, attempts := 0, refusedUntil := none, diag := none, answer := [] }

/-- The block on entry to RESET (00_scope.md, "Registers and fields": a reset value is the value on entry to RESET), with
the chip and the always-on island of log 20 and no command waiting. -/
def State.reset : State :=
  { pending := [], free := 0, chip := Chip.reset, ao := AlwaysOn.reset, sens := Sensors.reset, modes := Modes.reset,
    regs := Regs.reset, events := Events.reset, tenants := [], reels := [], dailies := [], slates := [], takes := [],
    fabric := Fabric.reset, units := Units.reset, gaffer := Gaffer.reset, direct := Direct.reset, keys := KeyStore.reset,
    sheets := Sheets.reset, vault := Vault.reset, rng := Rng.reset, twin := Twin.reset, log := Logbook.reset,
    fw := Firmware.reset, access := Access.reset, tap := { instr := .idcode, captured := 0 },
    sched := { rotation := 0, refillAt := 0, nextId := 0, clock := 0 } }

end Sys2Proof.Machine
end

