-- ==== Sys2Proof/Machine/Ops.lean ====
section
/-! DEFINITION. The operations every family shares: the sparse tables, the counts of each configuration, events, the logbook,
the fabric, the vault port, and the change of mode. -/

namespace Sys2Proof.Machine

/-- What a command answers. -/
abbrev Outcome := Host.Outcome State Fault Refusal

/-! ### Sparse tables -/

/-- The entry of a table at a key; the default where none is listed. -/
def tableGet {α : Type} (d : α) : Map α → Nat → α
  | [], _ => d
  | p :: m, i => if p.1 = i then p.2 else tableGet d m i

/-- The table with the entry at a key replaced; an entry equal to the default is not listed. -/
def tableSet {α : Type} [DecidableEq α] (d : α) : Map α → Nat → α → Map α
  | [], i, v => if v = d then [] else [(i, v)]
  | p :: m, i, v =>
    if p.1 < i then p :: tableSet d m i v
    else if p.1 = i then (if v = d then m else (i, v) :: m)
    else if v = d then p :: m else (i, v) :: p :: m

/-- Whether a table is in its canonical form: keys strictly rising from a bound, no entry equal to the default. -/
def tableFrom {α : Type} [DecidableEq α] (d : α) : Nat → Map α → Bool
  | _, [] => true
  | b, p :: m => decide (b ≤ p.1) && decide (p.2 ≠ d) && tableFrom d (p.1 + 1) m

/-- The canonical form of a table. -/
def tableOk {α : Type} [DecidableEq α] (d : α) (m : Map α) : Bool := tableFrom d 0 m

/-! ### The counts of 00_scope.md Table 0.1 -/

/-- The value for TX7-S, TX7-M or TX7-L. -/
def perSize {α : Type} (s : State) (a b c : α) : α :=
  match s.chip.size with
  | .small => a
  | .medium => b
  | .large => c

/-- log2 of the tenants. -/
def tenantsLog (s : State) : Nat := perSize s 6 8 10
/-- log2 of the reels, which is that of the dailies. -/
def reelsLog (s : State) : Nat := perSize s 16 18 20
/-- log2 of the context-cache entries. -/
def cacheLog (s : State) : Nat := perSize s 12 13 15
/-- Job sequencers. -/
def seqCount (s : State) : Nat := perSize s 16 64 256
/-- Narrow cipher lanes. -/
def laneCount (s : State) : Nat := perSize s 32 128 512
/-- Wide cipher engines. -/
def engineCount (s : State) : Nat := perSize s 2 4 8
/-- Digest units. -/
def digestCount (s : State) : Nat := perSize s 4 16 64
/-- Standard public-key cores. -/
def standardCount (s : State) : Nat := perSize s 3 14 60
/-- Shielded public-key cores. -/
def shieldedCount (s : State) : Nat := perSize s 1 2 4
/-- log2 of the key slots. -/
def slotsLog (s : State) : Nat := perSize s 13 15 17
/-- Key slots. -/
def slotCount (s : State) : Nat := 2 ^ slotsLog s
/-- Clock islands. -/
def islandCount (s : State) : Nat := perSize s 19 43 99
/-- Tenant functions. -/
def tenantCount (s : State) : Nat := 2 ^ tenantsLog s
/-- Reels, and as many dailies. -/
def reelCount (s : State) : Nat := 2 ^ reelsLog s
/-- IDENT.CONFIG (13 Table 13.5). -/
def configCode (s : State) : Nat := perSize s 0 1 2

/-- The units of a kind 0 to 5 (16 Table 16.4). -/
def unitCount (s : State) (kind : Nat) : Nat :=
  match kind with
  | 0 => seqCount s | 1 => laneCount s | 2 => engineCount s | 3 => digestCount s | 4 => standardCount s
  | 5 => shieldedCount s | _ => 0

/-! ### Time, mode and role -/

/-- CORE_TIME in µs. -/
def now (s : State) : Nat := s.regs.coreTime.toNat

/-- The low 32 bits of CORE_TIME, as contexts hold it. -/
def now32 (s : State) : BitVec 32 := BitVec.ofNat 32 (now s)

/-- MODE[3:0] of a mode (12 Table 12.3). -/
def modeCode : Mode → Nat
  | .hold => 1 | .reset => 2 | .selftest => 3 | .sealed => 4 | .ceremony => 5 | .operational => 6 | .degraded => 7
  | .drowse => 8 | .maintenance => 9 | .factory => 10 | .struck => 11 | .retired => 12

/-- MODE[3:0] as it reads: copy 0 while its three copies differ (13 R363). -/
def modeShown (s : State) : Nat :=
  match s.regs.modeCopy with
  | some v => v.toNat
  | none => modeCode s.modes.mode

/-- FUNCTION of a call sheet as it reads: copy 0 while its three copies differ (13 R363). -/
def functionShown (s : State) (f : Nat) : Nat :=
  match s.regs.funcCopies.find? fun p => p.1 = f with
  | some p => p.2
  | none => f

/-- OPERATIONAL or DEGRADED. -/
def serves (m : Mode) : Bool := m = .operational || m = .degraded

/-- The modes in which the M-link pairs (12 Table 12.3). -/
def pairs (m : Mode) : Bool := serves m || m = .ceremony

/-- ML_STATUS.ROLE (11 Table 11.3). -/
def roleCode : Role → Nat
  | .solo => 0 | .senior => 1 | .junior => 2

/-- Whether the RNG counts as fenced (09 R267). -/
def rngFailed (s : State) : Bool := s.rng.state = .failed

/-- MODE.FENCED (12 Table 12.2). -/
def fencedByte (s : State) : Nat :=
  flagAt 0 (s.units.seq ≠ 0) + flagAt 1 (s.units.lane ≠ 0) + flagAt 2 (s.units.engine ≠ 0) +
  flagAt 3 (s.units.digest ≠ 0) + flagAt 4 (s.units.standard ≠ 0) + flagAt 5 (s.units.shielded ≠ 0) +
  flagAt 6 (rngFailed s)

/-! ### Tenants, reels, dailies, slots, takes -/

/-- A function's record. -/
def tenantOf (s : State) (f : Nat) : Tenant := tableGet Tenant.reset s.tenants f

/-- The state with a function's record replaced. -/
def setTenant (f : Nat) (t : Tenant) (s : State) : State := { s with tenants := tableSet Tenant.reset s.tenants f t }

/-- The state with a function's record changed. -/
def modTenant (f : Nat) (g : Tenant → Tenant) (s : State) : State := setTenant f (g (tenantOf s f)) s

/-- The key of a tenant-local reel or dailies. -/
def objKey (f i : Nat) : Nat := f * 2 ^ 20 + i

/-- A reel. -/
def reelOf (s : State) (f i : Nat) : ReelObj := tableGet ReelObj.reset s.reels (objKey f i)

/-- The state with a reel replaced. -/
def setReel (f i : Nat) (r : ReelObj) (s : State) : State := { s with reels := tableSet ReelObj.reset s.reels (objKey f i) r }

/-- A dailies. -/
def dailiesOf (s : State) (f i : Nat) : DailiesObj := tableGet DailiesObj.reset s.dailies (objKey f i)

/-- The state with a dailies replaced. -/
def setDailies (f i : Nat) (d : DailiesObj) (s : State) : State :=
  { s with dailies := tableSet DailiesObj.reset s.dailies (objKey f i) d }

/-- A slot. -/
def slotOf (s : State) (i : Nat) : Slot := tableGet Slot.reset s.keys.slots i

/-- The state with a slot replaced. -/
def setSlot (i : Nat) (x : Slot) (s : State) : State :=
  { s with keys := { s.keys with slots := tableSet Slot.reset s.keys.slots i x } }

/-- A take by its number. -/
def takeOf (s : State) (id : Nat) : Option Take := s.takes.find? fun t => t.id = id

/-- The state with the take of the same number replaced. -/
def setTake (t : Take) (s : State) : State := { s with takes := s.takes.map fun u => if u.id = t.id then t else u }

/-- The state without a take. -/
def dropTake (id : Nat) (s : State) : State := { s with takes := s.takes.filter fun u => u.id ≠ id }

/-- A slate by its number. -/
def slateOf (s : State) (id : Nat) : Option Slate := s.slates.find? fun t => t.id = id

/-- The state with the slate of the same number replaced. -/
def setSlate (t : Slate) (s : State) : State := { s with slates := s.slates.map fun u => if u.id = t.id then t else u }

/-- The state without a slate. -/
def dropSlate (id : Nat) (s : State) : State := { s with slates := s.slates.filter fun u => u.id ≠ id }

/-- A fresh number for a take or slate. -/
def bumpId (s : State) : State := { s with sched := { s.sched with nextId := s.sched.nextId + 1 } }

/-- The free-value counter advanced. -/
def bumpFree (s : State) : State := { s with free := s.free + 1 }

/-! ### Events (13 R370 to R374) -/

/-- The vector a raised event uses, by its ROUTE field. -/
def vectorOf (s : State) (e : Nat) : Nat :=
  match (s.events.route.toNat / 2 ^ (2 * e)) % 4 with
  | 1 => e / 32 * 32
  | 2 => 0xFF
  | _ => e

/-- Whether a request is the message of a vector. -/
def isMessageOf (v : Nat) (r : Request) : Bool := r.purpose = .eventMessage v

/-- Whether a message of the vector is started, waiting or outstanding (13 R372). -/
def messageOut (s : State) (v : Nat) : Bool :=
  s.events.started.any (fun m => m.1 = v) || s.fabric.port0.writes.any (isMessageOf v) || s.fabric.port1.writes.any (isMessageOf v) ||
  s.fabric.held.any fun h => isMessageOf v h.req

/-- A vector. -/
def vecOf (s : State) (v : Nat) : Vec := tableGet Vec.reset s.events.vectors v

/-- Start a message on a vector (13 R372): nothing where the vector is masked or has no address, merged where one is out. -/
def startMessage (v : Nat) (s : State) : State :=
  if (vecOf s v).masked || (vecOf s v).addr &&& ~~~3 = 0 || messageOut s v then s
  else { s with events := { s.events with started := s.events.started ++ [(v, vecOf s v)] } }

/-- Whether the event's product STATUS AND ENABLE AND MSG_EN is 1 (13 R371). -/
def eventLive (s : State) (e : Nat) : Bool := s.events.status.getLsbD e && s.events.enable.getLsbD e && s.events.msgEn

/-- The state with an event's STATUS bit set. -/
def setStatusBit (e : Nat) (s : State) : State :=
  { s with events := { s.events with status := s.events.status ||| BitVec.twoPow 256 e } }

/-- Raise an event (13 R371, R373). -/
def raise (e : Nat) (s : State) : State :=
  let s' := setStatusBit e s
  if !eventLive s e && eventLive s' e && !(e = 0xE6 && s.events.blocked.contains (vectorOf s e))
  then startMessage (vectorOf s e) s' else s'

/-- Raise several events in turn. -/
def raiseAll (es : List Nat) (s : State) : State := es.foldl (fun t e => raise e t) s

/-! ### The logbook (15 R422 to R424) -/

/-- Bytes 0x08 to 0x2F of an entry (15 Table 15.4). -/
def entryBody (time code mode flags event epoch : Nat) (object value extra : Nat) : Bytes :=
  toLe 8 time ++ toLe 2 code ++ toLe 1 mode ++ toLe 1 flags ++ toLe 1 event ++ toBe 3 epoch ++ toLe 8 object ++
  toLe 8 value ++ toLe 8 extra

/-- The SEQ of the next entry and the CHAIN before it (15 R422, R423). -/
def nextEntry (s : State) : Nat × Bytes :=
  match s.ao.lastEntry with
  | none => (0, zeroBytes 16)
  | some p => (p.1 + 1, p.2)

/-- Chain one entry: CHAIN is the leftmost 16 bytes of SHA-256 over the preceding CHAIN and bytes 0x00 to 0x2F. -/
def chainEntry (body : Bytes) (s : State) : State :=
  let n := nextEntry s
  let head := toLe 8 n.1 ++ body
  let chain := (sha256 (n.2 ++ head)).take 16
  let full := 4096 ≤ s.log.entries.length
  let old := s.log.entries.headD (0, [])
  let passed := full && decide (s.log.ack.toNat < old.1)
  let entries := (if full then s.log.entries.drop 1 else s.log.entries) ++ [(n.1, head ++ chain)]
  let s := { s with
    ao := { s.ao with lastEntry := some (n.1, chain) },
    log := { s.log with
      entries := entries, head := n.1, tail := (entries.headD (0, [])).1, chain := chain,
      overwrote := s.log.overwrote || passed, lost := if passed then satInc s.log.lost else s.log.lost } }
  let s := if passed then raise 0xEB s else s
  if (entries.filter fun p => s.log.ack.toNat < p.1).length = 3072 then raise 0xEA s else s

/-- Whether the MP can chain entries now: it runs its firmware and can own the direct-feed port (15 Table 15.12). -/
def canChain (s : State) : Bool := s.modes.mode ≠ .reset && s.modes.mode ≠ .hold && s.direct.owner ≠ some .manager

/-- Chain the entries that wait, oldest first, where the MP can. -/
def chainQueue (s : State) : State :=
  if canChain s then s.log.queue.foldl (fun t b => chainEntry b t) { s with log := { s.log with queue := [] } } else s

/-- Byte 0x12 of an entry. -/
def entryMode (s : State) (m : Mode) : Nat := modeCode m + 16 * roleCode s.twin.role

/-- Write an entry with every field given. -/
def logAs (m : Mode) (time code flags event object value extra : Nat) (s : State) : State :=
  let body := entryBody time code (entryMode s m) flags event s.vault.epoch object value extra
  chainQueue { s with log := { s.log with queue := s.log.queue ++ [body] } }

/-- Write an entry of a code that goes with an event (15 Table 15.5). -/
def logEvent (code event object value extra : Nat) (s : State) : State :=
  logAs s.modes.mode (now s) code 1 event object value extra s

/-- Write an entry of a code without an event. -/
def logPlain (code object value extra : Nat) (s : State) : State :=
  logAs s.modes.mode (now s) code 0 0 object value extra s

/-- Raise an event and write its entry. -/
def raiseLog (event code object value extra : Nat) (s : State) : State :=
  logEvent code event object value extra (raise event s)

/-! ### The host fabric (14 R376 to R383) -/

/-- The memory domain of an address (14 R388). -/
def domainOf (s : State) (addr : Word) : Nat :=
  bits (if 12 ≤ s.chip.domLsb ∧ s.chip.domLsb ≤ 60 then s.chip.domLsb else 60) 4 addr

/-- Whether an address lies in a sleeping domain (14 R389). -/
def asleep (s : State) (addr : Word) : Bool := s.fabric.sleepReq.getLsbD (domainOf s addr)

/-- FAB_ADDR_BITS as it acts (14 Table 14.1). -/
def fabWidth (s : State) : Nat := if 32 ≤ s.chip.fabAddrBits ∧ s.chip.fabAddrBits ≤ 64 then s.chip.fabAddrBits else 64

/-- A port. -/
def portOf (s : State) (p : Bool) : Port := if p then s.fabric.port1 else s.fabric.port0

/-- The state with a port replaced. -/
def setPort (p : Bool) (x : Port) (s : State) : State :=
  { s with fabric := if p then { s.fabric with port1 := x } else { s.fabric with port0 := x } }

/-- The port a request goes to (14 R378, R382), from the port wanted. -/
def routePort (s : State) (want : Bool) : Bool :=
  if !s.chip.fp1Present then false
  else if (portOf s want).fenced then !want else want

/-- Whether the port a request would go to exists and is not fenced. -/
def portServes (s : State) (p : Bool) : Bool := (p = false || s.chip.fp1Present) && !(portOf s p).fenced

/-- The lowest tag below n not in use. -/
def freeTag (rs : List Request) : Nat → Option Nat
  | 0 => none
  | n + 1 => match freeTag rs n with
    | some t => some t
    | none => if rs.any fun r => r.tag = n then none else some n

/-- Charge the byte bucket of a tenant function (10 R286). -/
def chargeBytes (f len : Nat) (s : State) : State :=
  if 0x400 ≤ f || (tenantOf s f).round.byteRate = 0 then s
  else modTenant f (fun t => { t with byteLevel := t.byteLevel - (len * 65536 : Nat) }) s

/-- Mark the page a tenant's write touches (10 R295, R297). -/
def markDirty (f : Nat) (addr : Word) (s : State) : State :=
  let t := tenantOf s f
  if 0x400 ≤ f || !t.logging || t.markStopped then s
  else
    let p := (addr.toNat - t.sheet.region.toNat) / 4096
    if t.sheet.region.toNat ≤ addr.toNat && p < t.sheet.pages then
      setTenant f { t with marks := if t.marks.contains p then t.marks else t.marks ++ [p] } s
    else raise 0xA9 (setTenant f { t with incomplete := true } s)

/-- Put a request on a port, or hold it back where its domain sleeps or no tag is free (14 R378, R379, R389). -/
def issueHeld (h : Held) (s : State) : State :=
  let p := routePort s h.port
  let x := portOf s p
  let back := { s with fabric := { s.fabric with held := s.fabric.held ++ [h] } }
  match freeTag (if h.write then x.writes else x.reads) 1024 with
  | some tag =>
    if asleep s h.req.addr || !portServes s p then back
    else
      let r := { h.req with tag := tag }
      let s := setPort p (if h.write then { x with writes := x.writes ++ [r] } else { x with reads := x.reads ++ [r] }) s
      let s := chargeBytes r.func r.len s
      if h.write then markDirty r.func r.addr s else s
  | none => back

/-- Put a new request on a port, wanted by its address or by a vector. -/
def issue (write want : Bool) (req : Request) (s : State) : State :=
  issueHeld { write := write, req := req, port := want, since := now s } s

/-- The port an address goes to: bit 12 (14 R378). -/
def addrPort (addr : Word) : Bool := bit 12 addr

/-- A read of at most 64 bytes within one 64-byte line. -/
def issueRead (addr : Word) (len func attr : Nat) (purpose : Purpose) (s : State) : State :=
  issue false (addrPort addr) { tag := 0, addr := addr, len := len, data := [], func := func, attr := BitVec.ofNat 4 attr,
                                purpose := purpose, issues := 1 } s

/-- A write of at most 64 bytes within one 64-byte line. -/
def issueWrite (addr : Word) (data : Bytes) (func attr : Nat) (purpose : Purpose) (s : State) : State :=
  issue true (addrPort addr) { tag := 0, addr := addr, len := data.length, data := data, func := func,
                               attr := BitVec.ofNat 4 attr, purpose := purpose, issues := 1 } s

/-- ATTR of a core structure (14 Table 14.2): META. -/
def attrMeta : Nat := 4
/-- META and UNIT. -/
def attrMetaUnit : Nat := 5
/-- MSG and UNIT. -/
def attrMsgUnit : Nat := 3

/-- The requests on the ports and those held back. -/
def allRequests (s : State) : List Request :=
  s.fabric.port0.reads ++ s.fabric.port0.writes ++ s.fabric.port1.reads ++ s.fabric.port1.writes ++ s.fabric.held.map (·.req)

/-- Issue whatever was held back and can now go. -/
def pumpHeld (s : State) : State :=
  s.fabric.held.foldl (fun t h => issueHeld h t) { s with fabric := { s.fabric with held := [] } }

/-- Whether a request is for an address of a domain. -/
def inDomain (s : State) (d : Nat) (r : Request) : Bool := domainOf s r.addr = d

/-- Raise DOMAIN_SLEEP_ACK of each domain that is asleep with nothing outstanding (14 R389). -/
def settleAck (s : State) : State :=
  let busy := fun d => (s.fabric.port0.reads ++ s.fabric.port0.writes ++ s.fabric.port1.reads ++ s.fabric.port1.writes).any
    (inDomain s d)
  let ack := BitVec.ofNat 16 ((List.range 16).foldl (fun a d => a + flagAt d (s.fabric.sleepReq.getLsbD d && !busy d)) 0)
  { s with fabric := { s.fabric with sleepAck := ack } }

/-! ### Islands -/

/-- Whether a mode keeps the management island running, so that ports and feeds raise events. -/
def managementRuns (m : Mode) : Bool := m ≠ .hold && m ≠ .drowse

/-- An island's record. -/
def islandAt (s : State) (island : Nat) : Island := tableGet Island.reset s.gaffer.islands island

/-- Whether the management island runs: it has begun to since the reset (12 R331), and the mode keeps it running. -/
def managementUp (s : State) : Bool := managementRuns s.modes.mode && (islandAt s 1).state = .running

/-! ### The vault port (14 R390 to R398) -/

/-- The vault record with its CHECK (14 Table 14.9). -/
def recordBytes (member epoch ceiling floor : Nat) : Bytes :=
  let b := [0x54, 0x37, 0x56, 0x52, 1, 0] ++ toLe 2 member ++ toLe 4 epoch ++ zeroBytes 4 ++ toLe 8 ceiling ++
    toLe 8 floor ++ zeroBytes 92
  b ++ toLe 4 (crc32c b).toNat

/-- Whether a block is a vault record that passes its check (14 R395). -/
def recordOk (b : Bytes) : Bool :=
  b.length = 128 && b.take 6 = [0x54, 0x37, 0x56, 0x52, 1, 0] && field 6 2 b ≤ 511 && byteAt 0x0B b = 0 &&
  allZero (slice 0x0C 4 b) && allZero (slice 0x20 92 b) && field 0x7C 4 b = (crc32c (b.take 0x7C)).toNat &&
  field 0x18 8 b ≤ field 0x10 8 b

/-- A vault message with its MAC (14 Table 14.8); PROGRAM_KEY carries a zero MAC. -/
def vaultMessage (key : Bytes) (cmd block wcount : Nat) (nonce data : Bytes) : Bytes :=
  let b := toLe 1 cmd ++ [0] ++ toLe 1 block ++ [0] ++ toLe 4 wcount ++ nonce ++ fit 128 data
  b ++ (if cmd = 4 then zeroBytes 32 else hmac 2 key b)

/-- The record with its waiting changes applied. -/
def mergedRecord (s : State) (c : VaultChange) : Bytes :=
  recordBytes (c.member.getD s.vault.member) (c.epoch.getD s.vault.epoch) (c.ceiling.getD s.vault.ceiling)
    (c.floor.getD s.vault.floor)

/-- Send a vault request with a fresh nonce (14 R392); with blank K_V fuses only PROGRAM_KEY goes (R396). -/
def vaultSend (why : VaultWhy) (reissued : Bool) (cmd block : Nat) (data : Bytes) (s : State) : State :=
  match s.chip.vaultKey with
  | none => s
  | some key =>
    let nonce := toLe 8 s.ao.nonceCounter ++ fit 8 (Config.rawSamples s.free 8)
    let msg := vaultMessage key cmd block (if cmd = 2 then s.vault.wcount else 0) nonce data
    let s := bumpFree { s with ao := { s.ao with nonceCounter := (s.ao.nonceCounter + 1) % 2 ^ 64 } }
    { s with vault := { s.vault with outstanding := some { why := why, message := msg, reissued := reissued, sentAt := now s } } }

/-- Start the next waiting vault write, record changes merged first, where none is outstanding (14 R392, R397). -/
def vaultPump (s : State) : State :=
  if s.vault.outstanding.isSome || s.chip.vaultKey.isNone then s
  else if s.vault.queued ≠ VaultChange.none then
    let c := s.vault.queued
    vaultSend (.writeRecord c) false 2 0 (mergedRecord s c) { s with vault := { s.vault with queued := VaultChange.none } }
  else match s.vault.block1 with
    | [] => s
    | w :: ws => vaultSend (.writeBlock1 w.1) false 2 1 w.2 { s with vault := { s.vault with block1 := ws } }

/-- The later of two changes, field by field. -/
def mergeChange (a b : VaultChange) : VaultChange :=
  { epoch := b.epoch.orElse fun _ => a.epoch, ceiling := b.ceiling.orElse fun _ => a.ceiling,
    floor := b.floor.orElse fun _ => a.floor, member := b.member.orElse fun _ => a.member, waiters := a.waiters ++ b.waiters }

/-- Queue a change of the record (14 R397). -/
def vaultChange (c : VaultChange) (s : State) : State :=
  vaultPump { s with vault := { s.vault with queued := mergeChange s.vault.queued c } }

/-- Queue a write of block 1 (15 R427). -/
def vaultBlock1 (why : Block1Why) (b : Bytes) (s : State) : State :=
  vaultPump { s with vault := { s.vault with block1 := s.vault.block1 ++ [(why, b)] } }

/-- VALUE of a KEYSTORE entry: status, REASON and KIND (15 Table 15.5). -/
def keyValue (status : Status) (reason kind : Nat) : Nat := Config.packed [status.toNat, reason, kind]

/-- The failure of a vault access (14 R393): event 0xE9 and a logbook entry. -/
def vaultFailed (s : State) : State := raiseLog 0xE9 0x0020 0 (keyValue 0x0601 0 0) 0 s

/-! ### Locks (13 R358, R359) -/

/-- Both locks closed (13 R361). -/
def closeLocks (s : State) : State := { s with regs := { s.regs with mgrOpen := none, mpOpen := none } }

/-! ### Changing mode (12 R327) -/

/-- The number of a unit of kinds 1 to 5 among the registers. -/
def regKey (kind i : Nat) : Nat := 1024 * kind + i

/-- What a unit holds. -/
def regsOf (s : State) (kind i : Nat) : UnitRegs := tableGet UnitRegs.reset s.units.regs (regKey kind i)

/-- What a unit holds, changed. -/
def setRegs (kind i : Nat) (r : UnitRegs) (s : State) : State :=
  { s with units := { s.units with regs := tableSet UnitRegs.reset s.units.regs (regKey kind i) r } }

/-- A unit cleared: its key registers, sealed PIN register and operand memory are zero (05 R147, 07 R225, 16 R437). -/
def clearUnit (kind i : Nat) (s : State) : State := setRegs kind i UnitRegs.reset s

/-- The public-key cores that run an OP, by kind and index. -/
def runningCores (s : State) : List (Nat × Nat) :=
  s.takes.filterMap fun t => t.op.bind fun o =>
    if t.phase = .running then
      match o.kind with
      | .standard => o.unit.map fun i => (4, i)
      | .shielded => o.unit.map fun i => (5, i)
      | _ => none
    else none

/-- A core wiped (07 R225 to R227): a standard core keeps the owner it is pinned to. -/
def wipeCore (kind core : Nat) (s : State) : State :=
  let s := clearUnit kind core s
  if kind = 4 then { s with units := { s.units with owners := tableSet 0 s.units.owners core (tableGet 0 s.units.pins core) } } else s

/-- The units after a wipe of every idle core; those that run an OP are marked and keep their owners until it ends. -/
def coresWiped (busy : List (Nat × Nat)) (u : Units) : Units :=
  { u with
    regs := busy.foldl (fun m c => tableSet UnitRegs.reset m (regKey c.1 c.2)
      { tableGet UnitRegs.reset u.regs (regKey c.1 c.2) with wipe := true }) (u.regs.filter fun p => p.1 < regKey 4 0)
    owners := (busy.filter (·.1 = 4)).foldl (fun m c => tableSet 0 m c.2 (tableGet 0 u.owners c.2)) u.pins }

/-- The wipe of every public-key core at a mode change (07 R226, R227): at once where it is idle, when its OP ends where it runs one;
an unpinned core has no owner afterwards. -/
def wipeCores (s : State) : State := { s with units := coresWiped (runningCores s) s.units }

/-- The AUX pair passes from the console to port B on entry to a mode that pairs with link paths duplicated (11 R305): a console session ends,
and port B comes up where its partner is there. -/
def takeAux (old : Mode) (s : State) : State :=
  if pairs s.modes.mode && !pairs old && s.twin.dup.getLsbD 1 then
    let s := { s with access := { s.access with diag := none } }
    if s.twin.upB then raise 0xC2 s else s
  else s

/-- The mode itself changes: PREV, event 0x20, event 0x25 where DEGRADED is left (12 R351), the locks, the operand memories (12 R327,
13 R361). -/
def turnMode (m : Mode) (s : State) : State :=
  let old := s.modes.mode
  let s := raise 0x20 { s with modes := { s.modes with mode := m, prev := old } }
  let s := if old = .degraded && m ≠ .degraded then raise 0x25 s else s
  takeAux old (wipeCores (closeLocks s))

/-- Change mode with its logbook entry. -/
def changeMode (m : Mode) (status : Status) (s : State) : State :=
  turnMode m (logAs m (now s) 0x0003 1 0x20 (modeCode m) (modeCode s.modes.mode) status.toNat s)

/-- OPERATIONAL or DEGRADED, as FENCED decides (12 R339). -/
def servingMode (s : State) : Mode := if fencedByte s = 0 then .operational else .degraded

/-- Enter OPERATIONAL or DEGRADED from another mode; DEGRADED raises 0x24. The first entry after a start is the one RUN_MS counts from
(11 Table 11.7). -/
def enterServing (status : Status) (s : State) : State :=
  let m := servingMode s
  let s := if s.twin.runSince = 0 then { s with twin := { s.twin with runSince := now s } } else s
  let s := changeMode m status s
  if m = .degraded then raise 0x24 s else s

/-- After a change of FENCED: OPERATIONAL and DEGRADED follow it (12 R339). -/
def settleMode (s : State) : State :=
  if s.modes.mode = .operational && fencedByte s ≠ 0 then raise 0x24 (changeMode .degraded 0 s)
  else if s.modes.mode = .degraded && fencedByte s = 0 then changeMode .operational 0 s
  else s

/-! ### Statuses (16 Table 16.6) -/

/-- SLATE_MALFORMED. -/
def stSlateMalformed : Status := 0x0101
/-- OPCODE_UNKNOWN. -/
def stOpcodeUnknown : Status := 0x0102
/-- BUDGET_EXCEEDED. -/
def stBudgetExceeded : Status := 0x0103
/-- HOLD_EXCEEDED. -/
def stHoldExceeded : Status := 0x0104
/-- LENGTH_INVALID. -/
def stLengthInvalid : Status := 0x0105
/-- STAGE_RANGE. -/
def stStageRange : Status := 0x0106
/-- BUS_ERROR. -/
def stBusError : Status := 0x0201
/-- BUS_POISON. -/
def stBusPoison : Status := 0x0202
/-- DOMAIN_ASLEEP_TIMEOUT. -/
def stAsleepTimeout : Status := 0x0203
/-- DECODE_ERROR. -/
def stDecodeError : Status := 0x0204
/-- SLOT_EMPTY. -/
def stSlotEmpty : Status := 0x0301
/-- USAGE_DENIED. -/
def stUsageDenied : Status := 0x0302
/-- BLOB_INVALID. -/
def stBlobInvalid : Status := 0x0303
/-- BLOB_LENGTH_MISMATCH. -/
def stBlobLength : Status := 0x0304
/-- OWNER_MISMATCH. -/
def stOwnerMismatch : Status := 0x0305
/-- TAG_MISMATCH. -/
def stTagMismatch : Status := 0x0401
/-- VERIFY_FAIL. -/
def stVerifyFail : Status := 0x0402
/-- INPUT_RANGE. -/
def stInputRange : Status := 0x0403
/-- POINT_INVALID. -/
def stPointInvalid : Status := 0x0404
/-- PIN_FORMAT. -/
def stPinFormat : Status := 0x0405
/-- PIN_MISMATCH. -/
def stPinMismatch : Status := 0x0406
/-- CHECK_FAIL. -/
def stCheckFail : Status := 0x0407
/-- PADDING_INVALID. -/
def stPaddingInvalid : Status := 0x0408
/-- RNG_NOT_READY. -/
def stRngNotReady : Status := 0x0501
/-- RNG_FAILED. -/
def stRngFailed : Status := 0x0502
/-- FAULT_DETECTED. -/
def stFaultDetected : Status := 0x0601
/-- UNIT_UNAVAILABLE. -/
def stUnitUnavailable : Status := 0x0602
/-- REEL_ABORTED. -/
def stReelAborted : Status := 0x0701
/-- TENANT_PAUSED. -/
def stTenantPaused : Status := 0x0702
/-- MODE_DENIED. -/
def stModeDenied : Status := 0x0703
/-- STRUCK. -/
def stStruck : Status := 0x0704
/-- KEY_EXHAUSTED. -/
def stKeyExhausted : Status := 0x0705
/-- EPOCH_EXHAUSTED. -/
def stEpochExhausted : Status := 0x0706

end Sys2Proof.Machine
end

