-- ==== Sys2Proof/Machine/Guard.lean ====
section
/-! DEFINITION. How a register write reaches its block: the mode's limits, the hold of a DROWSE wake, the locks of the
Manager and the MP, and guarded fields (13 R353 to R361). -/

namespace Sys2Proof.Machine

/-- When a source's lock was opened. -/
def lockTime (src : Source) (s : State) : Option Nat :=
  match src with
  | .manager => s.regs.mgrOpen
  | .mp => s.regs.mpOpen
  | .function _ | .outranked _ => none

/-- Whether a source's lock is open: until the end of the 1 µs after its UNLOCK (13 R359). -/
def lockOpen (src : Source) (s : State) : Bool :=
  match lockTime src s with
  | some t => now s ≤ t + 1
  | none => false

/-- A source's lock set. -/
def setLock (src : Source) (v : Option Nat) (s : State) : State :=
  match src with
  | .manager => { s with regs := { s.regs with mgrOpen := v } }
  | .mp => { s with regs := { s.regs with mpOpen := v } }
  | .function _ | .outranked _ => s

/-- DENIED_SRC of a source (13 Table 13.4). -/
def srcCode : Source → Nat
  | .manager => 1
  | .mp => 2
  | .function _ | .outranked _ => 0

/-- A refused guarded write (13 R360): LOCK_STATE and event 0xE2. -/
def deny (src : Source) (offset : BitVec 20) (s : State) : State :=
  raise 0xE2 { s with regs := { s.regs with
    denied := true, deniedCount := satInc s.regs.deniedCount, deniedOffset := offset,
    deniedSrc := BitVec.ofNat 2 (srcCode src) } }

/-- A write to a guarded register (13 R359, R360). `plain` applies its non-KEY fields, `keyed` its KEY fields and any action
they start, and `changes` says whether the write would change a KEY field. -/
def guarded (src : Source) (offset : BitVec 20) (changes : Bool) (plain keyed : State → State) (s : State) : State :=
  if lockOpen src s then setLock src none (keyed (plain s))
  else if changes then deny src offset (plain s)
  else plain s

/-- Whether the register port accepts a Manager-window write at an offset in the present mode (12 Table 12.3). -/
def writable (offset : BitVec 20) (s : State) : Bool :=
  let lockOrMode := offset = 0x00010 || offset = 0x00018 || offset = 0x00028
  match s.modes.mode with
  | .hold | .reset | .retired | .drowse => false
  | .selftest => lockOrMode
  | .struck => lockOrMode || offset = 0x07018 || (0x07300 ≤ offset && offset ≤ 0x07318)
  | _ => true

/-! ### The register port (13 R355, 14 R384 to R387) -/

/-- Whether the register port answers at all: its decode lies in the scheduler island, which HOLD and DROWSE stop and RESET starts (14 R387).
In DROWSE it holds what it takes for the wake. -/
def portAnswers (s : State) : Bool := s.modes.mode ≠ .hold && (s.modes.mode ≠ .reset || (islandAt s 2).state = .running)

/-- Whether 64 accesses of the port are outstanding, so that it accepts no other (14 R385). -/
def portFull (s : State) : Bool := 64 ≤ (s.regs.held.filter fun a => a.src ≠ .mp).length

/-- An access accepted, with the tag the containing chip gives it. -/
def accept (s : State) : State :=
  { s with regs := { s.regs with reqTag := Config.accessTag s.regs.accesses, accesses := s.regs.accesses + 1 } }

/-- The port answers a read with a word, or a write with zero, without an error (14 Table 14.4). -/
def respond (value : Word) (s : State) : State :=
  { s with regs := { s.regs with rspErr := false, rspData := value, rspTag := s.regs.reqTag } }

/-- The port answers a write without an error: RP_RSP_DATA is zero. -/
def answered (s : State) : State := respond 0 s

/-- The error response of the register port (13 R354). -/
def portError (s : State) : State := { s with regs := { s.regs with rspErr := true, rspData := 0, rspTag := s.regs.reqTag } }

/-- The modes in which the management island serves the direct-feed port (12 Table 12.3). -/
def directRuns (m : Mode) : Bool := m = .selftest || m = .sealed || pairs m || m = .maintenance || m = .factory

/-- Whether an access is a write of DD_DATA or DD_CTRL that BUSY holds (06 R191). -/
def directHolds (a : HeldAccess) (s : State) : Bool :=
  a.write && a.size = .w64 && (a.src = .manager || a.src = .mp) && (a.offset = 0x0F000 || a.offset = 0x0F010) &&
  directRuns s.modes.mode && s.direct.busy

/-- Whether an access is held: for the wake in DROWSE (12 R343), for DIRECT_DIGEST, or behind an earlier one of its source, since those of one
source are applied in order (13 R355). -/
def heldUp (a : HeldAccess) (s : State) : Bool :=
  s.modes.mode = .drowse || directHolds a s || s.regs.held.any fun b => b.src = a.src

/-- An access put among those held. -/
def holdAccess (a : HeldAccess) (s : State) : State := { s with regs := { s.regs with held := s.regs.held ++ [a] } }

/-- An access as it comes to the port, or on the MP's own path: held, or carried out by `f`. In HOLD, in RESET before the scheduler island runs,
and where 64 are outstanding, the port does not take it; the MP runs neither in HOLD nor in DROWSE. -/
def arrive (src : Source) (size : AccSize) (offset : BitVec 20) (write : Bool) (value : Word) (f : State → State) (s : State) : State :=
  let go := fun s : State =>
    let a : HeldAccess := { src := src, size := size, offset := offset, write := write, value := value, tag := s.regs.reqTag }
    if heldUp a s then holdAccess a s else f s
  if src = .mp then (if s.modes.mode = .hold || s.modes.mode = .drowse then s else go s)
  else if !portAnswers s || portFull s then s
  else go (accept s)

/-! ### Commands of one cycle (13 R365) -/

/-- LOST of the command register at an offset, set. -/
def setLost (o : Nat) (s : State) : State :=
  if o = 0x28 then { s with modes := { s.modes with lost := true } }
  else if o = 0x3000 then { s with sheets := { s.sheets with lost := true } }
  else if o = 0x6000 then { s with keys := { s.keys with lost := true } }
  else if o = 0x7200 then { s with fw := { s.fw with lost := true } }
  else if o = 0x7300 then { s with access := { s.access with lost := true } }
  else if o = 0x8000 then { s with units := { s.units with lost := true } }
  else if o = 0x9000 then { s with sheets := { s.sheets with migLost := true } }
  else s

/-- Whether a command register is guarded. -/
def lostGuarded (o : Nat) : Bool := o = 0x28 || o = 0x3000 || o = 0x7200 || o = 0x7300 || o = 0x8000

/-- A command of the Manager or the MP in a cycle in which a higher priority has been served (13 R365, Table 13.2, 12 R329): it sets LOST where
the register has that bit and starts nothing. A guarded one needs its lock, which re-arms, but for a strike, which has closed it (R361). -/
def outrankedWrite (mp : Bool) (offset : BitVec 20) (s : State) : State :=
  let src : Source := if mp then .mp else .manager
  let o := offset.toNat
  if s.modes.mode = .hold || s.modes.mode = .drowse || (!mp && (!portAnswers s || portFull s)) then s
  else
    let s := if mp then s else answered (accept s)
    if !lostGuarded o || s.modes.mode = .struck then setLost o s
    else if lockOpen src s then setLock src none (setLost o s)
    else s

/-- A write of the Manager or the MP to the Manager window. The MP's path is its own and no mode but those in which the MP does not run limits it. -/
def mgrWrite (src : Source) (offset : BitVec 20) (value : Word) (f : State → State) (s : State) : State :=
  match src with
  | .manager => arrive .manager .w64 offset true value (fun s => if writable offset s then f (answered s) else answered s) s
  | .mp => arrive .mp .w64 offset true value f s
  | .outranked mp => outrankedWrite mp offset s
  | .function _ => s

/-- Whether a tenant's window answers: the function is implemented and not FREE, in a mode that holds tenants (10 R276, 12 Table 12.3). -/
def windowOpen (f : Func) (s : State) : Bool :=
  f.toNat < tenantCount s && (tenantOf s f.toNat).state ≠ .free && pairs s.modes.mode

/-- A write to a tenant's window: nothing where the function is FREE or unimplemented (10 R276, 00 R3), held in DROWSE. -/
def tenantWrite (func : Func) (offset : BitVec 20) (value : Word) (f : State → State) (s : State) : State :=
  arrive (.function func) .w64 offset true value (fun s => if windowOpen func s then f (answered s) else answered s) s

/-- UNLOCK (13 R358). -/
def unlockWrite (src : Source) (value : Word) (s : State) : State :=
  if value = 0xA5C3 then setLock src (some (now s)) s
  else raise 0xE5 (setLock src none { s with regs := { s.regs with badKey := true } })

/-- UNLOCK. -/
def execUnlock (src : Source) (value : Word) (s : State) : Outcome :=
  .next (mgrWrite src 0x00010 value (unlockWrite src value) s)

/-- LOCK_REARM (13 R359): the 400th cycle after the UNLOCK has ended. -/
def execLockRearm (src : Source) (s : State) : Outcome :=
  match lockTime src s with
  | some t => if t + 1 ≤ now s then .next (setLock src none s) else .next s
  | none => .next s

/-! ### The event block (13 R370 to R373) -/

/-- EVT_TEST (13 R370): a reserved value sets its STATUS bit only (16 R448); the raise is logged as a test raise. -/
def reservedEvents : List Nat := [0x1B, 0x1C, 0x1D, 0x1F] ++ (List.range 22).map (· + 0x2A) ++ (List.range 27).map (· + 0x45) ++
  (List.range 20).map (· + 0x6C) ++ (List.range 23).map (· + 0x89) ++ [0xA6, 0xA7] ++ (List.range 20).map (· + 0xAC) ++
  (List.range 20).map (· + 0xCC) ++ [0xE0] ++ (List.range 15).map (· + 0xF1)

/-- The action of EVT_TEST: raise the event as its source would, and log the test raise. -/
def testRaise (e : Nat) (s : State) : State :=
  if reservedEvents.contains e then setStatusBit e s
  else logAs s.modes.mode (now s) 0x0060 5 e 0x188 0 0 (raise e s)

/-- A 64-bit write of EVT_TEST. Its KEY field reads 0, so a write of 0 changes nothing. -/
def evtTestWrite (src : Source) (value : Word) (s : State) : State :=
  guarded src 0x00188 (bits 0 8 value ≠ 0) id (testRaise (bits 0 8 value)) s

/-- EVT_TEST. -/
def execEvtTest (src : Source) (value : Word) (s : State) : Outcome :=
  .next (mgrWrite src 0x00188 value (evtTestWrite src value) s)

/-- After ENABLE or MSG_EN changed: each event whose product has gone from 0 to 1 starts its message (13 R371). -/
def startLive (before : State) (s : State) : State :=
  (List.range 256).foldl (fun t e => if !eventLive before e && eventLive t e then startMessage (vectorOf t e) t else t) s

/-- EVT_ENABLEi written. -/
def evtEnableSet (i : Nat) (value : Word) (s : State) : State :=
  let old := s.events.enable.toNat
  let part := (old / 2 ^ (64 * i)) % 2 ^ 64
  let new := BitVec.ofNat 256 (old - part * 2 ^ (64 * i) + value.toNat * 2 ^ (64 * i))
  startLive s { s with events := { s.events with enable := new } }

/-- EVT_CTRL written. -/
def evtCtrlWrite (value : Word) (s : State) : State :=
  startLive s { s with events := { s.events with msgEn := bit 0 value } }

/-- EVT_ENABLE_WRITE: EVT_ENABLE0 to 3, or EVT_CTRL. -/
def execEvtEnableWrite (src : Source) (reg : Fin 5) (value : Word) (s : State) : Outcome :=
  if reg.val < 4 then .next (mgrWrite src (BitVec.ofNat 20 (0x120 + 8 * reg.val)) value (evtEnableSet reg.val value) s)
  else .next (mgrWrite src 0x00198 value (evtCtrlWrite value) s)

/-- A word of EVT_VECTOR written; any write of the vector lets 0xE6 start messages on it again (13 R373). -/
def evtVectorSet (v : Nat) (upper : Bool) (value : Word) (s : State) : State :=
  let x := vecOf s v
  let x := if upper then { x with data := BitVec.ofNat 32 value.toNat, port := bit 32 value, masked := bit 33 value }
    else { x with addr := value }
  { s with events := { s.events with
      vectors := tableSet Vec.reset s.events.vectors v x, blocked := s.events.blocked.filter (· ≠ v) } }

/-- EVT_VECTOR_WRITE. -/
def execEvtVectorWrite (src : Source) (vec : BitVec 8) (upper : Bool) (value : Word) (s : State) : Outcome :=
  .next (mgrWrite src (BitVec.ofNat 20 (0x1000 + 16 * vec.toNat + 8 * b2n upper)) value (evtVectorSet vec.toNat upper value) s)

/-- The modes in which the fabric-port islands issue messages (12 Table 12.3). -/
def messagesGo (m : Mode) : Bool := m = .selftest || m = .sealed || pairs m || m = .maintenance || m = .factory

/-- EVENT_MESSAGE_WRITE (13 R372): the message started on a vector goes to the port it names, as function 0x400. -/
def execEventMessageWrite (vec : BitVec 8) (s : State) : Outcome :=
  let v := vec.toNat
  match s.events.started.find? fun m => m.1 = v && messagesGo s.modes.mode with
  | some m =>
    let s := { s with events := { s.events with started := s.events.started.filter fun m => m.1 ≠ v } }
    .next (issue true m.2.port { tag := 0, addr := m.2.addr &&& ~~~3, len := 4, data := toLe 4 m.2.data.toNat, func := 0x400,
                                 attr := BitVec.ofNat 4 attrMsgUnit, purpose := .eventMessage v, issues := 1 } s)
  | none => .next s

end Sys2Proof.Machine
end

