-- ==== Sys2Proof/Machine/Store.lean ====
section
/-! DEFINITION. What every command that touches the key store shares (08_key_store_and_key_updates.md): classes, usages, attribute
records, material checks, commits, floors, secrets, and the changes carried to a twin. -/

namespace Sys2Proof.Machine

/-! ### Classes and usages (08 R230, R231) -/

/-- Whether KEY_BYTES suits a class (08 Table 8.3); false for an undefined class. -/
def keyBytesOk (cls n : Nat) : Bool :=
  if cls = 0x01 ∨ cls = 0x04 then n = 16
  else if cls = 0x02 ∨ cls = 0x05 then n = 24
  else if cls = 0x03 ∨ cls = 0x06 ∨ cls = 0x2A then n = 32
  else if cls = 0x07 ∨ cls = 0x24 ∨ cls = 0x28 ∨ cls = 0x2C then n = 64
  else if cls = 0x08 then 14 ≤ n && n ≤ 128
  else if cls = 0x10 then n % 5 = 4 && 64 ≤ n / 5 && n / 5 ≤ 256
  else if cls = 0x11 then 132 ≤ n && n ≤ 516
  else if cls = 0x20 ∨ cls = 0x25 then n = 96
  else if cls = 0x21 then n = 144
  else if cls = 0x22 then n = 198
  else if cls = 0x26 then n = 132
  else if cls = 0x29 then n = 114
  else if cls = 0x2B then n = 57
  else if cls = 0x2D then n = 112
  else if [0x30, 0x31, 0x32, 0x34, 0x35, 0x36].contains cls then n = 64
  else false

/-- Whether a class code is defined (08 Table 8.3). -/
def classDefined (cls : Nat) : Bool :=
  (1 ≤ cls && cls ≤ 8) || cls = 0x10 || cls = 0x11 || (0x20 ≤ cls && cls ≤ 0x22) || (0x24 ≤ cls && cls ≤ 0x26) ||
  (0x28 ≤ cls && cls ≤ 0x2D) || [0x30, 0x31, 0x32, 0x34, 0x35, 0x36].contains cls

/-- The slots a key occupies: its 56-byte shares (08 Table 8.1, 8.3). -/
def slotsFor (keyBytes : Nat) : Nat := ceilDiv keyBytes 56

/-- The ALG codes a class HMAC key may serve (06 Table 6.3). -/
def hmacAlg (h : Nat) : Bool := h ≤ 5 || (8 ≤ h && h ≤ 11)

/-- HASH of a record: an ALG code for class HMAC, otherwise zero (08 Table 8.2). -/
def hashOk (cls h : Nat) : Bool := if cls = 8 then hmacAlg h else h = 0

/-- A private asymmetric class. -/
def isPrivate (cls : Nat) : Bool :=
  cls = 0x10 || (0x20 ≤ cls && cls ≤ 0x22) || cls = 0x28 || cls = 0x29 || cls = 0x2C || cls = 0x2D || 0x30 ≤ cls

/-- A public class. -/
def isPublic (cls : Nat) : Bool := cls = 0x11 || (0x24 ≤ cls && cls ≤ 0x26) || cls = 0x2A || cls = 0x2B

/-- A symmetric class. -/
def isSymmetric (cls : Nat) : Bool := 1 ≤ cls && cls ≤ 8

/-- A usage bit. -/
def uses (u : BitVec 32) (i : Nat) : Bool := u.getLsbD i

/-- The bits a usage attribute set has. -/
def usageBits (u : BitVec 32) : List Nat := (List.range 32).filter fun i => u.getLsbD i

/-- The groups of 08 Table 8.4. -/
def usageGroups : List (List Nat) :=
  [[0, 1, 2, 3], [3, 4, 5], [6, 7], [8, 9, 10, 13], [11, 12], [14], [15, 16], [17], [18], [19, 20, 21], [22], [25, 26, 27]]

/-- Whether an attribute is permitted for a class (08 Table 8.4). -/
def usageForClass (cls i : Nat) : Bool :=
  let at' := isAes cls || isTdes cls
  let xts := cls = 6 || cls = 7
  let ec := 0x20 ≤ cls && cls ≤ 0x26
  let ed := 0x28 ≤ cls && cls ≤ 0x2B
  match i with
  | 0 => at' || xts || cls = 0x10 || cls = 0x11
  | 1 => at' || xts || cls = 0x10
  | 2 => at'
  | 3 => isTdes cls
  | 4 => at' || cls = 8
  | 5 => at' || cls = 8
  | 6 => at'
  | 7 => at'
  | 8 => at'
  | 9 => at'
  | 10 => isTdes cls
  | 11 => at'
  | 12 => at'
  | 13 => at'
  | 14 => isAes cls || cls = 4
  | 15 => isAes cls || cls = 4
  | 16 => isAes cls || cls = 4
  | 17 => cls = 4
  | 18 => isAes cls
  | 19 => cls = 0x10 || (0x20 ≤ cls && cls ≤ 0x22) || cls = 0x28 || cls = 0x29
  | 20 => cls = 0x10 || cls = 0x11 || ec || ed
  | 21 => cls = 0x10
  | 22 => (0x20 ≤ cls && cls ≤ 0x22) || cls = 0x2C || cls = 0x2D || 0x30 ≤ cls
  | 23 => isSymmetric cls
  | 24 => isPrivate cls
  | 25 => cls = 0x25
  | 26 => cls = 0x25
  | 27 => cls = 3
  | _ => false

/-- Whether a system attribute stands in its own system slot; none for a key that is not in a slot. -/
def systemPlace (slot : Option Nat) (i : Nat) : Bool :=
  match slot with
  | none => false
  | some n => if i = 27 then n = 0x20 else n < 0x20 && n % 2 = 0

/-- R231 for USAGE and DERIVED_MASK of a class, in a slot or outside any (none). -/
def usageOk (cls : Nat) (usage derived : BitVec 32) (slot : Option Nat) : Bool :=
  let us := usageBits usage
  usageGroups.any (fun g => us.all fun i => i = 23 || i = 24 || g.contains i) &&
  us.all (fun i => usageForClass cls i && (i < 25 || systemPlace slot i)) &&
  (derived = 0 || uses usage 18 || uses usage 22) &&
  (usageBits derived).all fun i => i < 25 && i ≠ 18 && i ≠ 24

/-- Whether a usage is a subset of another. -/
def subUsage (a b : BitVec 32) : Bool := a &&& ~~~b = 0

/-! ### Material (04 R119, 08 Table 8.7 check 14) -/

/-- R119: the parts of a TDES key differ, and the halves of an XTS key differ. -/
def symmetricOk (cls : Nat) (m : Bytes) : Bool :=
  if cls = 4 then m.take 8 ≠ slice 8 8 m
  else if cls = 5 then m.take 8 ≠ slice 8 8 m && slice 8 8 m ≠ m.drop 16
  else if cls = 6 || cls = 7 then m.take (m.length / 2) ≠ m.drop (m.length / 2)
  else true

/-- The parts of an RSA private key: p, q, dP, dQ, qInv, e. -/
def rsaParts (m : Bytes) : Nat × Nat × Nat × Nat × Nat × Nat :=
  let h := m.length / 5
  let f := fun i => beNat (slice (i * h) h m)
  (f 0, f 1, f 2, f 3, f 4, leNat (m.drop (5 * h)))

/-- An RSA private key whose parts agree with p and q, with a public exponent within 07 R207. -/
def rsaPrivateOk (m : Bytes) : Bool :=
  let r := rsaParts m
  let p := r.1
  let q := r.2.1
  2 < p && 2 < q && p % 2 = 1 && q % 2 = 1 && p ≠ q && 3 ≤ r.2.2.2.2.2 && r.2.2.2.2.2 % 2 = 1 && r.2.2.2.2.2 * r.2.2.1 % (p - 1) = 1 &&
  r.2.2.2.2.2 * r.2.2.2.1 % (q - 1) = 1 && r.2.2.2.2.1 * q % p = 1

/-- An RSA public key: odd modulus of full length, odd exponent above 1. -/
def rsaPublicOk (m : Bytes) : Bool :=
  let k := m.length - 4
  let n := beNat (m.take k)
  let e := leNat (m.drop k)
  n % 2 = 1 && 2 ^ (8 * k - 1) ≤ n && e % 2 = 1 && 1 < e

/-- Check 14 of 08 Table 8.7. -/
def materialOk (cls : Nat) (m : Bytes) : Bool :=
  if cls ≤ 8 then symmetricOk cls m
  else if cls = 0x10 then rsaPrivateOk m
  else if cls = 0x11 then rsaPublicOk m
  else if 0x20 ≤ cls && cls ≤ 0x22 then
    let c := curveOf (cls - 0x20)
    let d := beNat (m.take c.f)
    0 < d && d < c.n && ecPublic c d = m.drop c.f
  else if 0x24 ≤ cls && cls ≤ 0x26 then (pointOf (curveOf (cls - 0x24)) m).isSome
  else if cls = 0x28 then edPublic ed25519 (m.take 32) = m.drop 32
  else if cls = 0x29 then edPublic ed448 (m.take 57) = m.drop 57
  else if cls = 0x2A then (edDecode ed25519 m).isSome
  else if cls = 0x2B then (edDecode ed448 m).isSome
  else true

/-! ### Slots and records (08 Table 8.1, 8.2) -/

/-- STATE with DUAL, byte 0x0D. -/
def stateByte (x : Slot) : Nat :=
  (match x.state with | .empty => 0 | .pending => 1 | .active => 2 | .faulted => 3) + flagAt 2 x.dual

/-- The 48-byte attribute record; `counts` keeps USE_COUNT and LOCAL_COUNT, else they read zero. -/
def recordOf (counts : Bool) (x : Slot) : Bytes :=
  toLe 2 x.owner ++ toLe 1 x.cls ++ toLe 1 (x.size + flagAt 5 x.cont) ++ toLe 4 x.usage.toNat ++ toLe 4 x.derived.toNat ++
  toLe 1 x.hash ++ toLe 1 (stateByte x) ++ toLe 2 x.keyBytes ++ toLe 8 x.writtenBy.toNat ++ toLe 5 x.useCap ++
  toLe 5 (if counts then x.useCount else 0) ++ toLe 5 (if counts then x.localCount else 0) ++ fit 3 x.kcv ++
  toLe 2 x.scope ++ zeroBytes 4

/-- Whether a slot's content equals a record's, use counts apart (11 R314). -/
def sameContent (x y : Slot) : Bool := recordOf false x = recordOf false y && fit 56 x.share = fit 56 y.share

/-- A slot read back from its 48-byte record and 56-byte share. -/
def slotFrom (r share : Bytes) : Slot :=
  { owner := field 0 2 r % 2048, cls := byteAt 2 r, size := byteAt 3 r % 32, cont := byteAt 3 r / 32 % 2 = 1,
    usage := BitVec.ofNat 32 (field 4 4 r), derived := BitVec.ofNat 32 (field 8 4 r), hash := byteAt 0x0C r,
    state := match byteAt 0x0D r % 4 with | 0 => .empty | 1 => .pending | 2 => .active | _ => .faulted,
    dual := byteAt 0x0D r / 4 % 2 = 1, keyBytes := field 0x0E 2 r, writtenBy := BitVec.ofNat 64 (field 0x10 8 r),
    useCap := field 0x18 5 r, useCount := field 0x1D 5 r, localCount := field 0x22 5 r, kcv := slice 0x27 3 r,
    scope := field 0x2A 2 r, share := share, custodian := none, gen := 0 }

/-- What the cell of a slot holds: the share XOR the current mask (08 R232). -/
def cellMaterial (s : State) (i : Nat) : Bytes :=
  xorBytes (fit 56 (slotOf s i).share) (fit 56 (Config.cellMask s.keys.refreshes i))

/-- Where a slot stands in its group. -/
def placeInGroup (s : State) (i : Nat) : Nat := ((List.range 32).find? fun k => !(slotOf s (i - k)).cont).getD 0

/-- The ATTR word of a slot's cell (08 Table 8.1). -/
def cellAttr (s : State) (i : Nat) : Bytes :=
  let x := slotOf s i
  toLe 4 (x.cls + placeInGroup s i * 2 ^ 8 + x.size * 2 ^ 13)

/-- The TAG word of a slot's cell (R232): the first 32 bits of a CMAC under this start's key; 0 in a slot that is as at reset. -/
def cellTag (s : State) (i : Nat) : Bytes :=
  let x := slotOf s i
  match s.keys.tagKey with
  | some k => if x = Slot.reset then zeroBytes 4 else (cmacKey 3 k (fit 56 x.share ++ cellAttr s i ++ toLe 4 i ++ recordOf false x)).take 4
  | none => zeroBytes 4

/-- The 64 bytes of a slot's cell (08 Table 8.1). -/
def slotCell (s : State) (i : Nat) : Bytes := cellMaterial s i ++ cellAttr s i ++ cellTag s i

/-- A list put in the order that some choices give: each choice takes one of what is left. -/
def inOrder (pick : Nat → Nat) : Nat → List Nat → List Nat
  | 0, _ => []
  | n + 1, xs =>
    let k := pick n % xs.length
    xs.getD k 0 :: inOrder pick n (xs.eraseIdx k)

/-- The address of a slot's cell: a permutation of the slots, derived at each start (R232, 12 R334). -/
def cellAddress (s : State) (i : Nat) : Nat :=
  (inOrder (Config.cellPick (s.keys.tagKey.getD [])) (slotCount s) (List.range (slotCount s))).getD i i

/-- The slots of the group at a first slot. -/
def groupSlots (s : State) (i : Nat) : List Nat := (List.range ((slotOf s i).size + 1)).map (i + ·)

/-- The clear material of the group at a first slot. -/
def groupMaterial (s : State) (i : Nat) : Bytes :=
  ((groupSlots s i).flatMap fun j => fit 56 (slotOf s j).share).take (slotOf s i).keyBytes

/-- The 112-byte slot record of 08 Table 8.15 under a number. -/
def slotRecord (number : Nat) (x : Slot) : Bytes := toLe 4 number ++ zeroBytes 4 ++ recordOf true x ++ fit 56 x.share

/-- The slots of a tenant's range. -/
def rangeSlots (t : Tenant) : List Nat := (List.range t.sheet.slots).map (t.sheet.slotBase + ·)

/-- The slot-table digest of a tenant (08 R251). -/
def slotDigest (s : State) (f : Nat) : Bytes :=
  sha384 ((rangeSlots (tenantOf s f)).flatMap fun i => toLe 4 i ++ recordOf false (slotOf s i))

/-- The SHA-384 hash of the IDK public key; zeros while no IDK exists. -/
def idkHash (s : State) : Bytes :=
  match s.ao.idk with
  | some d => sha384 (ecPublic p384 d)
  | none => zeroBytes 48

/-! ### Continuity records (11 R313, R315) -/

/-- The header of an entry (11 Table 11.9). -/
def entryHead (s : State) (kind len object : Nat) : Bytes :=
  toLe 1 kind ++ [0] ++ toLe 2 len ++ toLe 4 object ++ toLe 8 s.twin.rx

/-- Carry a local change to the partner (11 R313): only in a session. -/
def carry (kind object : Nat) (body : Bytes) (slots : List Nat) (s : State) : State :=
  if s.twin.link = .paired || s.twin.link = .sync then
    let n := s.twin.tx + 1
    { s with twin := { s.twin with
        changes := s.twin.changes ++ [entryHead s kind (16 + body.length) object ++ body], commit := n,
        slotRecord := slots.foldl (fun m i => tableSet 0 m i n) s.twin.slotRecord } }
  else s

/-- A SLOT entry body for the group at a slot: OP 1 WRITE, 2 AMEND, 3 ERASE. -/
def slotEntryBody (s : State) (op i : Nat) : Bytes :=
  let x := slotOf s i
  toLe 1 op ++ toLe 1 x.size ++ zeroBytes 6 ++
    (if op = 3 then [] else (groupSlots s i).flatMap fun j => slotRecord j (slotOf s j))

/-! ### The companion area (08 R233) -/

/-- The companion content of a key. -/
def companionOf (cls hash : Nat) (m : Bytes) : Companion :=
  if cls = 8 then .hmac (hmacStates hash m).1 (hmacStates hash m).2
  else if cls = 0x10 then
    let n := (rsaParts m).1 * (rsaParts m).2.1
    .rsa n (Config.reductionConstants n)
  else if cls = 0x11 then
    let n := beNat (m.take (m.length - 4))
    .rsa n (Config.reductionConstants n)
  else if 0x20 ≤ cls && cls ≤ 0x22 then .table (Config.fixedBaseTable cls (m.drop (curveOf (cls - 0x20)).f))
  else if cls = 0x28 then .table (Config.fixedBaseTable cls (m.drop 32))
  else if cls = 0x29 then .table (Config.fixedBaseTable cls (m.drop 57))
  else .none

/-- The companion area of the group at a slot computed afresh. -/
def companionAt (s : State) (i : Nat) : Companion :=
  let x := slotOf s i
  if x.state = .active && !x.cont then companionOf x.cls x.hash (groupMaterial s i) else .none

/-- The group at a slot with its companion area computed. -/
def withCompanion (i : Nat) (s : State) : State := setSlot i { slotOf s i with companion := companionAt s i } s

/-! ### Retention (08 R233) -/

/-- Whether a binding is of a slot's material of a generation. -/
def bindsSlot (i gen : Nat) (b : Binding) : Bool :=
  match b with
  | .resident slot g _ => slot = i && g = gen
  | _ => false

/-- Whether a take in flight refers to a slot's material of a generation, by a bound position or by its record. -/
def takeBinds (i gen : Nat) (t : Take) : Bool :=
  t.keys.any (fun k => k.any (bindsSlot i gen)) ||
  t.record.any fun r => match r with
    | .binding b => bindsSlot i gen b
    | _ => false

/-- Whether a commit that supersedes a slot's content needs a retention entry. -/
def needsRetention (s : State) (i : Nat) : Bool := s.takes.any (takeBinds i (slotOf s i).gen)

/-- Whether a retention entry is free: four per sequencer. -/
def retentionFree (s : State) : Bool := s.keys.retained.length < 4 * seqCount s

/-- The entries that some take in flight still refers to. -/
def freeRetained (s : State) : State :=
  { s with keys := { s.keys with retained := s.keys.retained.filter fun r => s.takes.any (takeBinds r.slot r.gen) } }

/-- Keep the superseded content of a group where a take has bound it. -/
def retain (i : Nat) (s : State) : State :=
  let x := slotOf s i
  if needsRetention s i then
    { s with keys := { s.keys with retained := s.keys.retained ++
        [{ slot := i, gen := x.gen, useCount := x.useCount, useCap := x.useCap, companion := x.companion }] } }
  else s

/-! ### Commits (08 Table 8.8, R240) -/

/-- One slot as ERASE leaves it: empty, its local count kept, WRITTEN_BY that of the KUM if one did it. -/
def erasedSlot (writer : Option Word) (x : Slot) : Slot :=
  { Slot.reset with localCount := x.localCount, gen := x.gen + 1, writtenBy := writer.getD x.writtenBy }

/-- The group at a slot erased. -/
def eraseGroup (writer : Option Word) (i : Nat) (s : State) : State :=
  let js := groupSlots s i
  js.foldl (fun t j => setSlot j (erasedSlot writer (slotOf t j)) t) (retain i s)

/-- Whether a slot begins a group that holds something. -/
def groupAt (s : State) (i : Nat) : Bool := (slotOf s i).state ≠ .empty && !(slotOf s i).cont

/-- The first slots of the groups in a range of slots. -/
def groupsIn (s : State) (base n : Nat) : List Nat :=
  ((s.keys.slots.map Prod.fst).filter fun i => base ≤ i && i < base + n).filter (groupAt s)

/-- A group written: record x for every slot (CONT after the first), the material in shares; slots of the old group that the
new one does not cover are emptied; the companion area is computed. USE_COUNT is the record's, each slot keeps its LOCAL_COUNT. -/
def writeGroup (i : Nat) (x : Slot) (material : Bytes) (s : State) : State :=
  let old := groupSlots s i
  let n := slotsFor x.keyBytes
  let s := retain i s
  let s := (List.range n).foldl (fun t k =>
    let y := slotOf t (i + k)
    setSlot (i + k) { x with size := n - 1, cont := k ≠ 0, share := fit 56 (slice (56 * k) 56 material),
                             localCount := y.localCount, gen := y.gen + 1 } t) s
  let s := withCompanion i s
  (old.filter fun j => i + n ≤ j).foldl (fun t j => setSlot j (erasedSlot (some x.writtenBy) (slotOf t j)) t) s

/-- Every slot of a group changed alike, the content untouched. -/
def mapGroup (i : Nat) (g : Slot → Slot) (s : State) : State :=
  (groupSlots s i).foldl (fun t j => setSlot j (g (slotOf t j)) t) s

/-- The group FAULTED after a TAG failure (08 R232): STATE, event 0x62 and an entry. -/
def faultGroup (i : Nat) (s : State) : State :=
  raiseLog 0x62 0x0020 i (keyValue 0x0601 0 0) 0 (mapGroup i (fun x => { x with state := .faulted }) s)

/-- The group at a slot erased and the erase carried to the twin. -/
def eraseCarried (writer : Option Word) (i : Nat) (s : State) : State :=
  carry 1 i (slotEntryBody s 3 i) (groupSlots s i) (eraseGroup writer i s)

/-! ### The input of the KUM mailbox (08 R244) -/

/-- Whether every word of an input command has arrived. -/
def kmComplete (s : State) : Bool := 8 * ceilDiv s.keys.inLen 8 ≤ s.keys.input.length

/-- Whether the mailbox has a command whose checks need the IDK: a KUM of payload kind 1 (08 R235) or a transfer package (08 R247). -/
def kmNeedsIdk (s : State) : Bool :=
  kmComplete s && ((s.keys.run = some .kum && byteAt 4 s.keys.input = 1) || s.keys.run = some .packageImport)

/-! ### Floors and the update counter (08 R236, R248) -/

/-- The ceiling needed for an update counter, where it is above the present one. -/
def ceilingFor (s : State) (next : Nat) : Option Nat := if s.vault.ceiling < next then some (next + 1024) else none

/-- Advance UPDATE_NEXT by one and write it as the floor (08 R248). -/
def floorWrite (w : List VaultWaiter) (s : State) : State :=
  let n := (s.keys.updateNext + 1) % 2 ^ 64
  let c := ceilingFor s n
  vaultChange { epoch := none, ceiling := c, floor := some n, member := none, waiters := w }
    { s with keys := { s.keys with updateNext := n } }

/-! ### Secrets (08 R249, R250) -/

/-- The attestation secret of a function for its owner's key. -/
def attestSecret (s : State) (f : Nat) (owner : Bytes) : Option Bytes :=
  match s.ao.idk with
  | none => none
  | some d => (ecdh p384 d owner).map fun z => kdfSingle z (ascii "TX7 ATTEST" ++ toLe 2 f) 48

/-- The sealing key of an epoch (08 R245). -/
def sealKey (drk : Bytes) (epoch : Nat) : Bytes := kdfCounter drk (ascii "TX7 SEAL") (toBe 3 epoch) 32

/-- Install or clear an attestation secret. -/
def setSecret (f : Nat) (v : Bytes) (s : State) : State :=
  { s with keys := { s.keys with secrets := tableSet [] s.keys.secrets f v } }

/-- The attestation secret of a function; empty where none is held. -/
def secretOf (s : State) (f : Nat) : Bytes := tableGet [] s.keys.secrets f

end Sys2Proof.Machine
end

