-- ==== Sys2Proof/Machine/Attest.lean ====
section
/-! DEFINITION. The ATTEST mailbox of a tenant window (08 R250, R251). -/

namespace Sys2Proof.Machine

/-- The message CHALLENGE answers: challenge, mode, firmware version, digest, function. -/
def attestMessage (s : State) (f : Nat) : Bytes :=
  (tenantOf s f).attest.chal ++ toLe 1 (modeCode s.modes.mode) ++ toLe 8 s.regs.fwVersion.toNat ++ slotDigest s f ++ toLe 2 f

/-- CHALLENGE (R251). -/
def attestChallenge (f : Nat) (s : State) : State :=
  modTenant f (fun t => { t with attest := { t.attest with
    done := true, result := 0, resp := hmac 3 (secretOf s f) (attestMessage s f), mode := BitVec.ofNat 4 (modeCode s.modes.mode),
    fwver := s.regs.fwVersion, digest := slotDigest s f } }) s

/-- SLOT_QUERY (R251): the attribute record of a slot of the tenant's range. -/
def attestQuery (f : Nat) (s : State) : State :=
  let t := tenantOf s f
  let i := bits 0 17 t.attest.arg
  if t.sheet.slotBase ≤ i && i < t.sheet.slotBase + t.sheet.slots then
    setTenant f { t with attest := { t.attest with done := true, result := 0, resp := recordOf true (slotOf s i) } } s
  else setTenant f { t with attest := { t.attest with done := true, result := stOwnerMismatch } } s

/-- A 64-bit write of AT_CMD. -/
def attestWrite (f : Nat) (value : Word) (s : State) : State :=
  match bits 0 8 value with
  | 1 => attestChallenge f s
  | 2 => attestQuery f s
  | _ => modTenant f (fun t => { t with attest := { t.attest with done := true, result := stOpcodeUnknown } }) s

/-- ATTEST_CHALLENGE. -/
def execAttestChallenge (tenant : Func) (s : State) : Outcome :=
  .next (tenantWrite tenant 0x1000 1 (attestWrite tenant.toNat 1) s)

/-- ATTEST_SLOT_QUERY. -/
def execAttestSlotQuery (tenant : Func) (s : State) : Outcome :=
  .next (tenantWrite tenant 0x1000 2 (attestWrite tenant.toNat 2) s)

end Sys2Proof.Machine
end

