-- ==== Sys2Proof/Machine/KeyBlobs.lean ====
section
/-! DEFINITION. Key blobs: the native TX7 blob (08 R241, R242) and ANSI X9.143 key blocks (08 R243). -/

namespace Sys2Proof.Machine


/-- Go on if a condition holds, else end with a status. -/
def need (c : Bool) (st : Status) : Except Status Unit := if c then .ok () else .error st

/-! ### Native blobs -/

/-- K_enc and K_mac of a key-encryption key (08 R242). -/
def blobKeys (kek : Bytes) : Bytes × Bytes :=
  (kdfCounter kek (ascii "T7BLOB-E") [] kek.length, kdfCounter kek (ascii "T7BLOB-M") [] kek.length)

/-- The padded length Lp of 08 Table 8.9. -/
def blobLp (n : Nat) : Nat := roundUp 16 n

/-- Wrap a key under an AES key-encryption key, with the locator its KEK gives (08 R242). -/
def nativeSeal (kek : Bytes) (locator : Nat) (k : KeyMat) : Bytes :=
  let lp := blobLp k.material.length
  let header := [1] ++ toLe 1 k.cls ++ toLe 2 k.material.length ++ toLe 4 k.usage.toNat ++ toLe 4 k.derived.toNat ++
    toLe 1 k.hash ++ [0] ++ toLe 2 (48 + lp) ++ zeroBytes 8
  let p := fit lp k.material
  let siv := cmacKey 3 (blobKeys kek).2 (header ++ p)
  toLe 4 locator ++ zeroBytes 4 ++ header ++ siv ++ ctrMode (aesEnc (blobKeys kek).1) siv p

/-- The key-encryption key a locator names: resident, ACTIVE, the function's own, with UNWRAP, and of a permitted class. -/
def kekAt (s : State) (f slot : Nat) (clsOk : Nat → Bool) : Option KeyMat :=
  let x := slotOf s slot
  if slot < slotCount s && x.state = .active && !x.cont && x.owner = f && clsOk x.cls && uses x.usage 7 then
    some { cls := x.cls, usage := x.usage, derived := x.derived, hash := x.hash, material := groupMaterial s slot }
  else none

/-- The checks of 08 R242 on a native blob that come before the key store reads the KEK. -/
def nativeHead (b : Bytes) : Except Status Unit := do
  need (48 ≤ b.length) stBlobLength
  let cls := byteAt 9 b
  need (byteAt 8 b = 1 && classDefined cls && allZero (slice 4 4 b) && byteAt 0x15 b = 0 && allZero (slice 0x18 8 b)) stBlobInvalid
  let n := field 0x0A 2 b
  let lp := blobLp n
  need (keyBytesOk cls n && field 0x16 2 b = 48 + lp && b.length = 48 + lp) stBlobLength
  need (usageOk cls (BitVec.ofNat 32 (field 0x0C 4 b)) (BitVec.ofNat 32 (field 0x10 4 b)) none && hashOk cls (byteAt 0x14 b))
    stBlobInvalid

/-- Unwrap a native blob for a function, with the checks of 08 R242 in order. -/
def nativeOpen (s : State) (f : Nat) (b : Bytes) : Except Status KeyMat := do
  nativeHead b
  match kekAt s f (field 0 4 b) isAes with
  | none => .error stBlobInvalid
  | some kek =>
    let ks := blobKeys kek.material
    let siv := slice 0x20 16 b
    let p := ctrMode (aesEnc ks.1) siv (b.drop 48)
    need (cmacKey 3 ks.2 (slice 8 24 b ++ p) = siv) stBlobInvalid
    let m := p.take (field 0x0A 2 b)
    need (materialOk (byteAt 9 b) m) stBlobInvalid
    .ok { cls := byteAt 9 b, usage := BitVec.ofNat 32 (field 0x0C 4 b), derived := BitVec.ofNat 32 (field 0x10 4 b),
          hash := byteAt 0x14 b, material := m }

/-! ### X9.143 -/

/-- A hexadecimal digit, capitals. -/
def hexDigit (n : Nat) : Byte := BitVec.ofNat 8 (if n < 10 then 48 + n else 55 + n)

/-- The hexadecimal text of a string. -/
def hexText (b : Bytes) : Bytes := b.flatMap fun x => [hexDigit (x.toNat / 16), hexDigit (x.toNat % 16)]

/-- The value of a hexadecimal digit; none for any other character. -/
def hexValue (b : Byte) : Option Nat :=
  let n := b.toNat
  if 48 ≤ n && n ≤ 57 then some (n - 48) else if 65 ≤ n && n ≤ 70 then some (n - 55) else none

/-- The number a text of digits of a base spells; none where a character is not a digit of the base. -/
def digitsValue (base : Nat) (t : Bytes) : Option Nat :=
  t.foldl (fun a c => match a, hexValue c with
    | some v, some d => if d < base then some (v * base + d) else none
    | _, _ => none) (some 0)

/-- The bytes a hexadecimal text spells. -/
def hexBytes (t : Bytes) : Option Bytes :=
  if t.length % 2 = 1 then none else (digitsValue 16 t).map fun v => toBe (t.length / 2) v

/-- A number in decimal with a fixed count of digits. -/
def decText : Nat → Nat → Bytes
  | 0, _ => []
  | n + 1, v => decText n (v / 10) ++ [hexDigit (v % 10)]

/-- The encryption and MAC keys of a protection key (the key derivation binding method). -/
def x143Keys (cls : Nat) (key : Bytes) : Bytes × Bytes :=
  let alg := match cls with | 4 => 0 | 5 => 1 | 1 => 2 | 2 => 3 | _ => 4
  let n := key.length
  let derive := fun usage => ((List.range (ceilDiv n (blockSize cls))).flatMap fun i =>
    cmacKey cls key (toBe 1 (i + 1) ++ toBe 2 usage ++ [0] ++ toBe 2 alg ++ toBe 2 (8 * n))).take n
  (derive 0, derive 1)

/-- The usage of a key usage and mode (08 Table 8.10); none for a pair that is not listed. -/
def x143Usage (ku : Bytes) (mode : Byte) : Option (BitVec 32) :=
  let m := mode.toNat
  let isC := m = 67
  let isG := m = 71
  let isV := m = 86
  let isB := m = 66
  let isE := m = 69
  let isD := m = 68
  let isX := m = 88
  let isN := m = 78
  if ku = ascii "B0" then (if isX || isN then some 0x4000 else none)
  else if ku = ascii "C0" then (if isC || isG || isV then some 0x20000 else none)
  else if ku = ascii "D0" then (if isB then some 3 else if isE then some 1 else if isD then some 2 else none)
  else if ku = ascii "E0" then (if isX then some 0x8000 else none)
  else if ku = ascii "K0" then (if isB then some 0xC0 else if isE then some 0x40 else if isD then some 0x80 else none)
  else if ku = ascii "M1" || ku = ascii "M3" || ku = ascii "M6" then
    (if isC then some 0x30 else if isG then some 0x10 else if isV then some 0x20 else none)
  else if ku = ascii "P0" then (if isB then some 0x300 else if isE then some 0x200 else if isD then some 0x100 else none)
  else if ku = ascii "V1" then (if isC then some 0x1800 else if isV then some 0x800 else if isG then some 0x1000 else none)
  else none

/-- The key usage and mode KEY_EXPORT writes for a usage without EXPORTABLE; where the table gives several, the pick is open. -/
def x143Code (usage : BitVec 32) (pick : Nat) : Option (Bytes × Byte) :=
  let ms := [ascii "M1", ascii "M3", ascii "M6"].getD (pick % 3) []
  match usage.toNat with
  | 0x4000 => some (ascii "B0", if pick % 2 = 0 then 88 else 78)
  | 0x20000 => some (ascii "C0", [67, 71, 86].getD (pick % 3) 67)
  | 3 => some (ascii "D0", 66) | 1 => some (ascii "D0", 69) | 2 => some (ascii "D0", 68)
  | 0x8000 => some (ascii "E0", 88)
  | 0xC0 => some (ascii "K0", 66) | 0x40 => some (ascii "K0", 69) | 0x80 => some (ascii "K0", 68)
  | 0x30 => some (ms, 67) | 0x10 => some (ms, 71) | 0x20 => some (ms, 86)
  | 0x300 => some (ascii "P0", 66) | 0x200 => some (ascii "P0", 69) | 0x100 => some (ascii "P0", 68)
  | 0x1800 => some (ascii "V1", 67) | 0x800 => some (ascii "V1", 86) | 0x1000 => some (ascii "V1", 71)
  | _ => none

/-- The end of the optional blocks, which are KS, KV, LB, PB or TS; none where one is not or does not fit. -/
def x143Optional : Nat → Bytes → Nat → Option Nat
  | 0, _, at' => some at'
  | n + 1, b, at' =>
    let id := slice at' 2 b
    let short := digitsValue 16 (slice (at' + 2) 2 b)
    let len := if short = some 0 then
        (digitsValue 16 (slice (at' + 4) 2 b)).bind fun l => digitsValue 16 (slice (at' + 6) l b)
      else short
    if [ascii "KS", ascii "KV", ascii "LB", ascii "PB", ascii "TS"].contains id then
      match len with
      | some l => if 4 ≤ l && at' + l ≤ b.length then x143Optional n b (at' + l) else none
      | none => none
    else none

/-- The class of an algorithm byte and key length; none where the length does not suit. -/
def x143Class (aes : Bool) (n : Nat) : Option Nat :=
  if aes then (if n = 16 then some 1 else if n = 24 then some 2 else if n = 32 then some 3 else none)
  else (if n = 16 then some 4 else if n = 24 then some 5 else none)

/-- Where the optional blocks of a key block end; none where they do not fit. -/
def x143End (b : Bytes) : Option Nat := (digitsValue 10 (slice 12 2 b)).bind fun n => x143Optional n b 16

/-- The checks of 08 R243 that come before the key store reads the protection key. -/
def x143Head (blob : Bytes) : Except Status Unit := do
  need (24 ≤ blob.length) stBlobLength
  let b := blob.drop 8
  let isD := byteAt 0 b = 68
  let exp := byteAt 11 b
  let usage := x143Usage (slice 5 2 b) (b.getD 8 0)
  let ends := x143End b
  need (allZero (slice 4 4 blob) && (byteAt 0 b = 66 || isD) && usage.isSome && (byteAt 7 b = 84 || (byteAt 7 b = 65 && isD)) &&
    (exp = 69 || exp = 78 || exp = 83) && ends.isSome) stBlobInvalid
  need (digitsValue 10 (slice 1 4 b) = some b.length) stBlobLength
  let off := ends.getD 16
  let blk := if isD then 16 else 8
  let dataLen := b.length - off - 2 * blk
  need (off + 2 * blk ≤ b.length && dataLen % (2 * blk) = 0 && 0 < dataLen) stBlobLength

/-- The classes of key that protect a key block. -/
def x143KekOk (blob : Bytes) (cls : Nat) : Bool := if byteAt 8 blob = 68 then isAes cls else isTdes cls

/-- Unwrap a key block behind its 8-byte locator for a function, with the checks of 08 R243 in order. The key length stands
inside the encrypted field, so check 3 reads it once the protection key is known. -/
def x143Open (s : State) (f : Nat) (blob : Bytes) : Except Status KeyMat := do
  x143Head blob
  let b := blob.drop 8
  let off := (x143End b).getD 16
  let blk := if byteAt 0 b = 68 then 16 else 8
  let dataLen := b.length - off - 2 * blk
  match kekAt s f (field 0 4 blob) (x143KekOk blob) with
  | none => .error stBlobInvalid
  | some kb =>
    let ks := x143Keys kb.cls kb.material
    match hexBytes (slice off dataLen b), hexBytes (b.drop (off + dataLen)) with
    | some c, some mac =>
      let p := cbcDec (blockDec kb.cls ks.1) blk mac c
      let n := beNat (p.take 2) / 8
      let cls := x143Class (byteAt 7 b = 65) n
      need (cls.isSome && beNat (p.take 2) % 8 = 0 && 2 + n ≤ p.length) stBlobLength
      need (cmacKey kb.cls ks.2 (b.take off ++ p) = mac) stBlobInvalid
      let m := slice 2 n p
      let u := (x143Usage (slice 5 2 b) (b.getD 8 0)).getD 0 ||| (if byteAt 11 b = 69 then 0x800000 else 0)
      need (symmetricOk (cls.getD 0) m && usageOk (cls.getD 0) u 0 none) stBlobInvalid
      .ok { cls := cls.getD 0, usage := u, derived := 0, hash := 0, material := m }
    | _, _ => .error stBlobInvalid

/-- Write a key block without a locator: header, encrypted key data with this padding, MAC (08 R243). -/
def x143Seal (kb : KeyMat) (code : Bytes × Byte) (exportable : Bool) (k : KeyMat) (padding : Bytes) : Bytes :=
  let isD := isAes kb.cls
  let blk := if isD then 16 else 8
  let ks := x143Keys kb.cls kb.material
  let p := toBe 2 (8 * k.material.length) ++ k.material ++ padding
  let header := [if isD then 68 else 66] ++ decText 4 (16 + 2 * p.length + 2 * blk) ++ code.1 ++
    [if isAes k.cls then 65 else 84, code.2] ++ ascii "00" ++ [if exportable then 69 else 78] ++ ascii "00" ++ ascii "00"
  let mac := cmacKey kb.cls ks.2 (header ++ p)
  header ++ hexText (cbcEnc (blockEnc kb.cls ks.1) blk mac p) ++ hexText mac

/-- The padding bytes a key block needs: the key data field is filled to a whole block. -/
def x143PadLen (kbCls keyBytes : Nat) : Nat := roundUp (blockSize kbCls) (2 + keyBytes) - (2 + keyBytes)

/-- The slot that the unwrapping of a blob (native or key block) reads, whose TAG is then checked (08 R232); none where an
earlier check fails or the slot cannot serve. -/
def blobReads (s : State) (f : Nat) (native : Bool) (b : Bytes) : Option Nat :=
  let ok := match (if native then nativeHead b else x143Head b) with
    | .ok _ => true
    | .error _ => false
  if ok && (kekAt s f (field 0 4 b) (if native then isAes else x143KekOk b)).isSome then some (field 0 4 b) else none

end Sys2Proof.Machine
end

