-- ==== Sys2Proof/Machine/Operands.lean ====
section
/-! DEFINITION. Operand forms: the fields of the splice codes (03 Tables 3.4, 3.5), and what each operation code asks of its
operands, its unit and its keys (04 Tables 4.2 to 4.6, 05 Tables 5.1 to 5.3, 06 Tables 6.2 to 6.5, 07 Tables 7.1 to 7.5,
09 Table 9.1). -/

namespace Sys2Proof.Machine

/-! ### Fields of a splice code (03 Table 3.4) -/

/-- The opcode of a code. -/
def codeOpcode (c : Bytes) : Nat := byteAt 0 c
/-- CTRL. -/
def codeCtrl (c : Bytes) : Nat := byteAt 1 c
/-- Bits of CTRL. -/
def ctrlBits (c : Bytes) (off len : Nat) : Nat := codeCtrl c / 2 ^ off % 2 ^ len
/-- HOST, IMM or DATA: the last eight bytes. -/
def codeHost (c : Bytes) : Nat := field 8 8 c
/-- LENGTH of a MOVE. -/
def moveLen (c : Bytes) : Nat := field 2 3 c
/-- STAGE of a MOVE. -/
def moveStage (c : Bytes) : Nat := field 6 2 c
/-- DIR of a MOVE. -/
def moveDir (c : Bytes) : Nat := ctrlBits c 0 2
/-- SWAP of a MOVE. -/
def moveSwap (c : Bytes) : Nat := ctrlBits c 2 3
/-- The unit of a swap mode (03 Table 3.6). -/
def swapUnit (m : Nat) : Nat := match m with | 1 => 2 | 2 => 4 | 3 => 8 | 4 => 4 | _ => 1
/-- STAGE of MOVI, SIGNAL, KEY and END, and A of CHECK. -/
def codeStage (c : Bytes) : Nat := field 2 2 c
/-- SIZE of MOVI. -/
def moviSize (c : Bytes) : Nat := ctrlBits c 0 4
/-- COUNT of LOOP. -/
def loopCount (c : Bytes) : Nat := field 2 2 c
/-- BODY_LEN of LOOP. -/
def loopBody (c : Bytes) : Nat := field 4 2 c
/-- SOURCE of KEY. -/
def keySource (c : Bytes) : Nat := ctrlBits c 0 2
/-- POS of KEY. -/
def keyPos (c : Bytes) : Nat := ctrlBits c 4 2
/-- BLOB_LEN of KEY. -/
def keyBlobLen (c : Bytes) : Nat := field 4 2 c
/-- SLOT of KEY. -/
def keySlot (c : Bytes) : Nat := field 8 4 c % 2 ^ 17
/-- KIND of CHECK. -/
def checkKind (c : Bytes) : Nat := ctrlBits c 0 4
/-- B of CHECK. -/
def checkB (c : Bytes) : Nat := field 4 2 c
/-- LEN of CHECK. -/
def checkLen (c : Bytes) : Nat := field 6 2 c
/-- OFFSET of SKIP, signed. -/
def skipOffset (c : Bytes) : Int := (BitVec.ofNat 16 (field 2 2 c)).toInt
/-- COND of SKIP. -/
def skipCond (c : Bytes) : Nat := ctrlBits c 0 2
/-- RESULT_SRC of END. -/
def endResult (c : Bytes) : Nat := ctrlBits c 1 2
/-- STORE_CRC of END. -/
def endStores (c : Bytes) : Bool := ctrlBits c 0 1 = 1
/-- OPERATION of OP. -/
def opCode (c : Bytes) : Nat := field 2 2 c
/-- The key position a field KA to KD (0 to 3) of OP names. -/
def opKeyPos (c : Bytes) (i : Nat) : Nat := byteAt 4 c / 4 ^ i % 4
/-- SRC of OP. -/
def opSrc (c : Bytes) : Nat := field 6 2 c
/-- DST of OP. -/
def opDst (c : Bytes) : Nat := field 8 2 c
/-- LENGTH of OP. -/
def opLen (c : Bytes) : Nat := field 0x0A 3 c
/-- PARAM of OP. -/
def opParam (c : Bytes) : Nat := field 0x0E 2 c
/-- STEER of OP. -/
def opSteer (c : Bytes) : Nat := ctrlBits c 0 2
/-- SOFT of OP. -/
def opSoft (c : Bytes) : Bool := ctrlBits c 2 1 = 1

/-! ### What an operation asks -/

/-- What an operation asks of a key position: `early` at admission for a resident slot (01 Table 1.3 row 8), `atOp` at the OP,
given whether the key is resident. -/
structure KeyNeed where
  /-- 0 to 3: KA to KD. -/
  pos : Nat
  /-- The check of row 8. -/
  early : KeyMat → Bool
  /-- The check at the OP. -/
  atOp : Bool → KeyMat → Bool

/-- What an operation asks. -/
structure OpSpec where
  /-- The kind of unit the scheduler fixes at admission. -/
  kind : UnitKind
  /-- The kind a re-execution may use instead (04 R139). -/
  other : Option UnitKind
  /-- Whether STEER is permitted. -/
  steerOk : Bool
  /-- Whether LENGTH is valid. -/
  lengthOk : Bool
  /-- Whether LENGTH lies within the hold limit. -/
  holdOk : Bool
  /-- Bytes checked at SRC. -/
  src : Nat
  /-- Bytes checked at DST. -/
  dst : Nat
  /-- Bytes checked at PARAM. -/
  param : Nat
  /-- The positions it reads whatever its parameters. -/
  keys : List KeyNeed

/-- Whether a usage has every bit of a list. -/
def hasAll (u : BitVec 32) (l : List Nat) : Bool := l.all (uses u)
/-- Whether a usage has some bit of a list. -/
def hasAny (u : BitVec 32) (l : List Nat) : Bool := l.any (uses u)

/-- A need with the same check at admission and at the OP. -/
def needSame (pos : Nat) (cls : Nat → Bool) (usage : KeyMat → List Nat) (resident : Bool) : KeyNeed :=
  let ok := fun k : KeyMat => cls k.cls && hasAll k.usage (usage k)
  { pos := pos, early := ok, atOp := fun r k => ok k && (r || !resident) }

/-- A need of a payment operation: any listed usage at admission (05 R149); the lane checks the rest under R461. -/
def needAny (pos : Nat) (l : List Nat) : KeyNeed :=
  { pos := pos, early := fun k => hasAny k.usage l, atOp := fun _ _ => true }

/-! ### Symmetric operations (04 Tables 4.2 to 4.6) -/

/-- MODE. -/
def symMode (v : Nat) : Nat := v / 256 % 16
/-- CIPHER is TDES. -/
def symTdes (v : Nat) : Bool := v / 64 % 4 = 1
/-- DIR: decrypt, verify or unwrap. -/
def symDec (v : Nat) : Bool := v / 32 % 2 = 1
/-- HOST. -/
def symHost (v : Nat) : Bool := v / 16 % 2 = 1
/-- OPT. -/
def symOpt (v : Nat) : Nat := v / 4 % 4
/-- VAR or TRUNC. -/
def symVar (v : Nat) : Nat := v % 4
/-- B. -/
def symBlock (v : Nat) : Nat := if symTdes v then 8 else 16
/-- CMAC, algorithm 1 or algorithm 3. -/
def symIsMac (v : Nat) : Bool := 5 ≤ symMode v && symMode v ≤ 7
/-- CBC encryption under an IV the core draws. -/
def symDraws (v : Nat) : Bool := symMode v = 1 && !symDec v && symVar v = 1
/-- T. -/
def symT (v : Nat) : Nat :=
  match symVar v with
  | 0 => if symMode v = 7 then 8 else symBlock v
  | 1 => 8
  | _ => 4

/-- Table 4.3. -/
def symKnown (v : Nat) : Bool :=
  let aes := v / 64 % 4 = 0
  let both := v / 64 % 4 ≤ 1
  let hostAes := !symHost v || aes
  match symMode v with
  | 0 => both && !symHost v && symOpt v = 0 && symVar v = 0
  | 1 => both && hostAes && (symOpt v = 0 || symOpt v = 2) && (if symDec v then symVar v = 0 else symVar v ≤ 1)
  | 2 => aes && symOpt v = 0 && symVar v = 0
  | 3 => aes && symOpt v = 0 && symVar v = (if symDec v then 0 else 1)
  | 4 => aes && symOpt v ≤ 2 && symVar v = 0
  | 5 => both && hostAes && symOpt v = 0 && (symVar v = 0 || symVar v = 2 || (symVar v = 1 && aes))
  | 6 => both && !symHost v && (symOpt v = 1 || symOpt v = 2) && (symVar v = 0 || symVar v = 2 || (symVar v = 1 && aes))
  | 7 => symTdes v && !symHost v && (symOpt v = 1 || symOpt v = 2) && (symVar v = 0 || symVar v = 2)
  | 8 => aes && !symHost v && symOpt v = 0 && symVar v = 0
  | 9 => aes && !symHost v && symOpt v = 0 && symVar v = 0
  | 0xA => both && !symHost v && symOpt v = 0 && symVar v = 0 && !symDec v
  | _ => false

/-- Modes a lane runs. -/
def symLane (v : Nat) : Bool := symMode v ≠ 4 && !symHost v
/-- Modes an engine runs. -/
def symEngine (v : Nat) : Bool := !symTdes v && 1 ≤ symMode v && symMode v ≤ 5

/-- The kind of unit (04 R122). -/
def symKind (v steer len : Nat) : UnitKind :=
  if steer = 1 then .lane
  else if steer = 2 then .engine
  else if symHost v || symMode v = 4 then .engine
  else if !symEngine v then .lane
  else if len ≤ 4096 then .lane else .engine

/-- Valid LENGTH of Table 4.5. -/
def symLenOk (v n : Nat) : Bool :=
  let b := symBlock v
  match symMode v with
  | 0 => n = b
  | 1 => if symOpt v = 2 && !symDec v then true else 0 < n && n % b = 0
  | 2 => 1 ≤ n
  | 3 => true
  | 4 => match symOpt v with
    | 0 => 0 < n && n % 512 = 0
    | 1 => 0 < n && n % 4096 = 0
    | _ => 16 ≤ n
  | 8 => n % 8 = 0 && (if symDec v then 24 ≤ n && n ≤ 4104 else 16 ≤ n && n ≤ 4096)
  | 9 => if symDec v then n % 8 = 0 && 16 ≤ n && n ≤ 4104 else 1 ≤ n && n ≤ 4096
  | 0xA => n = 0
  | _ => true

/-- Output length of Table 4.5, or its bound. -/
def symOutLen (v n : Nat) : Nat :=
  let b := symBlock v
  let iv := if symDraws v then b else 0
  match symMode v with
  | 1 => if symOpt v = 2 then (if symDec v then n - 1 else (n / b + 1) * b + iv) else n + iv
  | 5 | 6 | 7 => if symDec v then 0 else symT v
  | 8 => if symDec v then n - 8 else n + 8
  | 9 => if symDec v then n - 8 else 8 * ceilDiv n 8 + 8
  | 0xA => 0
  | _ => n

/-- Size of the mode block of Table 4.4. -/
def symBlockLen (v : Nat) : Nat :=
  match symMode v with
  | 1 => 16
  | 2 => 16
  | 3 => 48
  | 4 => 8
  | 5 | 6 | 7 => if symDec v then symT v else 0
  | _ => 0

/-- Usage attributes of Table 4.6. -/
def symUsage (v : Nat) (k : KeyMat) : List Nat :=
  let legacy := if isTdes k.cls then [3] else []
  match symMode v with
  | 0 => if symDec v then [1, 2] else [0, 2] ++ legacy
  | 1 | 2 | 3 | 4 => if symDec v then [1] else 0 :: legacy
  | 5 | 6 | 7 => if symDec v then [5] else 4 :: legacy
  | 8 | 9 => if symDec v then [7] else [6]
  | _ => []

/-- Key classes of Table 4.6. -/
def symClass (v cls : Nat) : Bool :=
  if symMode v = 4 then cls = 6 || cls = 7
  else if symMode v = 7 then cls = 4
  else if symTdes v then isTdes cls else isAes cls

/-- Operations that encrypt or wrap, which count a use of a resident slot (R134). -/
def symEncrypts (v : Nat) : Bool := !symDec v && (symMode v ≤ 4 || symMode v = 8 || symMode v = 9)

/-- Operations that need a resident slot ("no" in the Blob column of Table 4.6). -/
def symResident (v : Nat) : Bool := symEncrypts v && !symDraws v

/-- Table 4.2 to 4.6 for an operation code. -/
def symSpec (v steer n : Nat) : OpSpec :=
  let kind := symKind v steer n
  let gcmDec := symMode v = 3 && symDec v
  { kind := kind,
    other := if steer ≠ 0 then none
      else if kind = .lane then (if symEngine v then some .engine else none)
      else if symLane v && n ≤ 16384 then some .lane else none,
    steerOk := match steer with | 0 => true | 1 => symLane v | 2 => symEngine v | _ => false,
    lengthOk := symLenOk v n && (kind ≠ .lane || gcmDec || n ≤ 16384),
    holdOk := !gcmDec || n ≤ (if kind = .lane then 16384 else 2 ^ 20),
    src := if symHost v then 0 else n,
    dst := if symHost v && !symIsMac v then 0 else symOutLen v n,
    param := (if symHost v then 16 else 0) + symBlockLen v,
    keys := [needSame 0 (symClass v) (symUsage v) (symResident v)] }

/-! ### Payment operations (05 Tables 5.1 to 5.3) -/

/-- A payment operation on a lane. -/
def paySpec (steer : Nat) (lengthOk : Bool) (src dst param : Nat) (keys : List KeyNeed) : OpSpec :=
  { kind := .lane, other := none, steerOk := steer ≤ 1, lengthOk := lengthOk, holdOk := true, src := src, dst := dst,
    param := param, keys := keys }

/-- Tables 5.2 and 5.3 for an operation code. -/
def payTable (v steer n : Nat) : Option OpSpec :=
  let pinLen := n = 8 || n = 16
  let pinIn := needAny 0 [8, 14]
  let dataOk := n % 8 = 0 && 8 ≤ n && n ≤ 4096
  let emvOk := 1 ≤ n && n ≤ 4096
  let bdk := needAny 0 [14]
  let emv := needAny 0 [15, 16]
  match v with
  | 0x2000 => some (paySpec steer pinLen n 16 32 [pinIn, needAny 1 [9, 10]])
  | 0x2010 => some (paySpec steer pinLen n 0 64 [pinIn, needAny 1 [11]])
  | 0x2011 => some (paySpec steer pinLen n 0 64 [pinIn, needAny 1 [12]])
  | 0x2020 => some (paySpec steer pinLen n 0 48 [pinIn, needAny 1 [13]])
  | 0x2100 => some (paySpec steer (n ≤ 4096) n 16 32 [bdk])
  | 0x2101 => some (paySpec steer (n ≤ 4096) n 0 32 [bdk])
  | 0x2110 => some (paySpec steer dataOk n n 32 [bdk])
  | 0x2111 => some (paySpec steer dataOk n n 32 [bdk])
  | 0x2200 => some (paySpec steer emvOk n 0 48 [emv])
  | 0x2201 => some (paySpec steer emvOk n 8 48 [emv])
  | 0x2202 => some (paySpec steer emvOk n 8 48 [emv])
  | 0x2300 => some (paySpec steer (n = 0) 0 5 32 [needAny 0 [17]])
  | 0x2301 => some (paySpec steer (n = 0) 0 0 32 [needAny 0 [17]])
  | 0x2400 => some (paySpec steer (n = 0) 0 0 72 [needAny 0 [18]])
  | 0x2500 => some (paySpec steer (n = 0) 0 256 16 [needAny 1 [6], needAny 2 [23]])
  | _ => none

/-! ### Digest operations (06 Tables 6.2 to 6.5) -/

/-- MODE: 0 HASH, 1 HASH_VERIFY, 2 HMAC_GENERATE, 3 HMAC_VERIFY. -/
def digMode (v : Nat) : Nat := v / 256 % 16
/-- ALG. -/
def digAlg (v : Nat) : Nat := v / 16 % 16
/-- PHASE. -/
def digPhase (v : Nat) : Nat := v / 4 % 4

/-- ALG codes a digest unit computes: SHA-1 is left out. -/
def digComputes (a : Nat) : Bool := (1 ≤ a && a ≤ 5) || (8 ≤ a && a ≤ 0xD)
/-- Table 6.3. -/
def digKnown (v : Nat) : Bool :=
  let a := digAlg v
  v % 4 = 0 && match digMode v with
  | 0 => digComputes a
  | 1 => digComputes a || (a = 0 && digPhase v = 0)
  | 2 => digComputes a && !isShake a && digPhase v = 0
  | 3 => (a = 0 || digComputes a) && !isShake a && digPhase v = 0
  | _ => false

/-- Tables 6.4 and 6.5 for an operation code. -/
def digSpec (v steer n : Nat) : OpSpec :=
  let a := digAlg v
  let p := digPhase v
  let part := p = 1 || p = 2
  let verify := digMode v = 1 || digMode v = 3
  { kind := .digest, other := none, steerOk := steer = 0,
    lengthOk := n ≤ 32768 && (!part || n % hashBlock a = 0), holdOk := true, src := n,
    dst := if part || verify then 0 else if isShake a then 1024 else hashLen a,
    param := 8 + (if p ≠ 0 then 216 else 0) + (if verify && !part then 64 else 0),
    keys := if 2 ≤ digMode v then
        [{ pos := 0, early := fun k => k.cls = 8 && k.hash = a && hasAll k.usage [if digMode v = 2 then 4 else 5],
           atOp := fun _ k => k.cls = 8 && k.hash = a && 14 ≤ k.material.length && k.material.length ≤ 128 &&
             hasAll k.usage [if digMode v = 2 then 4 else 5] }]
      else [] }

/-! ### Public-key operations (07 Tables 7.1 to 7.5) -/

/-- SCHEME: 0 RSA, 1 FFDH, 2 EC, 3 EdDSA, 4 XDH. -/
def pkScheme (v : Nat) : Nat := v / 256 % 16
/-- FUNC. -/
def pkFunc (v : Nat) : Nat := v / 16 % 16
/-- VAR. -/
def pkVar (v : Nat) : Nat := v % 16

/-- Table 7.2. -/
def pkKnown (v : Nat) : Bool :=
  let f := pkFunc v
  let x := pkVar v
  match pkScheme v with
  | 0 => if f = 2 then x = 0 || (2 ≤ x && x ≤ 4) else if f ≤ 5 then 2 ≤ x && x ≤ 4 else f ≤ 8 && x = 0
  | 1 => f ≤ 1 && x ≤ 6 && x ≠ 3
  | 2 => f ≤ 3 && x ≤ 2
  | 3 => (f ≤ 1 || f = 3) && x ≤ 1
  | 4 => 2 ≤ f && f ≤ 3 && x ≤ 1
  | _ => false

/-- F: 32, 48 or 66. -/
def pkF (v : Nat) : Nat := (curveOf (pkVar v)).f
/-- P: 256, 384 or 512. -/
def pkP (v : Nat) : Nat := 256 + 128 * (pkVar v % 4)
/-- The bytes of an Ed25519 or Ed448 public key. -/
def edF (v : Nat) : Nat := if pkVar v = 0 then 32 else 57
/-- The bytes of an X25519 or X448 u-coordinate. -/
def xF (v : Nat) : Nat := if pkVar v = 0 then 32 else 56
/-- The bytes of an EdDSA signature. -/
def edSigLen (v : Nat) : Nat := if pkVar v = 0 then 64 else 114

/-- Whether an operation generates a key. -/
def pkIsKeygen (v : Nat) : Bool :=
  (pkScheme v = 0 && pkFunc v = 8) || (pkScheme v = 1 && pkFunc v = 0) || (2 ≤ pkScheme v && pkFunc v = 3)
/-- Whether an operation agrees on a key. -/
def pkIsAgree (v : Nat) : Bool :=
  (pkScheme v = 1 && pkFunc v = 1) || (pkScheme v = 2 && pkFunc v = 2) || (pkScheme v = 4 && pkFunc v = 2)
/-- Whether an operation signs. -/
def pkIsSign (v : Nat) : Bool :=
  (pkScheme v = 0 && pkFunc v ≤ 1) || ((pkScheme v = 2 || pkScheme v = 3) && pkFunc v = 0)
/-- Whether an operation uses only the public part of the key at KA (R197). -/
def pkIsPublic (v : Nat) : Bool :=
  (pkScheme v = 0 && (pkFunc v = 2 || pkFunc v = 3 || pkFunc v = 4 || pkFunc v = 6)) ||
  ((pkScheme v = 2 || pkScheme v = 3) && pkFunc v = 1)

/-- The private class of an operation's curve or group. -/
def pkPrivate (v : Nat) : Nat :=
  match pkScheme v with
  | 0 => 0x10 | 1 => 0x30 + pkVar v | 2 => 0x20 + pkVar v | 3 => 0x28 + pkVar v | _ => 0x2C + pkVar v
/-- The public class of an operation's curve. -/
def pkPublic (v : Nat) : Nat := match pkScheme v with | 0 => 0x11 | 2 => 0x24 + pkVar v | _ => 0x2A + pkVar v

/-- The bits of the modulus of an RSA key. -/
def rsaBits (k : KeyMat) : Nat :=
  let n := if k.cls = 0x10 then (rsaParts k.material).1 * (rsaParts k.material).2.1
    else beNat (k.material.take (k.material.length - 4))
  Nat.log2 n + 1

/-- The usage Table 7.5 asks at KA. -/
def pkUsage (v : Nat) : Nat :=
  if pkIsSign v then 19
  else if pkIsAgree v then 22
  else if pkScheme v = 0 then
    (match pkFunc v with | 2 => 20 | 3 => 20 | 4 => 0 | 5 => 1 | 6 => 0 | _ => 21)
  else 20

/-- Whether a key suits KA (Table 7.5). -/
def pkKeyOk (v n : Nat) (k : KeyMat) : Bool :=
  (k.cls = pkPrivate v || (pkIsPublic v && k.cls = pkPublic v)) && uses k.usage (pkUsage v) &&
  (pkScheme v ≠ 0 || rsaBits k = 8 * n)

/-- Bytes at SRC (Table 7.3). -/
def pkSrcLen (v n : Nat) : Nat :=
  if pkIsKeygen v || pkIsAgree v then 0
  else if pkScheme v = 0 && pkFunc v ≤ 1 then hashLen (pkVar v) else n

/-- The bytes of the public value a key generation releases. -/
def pkPubLen (v n : Nat) : Nat :=
  match pkScheme v with | 0 => n | 1 => pkP v | 2 => 2 * pkF v | 3 => edF v | _ => xF v

/-- Bytes at DST (Table 7.3). -/
def pkDstLen (v n : Nat) : Nat :=
  if pkIsKeygen v then pkPubLen v n + (if pkScheme v = 0 then 2048 else 256)
  else if pkIsAgree v then 0
  else match pkScheme v with
    | 0 => if pkFunc v = 2 || pkFunc v = 3 then 0 else n
    | 2 => if pkFunc v = 0 then 2 * pkF v else 0
    | _ => if pkFunc v = 0 then edSigLen v else 0

/-- Bytes at PARAM (Table 7.3). -/
def pkParamLen (v n : Nat) : Nat :=
  if pkIsKeygen v then 16
  else if pkIsAgree v then 0x48 + pkPubLen v n
  else if !pkIsPublic v then 0
  else match pkScheme v with
    | 0 => 0x50 + n
    | 2 => 8 + 4 * pkF v
    | _ => if pkVar v = 0 then 104 else 179

/-- Valid LENGTH (Table 7.3). -/
def pkLenOk (v n : Nat) : Bool :=
  if pkScheme v = 0 && pkFunc v = 8 then n = 256 || n = 384 || n = 512
  else if pkIsKeygen v || pkIsAgree v then n = 0
  else match pkScheme v with
    | 0 => 128 ≤ n && n ≤ 512
    | 2 => (if pkFunc v = 0 then 28 ≤ n else 20 ≤ n) && n ≤ 64
    | _ => n ≤ 8192

/-- Tables 7.3 and 7.5 for an operation code. A position that only some parameter blocks make the OP read (KA of a
verification, KB of a key generation other than RSA) is checked at the OP (log 91). -/
def pkSpec (v steer n : Nat) : OpSpec :=
  { kind := .standard, other := none, steerOk := steer = 0, lengthOk := pkLenOk v n, holdOk := true, src := pkSrcLen v n,
    dst := pkDstLen v n, param := pkParamLen v n,
    keys := if pkIsKeygen v && pkScheme v = 0 then
        [{ pos := 1, early := fun k => k.cls = 3 && uses k.usage 6, atOp := fun _ k => k.cls = 3 && uses k.usage 6 }]
      else if pkIsPublic v || pkIsKeygen v then []
      else [{ pos := 0, early := pkKeyOk v n, atOp := fun _ k => pkKeyOk v n k }] }

/-! ### RNG operations (09 Table 9.1) -/

/-- An RNG operation. -/
def rngSpec (steer : Nat) (lengthOk : Bool) (src dst param : Nat) : OpSpec :=
  { kind := .rng, other := none, steerOk := steer = 0, lengthOk := lengthOk, holdOk := true, src := src, dst := dst,
    param := param, keys := [] }

/-- Table 9.1 for an operation code. -/
def rngTable (v steer n : Nat) : Option OpSpec :=
  match v with
  | 0x5000 => some (rngSpec steer (1 ≤ n && n ≤ 32768) 0 n 0)
  | 0x5001 => some (rngSpec steer (1 ≤ n && n ≤ 32768) 0 n 0)
  | 0x5010 => some (rngSpec steer (n = 128) 128 16 32)
  | 0x5020 => some (rngSpec steer (1 ≤ n && n ≤ 512) 0 n 224)
  | _ => none

/-- What an OP code asks; none for an unknown operation code. -/
def opSpec (c : Bytes) : Option OpSpec :=
  let v := opCode c
  let st := opSteer c
  let n := opLen c
  match v / 4096 with
  | 1 => if symKnown v then some (symSpec v st n) else none
  | 2 => payTable v st n
  | 3 => if digKnown v then some (digSpec v st n) else none
  | 4 => if pkKnown v then some (pkSpec v st n) else none
  | 5 => rngTable v st n
  | _ => none

end Sys2Proof.Machine
end

