-- ==== Sys2Proof/Machine/Symmetric.lean ====
section
/-! DEFINITION. What an operation of a unit gives for its operands, as data; and the operations of the lanes and engines
(04 R111 to R121, R127 to R129). -/

namespace Sys2Proof.Machine

/-- A key as an operation reads it. -/
structure KeyIn where
  /-- The key; a derived key as computed. -/
  key : KeyMat
  /-- The slot, for a resident key. -/
  slot : Option Nat
  /-- Whether it is a derived key that meets R119, or any other key (05 R171). -/
  sound : Bool

/-- A key position that the operation does not read. -/
def KeyIn.empty : KeyIn :=
  { key := { cls := 0, usage := 0, derived := 0, hash := 0, material := [] }, slot := none, sound := true }

/-- The operands of an operation. -/
structure OpIn where
  /-- OPERATION. -/
  v : Nat
  /-- LENGTH. -/
  n : Nat
  /-- The input at SRC or of the host stream. -/
  input : Bytes
  /-- The parameter block. -/
  param : Bytes
  /-- The key at KA. -/
  ka : KeyIn
  /-- The key at KB. -/
  kb : KeyIn
  /-- The key at KC. -/
  kc : KeyIn
  /-- The bytes drawn for it. -/
  drawn : Bytes
  /-- The nonce reserved for it. -/
  nonce : Bytes
  /-- The lane's sealed PIN register (05 R147). -/
  pin : List Nat := []
  /-- Its second part (05 R160). -/
  ref : List Nat := []

/-- What an operation releases: a status, the output at DST, bytes of the parameter block by offset, the inline result, and a
binding of a key position. -/
structure OpOut where
  /-- The status. -/
  status : Status
  /-- The output. -/
  dst : Bytes
  /-- Parameter write-backs. -/
  params : List (Nat × Bytes)
  /-- The inline result. -/
  result : Option Bytes
  /-- A key position and what it is bound to. -/
  bind : Option (Nat × Binding)

/-- A failure releases nothing. -/
def opFail (st : Status) : OpOut := { status := st, dst := [], params := [], result := none, bind := none }

/-- Success with an output and parameter write-backs. -/
def opOk (dst : Bytes) (params : List (Nat × Bytes)) : OpOut :=
  { status := 0, dst := dst, params := params, result := none, bind := none }

/-- Success with an inline result, filled with zeros to eight bytes (04 R116). -/
def opResult (dst : Bytes) (params : List (Nat × Bytes)) (r : Bytes) : OpOut :=
  { opOk dst params with result := some (fit 8 (r.take 8)) }

/-- Success or a failed check. -/
def opCheck (ok : Bool) (st : Status) : OpOut := if ok then opOk [] [] else opFail st

/-- The text without the padding of method 2; none where no 0x80 is followed only by zeros within the last block (04 R121). -/
def unpadM2 (b : Nat) (m : Bytes) : Option Bytes :=
  let z := (m.reverse.takeWhile (· = 0)).length
  if z < b && z < m.length && m.getD (m.length - z - 1) 0 = 0x80 then some (m.take (m.length - z - 1)) else none

/-- Where the mode block begins in the parameter block (R114). -/
def symOff (v : Nat) : Nat := if symHost v then 16 else 0

/-- The mode block. -/
def symMB (x : OpIn) : Bytes := x.param.drop (symOff x.v)

/-- The initial block of CBC: drawn, or the caller's. -/
def symIv (x : OpIn) : Bytes := (if symDraws x.v then x.drawn else symMB x).take (symBlock x.v)

/-- CBC. -/
def runCbc (x : OpIn) : OpOut :=
  let b := symBlock x.v
  let iv := symIv x
  let cls := x.ka.key.cls
  let k := x.ka.key.material
  if symDec x.v then
    let m := cbcDec (blockDec cls k) b iv x.input
    let back := [(symOff x.v, x.input.drop (x.input.length - b))]
    if symOpt x.v = 2 then
      match unpadM2 b m with
      | some p => opResult p back (toLe 8 p.length)
      | none => opFail stPaddingInvalid
    else opOk m back
  else
    let m := if symOpt x.v = 2 then padM2 b x.input else x.input
    let c := cbcEnc (blockEnc cls k) b iv m
    opOk ((if symDraws x.v then iv else []) ++ c) [(symOff x.v, c.drop (c.length - b))]

/-- CTR. -/
def runCtr (x : OpIn) : OpOut :=
  let iv := (symMB x).take 16
  opOk (ctrMode (aesEnc x.ka.key.material) iv x.input) [(symOff x.v, ctrBlock iv (ceilDiv x.input.length 16))]

/-- A of R121. -/
def gcmAad (x : OpIn) : Nat := min (field 0 4 (symMB x)) x.n

/-- GCM. -/
def runGcm (x : OpIn) : OpOut :=
  let a := gcmAad x
  let enc := aesEnc x.ka.key.material
  let o := symOff x.v
  if symDec x.v then
    match gcmDec enc (slice 0x10 12 (symMB x)) (x.input.take a) (x.input.drop a) (slice 0x20 16 (symMB x)) with
    | some p => opOk p []
    | none => opFail stTagMismatch
  else
    let r := gcmEnc enc x.nonce (x.input.take a) (x.input.drop a)
    opOk r.1 [(o + 0x10, x.nonce), (o + 0x20, r.2)]

/-- The bytes of an XTS data unit. -/
def xtsLen (x : OpIn) : Nat := match symOpt x.v with | 0 => 512 | 1 => 4096 | _ => x.n

/-- XTS. -/
def runXts (x : OpIn) : OpOut :=
  let h := x.ka.key.material.length / 2
  let k1 := x.ka.key.material.take h
  let f := if symDec x.v then aesDec k1 else aesEnc k1
  let e2 := aesEnc (x.ka.key.material.drop h)
  let seq := field 0 8 (symMB x)
  let units := chunks (xtsLen x) x.input
  opOk (units.zipIdx.flatMap fun p => xtsUnit f e2 (symDec x.v) ((seq + p.2) % 2 ^ 64) p.1)
    [(symOff x.v, toLe 8 (seq + units.length))]

/-- The whole MAC of CMAC, algorithm 1 or algorithm 3. -/
def symMac (x : OpIn) : Bytes :=
  let b := symBlock x.v
  let pad := if symOpt x.v = 1 then padM1 b x.input else padM2 b x.input
  match symMode x.v with
  | 5 => cmacKey x.ka.key.cls x.ka.key.material x.input
  | 6 => cbcMac (blockEnc x.ka.key.cls x.ka.key.material) b pad
  | _ => retailMac x.ka.key.material pad

/-- MAC generation and verification. -/
def runMac (x : OpIn) : OpOut :=
  let m := (symMac x).take (symT x.v)
  if symDec x.v then opCheck (m = (symMB x).take (symT x.v)) stVerifyFail else opResult m [] m

/-- KW and KWP. -/
def runKw (x : OpIn) : OpOut :=
  let k := x.ka.key.material
  let kwp := symMode x.v = 9
  if symDec x.v then
    match (if kwp then kwpOpen (aesDec k) x.input else kwOpen (aesDec k) x.input) with
    | some p => if kwp then opResult p [] (toLe 8 p.length) else opOk p []
    | none => opFail stTagMismatch
  else opOk (if kwp then kwpSeal (aesEnc k) x.input else kwSeal (aesEnc k) x.input) []

/-- ECB of one block (R120). -/
def runEcb (x : OpIn) : OpOut :=
  opOk ((if symDec x.v then blockDec x.ka.key.cls x.ka.key.material else blockEnc x.ka.key.cls x.ka.key.material) x.input) []

/-- The operations of chapter 04. -/
def symRun (x : OpIn) : OpOut :=
  match symMode x.v with
  | 0 => runEcb x
  | 1 => runCbc x
  | 2 => runCtr x
  | 3 => runGcm x
  | 4 => runXts x
  | 5 | 6 | 7 => runMac x
  | 8 | 9 => runKw x
  | _ => opResult [] [] (kcvOf x.ka.key.cls x.ka.key.material)

/-- What an engine can release of the output once it has the input so far, a whole number of segments (R115, R127, R129). A data
unit of XTS with ciphertext stealing keeps its last whole block until the end. -/
def symPrefix (x : OpIn) : Bytes :=
  let m := x.input
  let k := x.ka.key.material
  match symMode x.v with
  | 1 =>
    if symDec x.v then cbcDec (aesDec k) 16 (symIv x) m
    else (if symDraws x.v then symIv x else []) ++ cbcEnc (aesEnc k) 16 (symIv x) m
  | 2 => ctrMode (aesEnc k) ((symMB x).take 16) m
  | 3 => if symDec x.v then [] else gcmCtr (aesEnc k) x.nonce (m.drop (gcmAad x))
  | 4 =>
    if symOpt x.v = 2 then
      let h := k.length / 2
      let f := if symDec x.v then aesDec (k.take h) else aesEnc (k.take h)
      let whole := if x.n % 16 = 0 then m else m.take (16 * (x.n / 16) - 16)
      (xtsBlocks f (aesEnc (k.drop h) (toLe 16 (field 0 8 (symMB x)))) whole).1
    else (runXts x).dst
  | _ => []

/-- Whether an engine holds the whole output until the end of the job. -/
def symHeld (v : Nat) : Bool := symIsMac v || (symMode v = 3 && symDec v)

end Sys2Proof.Machine
end

