-- ==== Sys2Proof/Machine/DigestOps.lean ====
section
/-! DEFINITION. The digest and HMAC operations of the digest units (06 R177 to R185). -/

namespace Sys2Proof.Machine

/-- A state block (Table 6.6). -/
def stateBlock (a : Nat) (h : List Nat) (bytes : Nat) : Bytes :=
  let x := packState a h ++ toLe 8 bytes ++ toLe 1 a ++ zeroBytes 3
  x ++ toLe 4 (crc32c x).toNat

/-- The checks of R182 on an incoming state block. -/
def stateBlockOk (a : Nat) (sb : Bytes) : Bool :=
  byteAt 0xD0 sb = a && allZero (slice 0xD1 3 sb) && field 0xD4 4 sb = (crc32c (sb.take 0xD4)).toNat &&
  field 0xC8 8 sb % hashBlock a = 0

/-- Verify modes. -/
def digVerify (v : Nat) : Bool := digMode v = 1 || digMode v = 3

/-- The length the operation compares or releases: L, OUT_LEN or T. -/
def digOut (x : OpIn) : Nat :=
  if 2 ≤ digMode x.v then byteAt 2 x.param
  else if isShake (digAlg x.v) then field 0 2 x.param else hashLen (digAlg x.v)

/-- The checked fields of Table 6.5. -/
def digParamsOk (x : OpIn) : Bool :=
  let a := digAlg x.v
  let p := digPhase x.v
  let n := digOut x
  if 2 ≤ digMode x.v then 4 ≤ n && n ≤ hashLen a
  else (p < 2 || stateBlockOk a (slice 8 216 x.param)) &&
    (!isShake a || p = 1 || p = 2 || (1 ≤ n && n ≤ (if digMode x.v = 1 then 64 else 1024)))

/-- The digest or MAC of an operation that finishes a message. A resident HMAC key comes as the states its companion area holds (R184). -/
def digValue (x : OpIn) : Bytes :=
  let a := digAlg x.v
  let sb := slice 8 216 x.param
  if 2 ≤ digMode x.v then
    (match x.ka.key.companion with
      | .hmac inner outer => hmacFrom a inner outer x.input
      | _ => hmac a x.ka.key.material x.input).take (digOut x)
  else if digPhase x.v = 0 then hashAlg a (digOut x) x.input
  else if chains a && 2 ^ (hashBlock a - 3) ≤ field 0xC8 8 sb + x.n then
    fit (digOut x) (Config.pastLength (field 0xC8 8 sb + x.n) (digOut x))
  else digFinish a (unpackState a sb) (field 0xC8 8 sb + x.n) x.input (digOut x)

/-- BYTES after a further part of a message; past its 64 bits the spec states no count (log 94). -/
def bytesAfter (x : OpIn) : Nat :=
  let n := field 0xC8 8 (slice 8 216 x.param) + x.n
  if n < 2 ^ 64 then n else leNat (fit 8 (Config.pastLength n 8))

/-- The operations of a digest unit. -/
def digRun (x : OpIn) : OpOut :=
  let a := digAlg x.v
  let p := digPhase x.v
  let sb := slice 8 216 x.param
  if !digParamsOk x then opFail stInputRange
  else if p = 1 then opOk [] [(8, stateBlock a (digAbsorb a (digInit a) x.input) x.n)]
  else if p = 2 then
    opOk [] [(8, stateBlock a (digAbsorb a (unpackState a sb) x.input) (bytesAfter x))]
  else if digVerify x.v then
    opCheck (digValue x = slice (if p = 0 then 8 else 0xE0) (digOut x) x.param) stVerifyFail
  else opResult (digValue x) [] (digValue x)

end Sys2Proof.Machine
end

