-- ==== Sys2Proof/Machine/Draw.lean ====
section
/-! DEFINITION. Drawing from the RNG's output buffer (09 R262, R265, R266), and scalars from drawn bytes (07 R209). -/

namespace Sys2Proof.Machine

/-- Take bytes from the front of the buffer. -/
def takeBuffer (n : Nat) (s : State) : Bytes × State :=
  (s.rng.buffer.take n, { s with rng := { s.rng with buffer := s.rng.buffer.drop n } })

/-- Whether the RNG serves requests: READY; STARTING and STALLED let them wait (R264, R265). -/
def rngServes (s : State) : Bool := s.rng.state = .ready

/-- Ask for bytes: RNG_FAILED at once, the bytes where they are there and nobody waits, or a place in the queue. -/
def askRandom (who : Asker) (n : Nat) (pr : Bool) (s : State) : Except Status (Option Bytes × State) :=
  if rngFailed s then .error stRngFailed
  else if rngServes s && s.rng.waiting.isEmpty && n ≤ s.rng.buffer.length && !pr then
    .ok (some (takeBuffer n s).1, (takeBuffer n s).2)
  else
    .ok (none, { s with rng := { s.rng with waiting := s.rng.waiting ++
      [{ who := who, bytes := n, pr := pr, asked := now s }] } })

/-- A scalar from 1 to n − 1 by the extra-random-bits method with 64 extra bits (07 R209). Of bytes that hold more bits than the order's
length and 64, the low-order ones count (log 92). -/
def scalarFrom (n : Nat) (b : Bytes) : Nat := beNat b % 2 ^ (Nat.log2 n + 65) % (n - 1) + 1

/-- The bytes a scalar takes: the order's length and 64 extra bits. -/
def scalarBytes (c : Curve) : Nat := ceilDiv (Nat.log2 c.n + 1 + 64) 8

/-- The signature of the IDK with a drawn per-signature value (08 R247, 15 R425). -/
def idkSign (s : State) (drawn msg : Bytes) : Bytes :=
  match s.ao.idk with
  | some d => ecdsaSign p384 Blind.none d (scalarFrom p384.n drawn) (sha384 msg)
  | none => zeroBytes 96

end Sys2Proof.Machine
end

