-- ==== Sys2Proof/Machine/Units.lean ====
section
/-! DEFINITION. The execution units: which are healthy, idle and pinned, and which a tenant may be granted (10 R283, R284;
07 R227). -/

namespace Sys2Proof.Machine

/-- KIND of 16 Table 16.4 for a kind of execution unit. -/
def kindCode : UnitKind → Nat
  | .lane => 1 | .engine => 2 | .digest => 3 | .standard => 4 | .shielded => 5 | .rng => 6

/-- Whether a unit is fenced (16 R444). -/
def unitFenced (s : State) (kind i : Nat) : Bool :=
  match kind with
  | 0 => s.units.seq.getLsbD i
  | 1 => s.units.lane.getLsbD i
  | 2 => s.units.engine.getLsbD i
  | 3 => s.units.digest.getLsbD i
  | 4 => s.units.standard.getLsbD i
  | 5 => s.units.shielded.getLsbD i
  | _ => false

/-- A unit's fence bit set or cleared. -/
def setFenced (kind i : Nat) (v : Bool) (s : State) : State :=
  let put := fun {n : Nat} (w : BitVec n) => if v then w ||| BitVec.twoPow n i else w &&& ~~~(BitVec.twoPow n i)
  let u := s.units
  { s with units := match kind with
    | 0 => { u with seq := put u.seq }
    | 1 => { u with lane := put u.lane }
    | 2 => { u with engine := put u.engine }
    | 3 => { u with digest := put u.digest }
    | 4 => { u with standard := put u.standard }
    | 5 => { u with shielded := put u.shielded }
    | _ => u }

/-- Whether a unit exists and is not fenced. -/
def healthy (s : State) (kind i : Nat) : Bool := i < unitCount s kind && !unitFenced s kind i

/-- Whether a slate holds a sequencer: one of an aborted reel no longer does. -/
def holdsSeq (x : Slate) : Bool :=
  match x.stage with
  | .owed | .owedReading | .owedRead _ => false
  | _ => true

/-- The sequencers a tenant's slates and takes hold, or all where no tenant is given; one fenced while it was held for a slate is
held no longer, so that R283 can permit the slate another. -/
def seqsOf (s : State) (f : Option Nat) : List Nat :=
  ((s.slates.filter fun x => holdsSeq x && healthy s 0 x.seq && f.all (· = x.tenant)).map (·.seq)) ++
  (s.takes.filter fun t => f.all (· = t.tenant)).filterMap (·.seq)

/-- The units of a kind that run a tenant's work, or all where no tenant is given. -/
def unitsOf (s : State) (kind : Nat) (f : Option Nat) : List Nat :=
  if kind = 0 then seqsOf s f
  else (s.takes.filter fun t => f.all (· = t.tenant)).filterMap fun t =>
    t.op.bind fun o => if kindCode o.kind = kind then o.unit else none

/-- Whether a unit runs work. -/
def unitBusy (s : State) (kind i : Nat) : Bool := (unitsOf s kind none).contains i

/-- The tenant a standard core is pinned to. -/
def pinOf (s : State) (core : Nat) : Option Nat :=
  match tableGet 0 s.units.pins core with
  | 0 => none
  | n + 1 => some n

/-- Whether a unit is pinned: standard cores only. -/
def pinned (s : State) (kind i : Nat) : Bool := kind = 4 && (pinOf s i).isSome

/-- The cores pinned to a tenant. -/
def pinsOf (s : State) (kind f : Nat) : List Nat :=
  if kind = 4 then (List.range (standardCount s)).filter fun i => pinOf s i = some f else []

/-- MIN of a kind for a tenant; SEQ_MIN as the last round read it (10 Table 10.10). -/
def minOf (t : Tenant) (kind : Nat) : Nat :=
  match kind with
  | 0 => t.round.seqMin | 1 => t.sheet.laneMin | 3 => t.sheet.digestMin | 4 => t.sheet.pkMin | 5 => t.sheet.shMin | _ => 0

/-- MAX of a kind for a tenant; SEQ_MAX as the last round read it, and engines have none. -/
def maxOf (t : Tenant) (kind : Nat) : Nat :=
  match kind with
  | 0 => t.round.seqMax | 1 => t.sheet.laneMax | 3 => t.sheet.digestMax | 4 => t.sheet.pkMax | 5 => t.sheet.shMax | _ => 8

/-- The functions that are not FREE, in increasing order. -/
def liveTenants (s : State) : List Nat := (s.tenants.filter fun p => p.2.state ≠ .free).map Prod.fst

/-- The healthy units of a kind that are not pinned. -/
def freePool (s : State) (kind : Nat) : List Nat :=
  (List.range (unitCount s kind)).filter fun i => healthy s kind i && !pinned s kind i

/-- Each live tenant with its reservation beyond its pinned cores, capped under R284 in increasing function number. -/
def reservations (s : State) (kind : Nat) : List (Nat × Nat) :=
  ((liveTenants s).foldl (fun (a : Nat × List (Nat × Nat)) f =>
    let c := min (minOf (tenantOf s f) kind - (pinsOf s kind f).length) a.1
    (a.1 - c, a.2 ++ [(f, c)])) ((freePool s kind).length, [])).2

/-- What every tenant but one still has to be kept: max(0, MIN − O), its pinned cores counting toward O. -/
def keptFor (s : State) (kind f : Nat) : Nat :=
  ((reservations s kind).filter fun p => p.1 ≠ f).foldl (fun a p =>
    a + (p.2 - ((unitsOf s kind (some p.1)).filter fun i => !pinned s kind i).length)) 0

/-- The shielded cores that are healthy and run no tenant's OP. -/
def idleShielded (s : State) : List Nat := (List.range (shieldedCount s)).filter fun i => healthy s 5 i && !unitBusy s 5 i

/-- The operations under the IDK that wait for a shielded core, which come before every tenant's OP (07 R198). -/
def idkWaiting (s : State) : Nat := s.units.idk.length + b2n (kmNeedsIdk s)

/-- Whether a healthy idle unit may be granted to a tenant (R283). -/
def mayGrant (s : State) (kind f i : Nat) : Bool :=
  let idle := (freePool s kind).filter fun j => !unitBusy s kind j
  let left := idle.length - b2n (!pinned s kind i)
  healthy s kind i && !unitBusy s kind i && (!pinned s kind i || pinOf s i = some f) &&
  (unitsOf s kind (some f)).length < maxOf (tenantOf s f) kind && keptFor s kind f ≤ left &&
  (kind ≠ 5 || idkWaiting s < (idleShielded s).length)

/-- Whether R283 permits a tenant a unit of a kind now. -/
def anyGrant (s : State) (kind f : Nat) : Bool := (List.range (unitCount s kind)).any (mayGrant s kind f)

/-- Whether a unit of the tenant's share remains (R283, last paragraph). -/
def shareRemains (s : State) (kind f : Nat) : Bool :=
  let t := tenantOf s f
  if kind = 2 then (List.range (engineCount s)).any fun i => healthy s 2 i && t.sheet.engines.getLsbD i
  else 0 < maxOf t kind && (List.range (unitCount s kind)).any fun i =>
    healthy s kind i && (!pinned s kind i || pinOf s i = some f)

/-- Whether fences leave fewer healthy units of a kind, pinned or not, than the sum of the reservations (R284). -/
def shortOf (s : State) (kind : Nat) : Bool :=
  ((List.range (unitCount s kind)).filter (healthy s kind)).length < (liveTenants s).foldl (fun a f => a + minOf (tenantOf s f) kind) 0

/-- A standard core pinned to a tenant, or to none. -/
def setPin (core : Nat) (f : Option Nat) (s : State) : State :=
  { s with units := { s.units with pins := tableSet 0 s.units.pins core (match f with | some n => n + 1 | none => 0) } }

/-- Pin a tenant's missing cores on idle unpinned ones, the lowest first, or unpin its idle surplus, the highest first
(10 R281, Table 10.10); the rest follow when their OPs end. -/
def settlePins (f : Nat) (s : State) : State :=
  let want := (tenantOf s f).sheet.pinned
  let have' := pinsOf s 4 f
  if have'.length < want then
    (((freePool s 4).filter fun i => !unitBusy s 4 i).take (want - have'.length)).foldl (fun t i => setPin i (some f) t) s
  else
    (((have'.reverse.take (have'.length - want)).filter fun i => !unitBusy s 4 i)).foldl (fun t i => setPin i none t) s

/-- The pins of every tenant settled, in increasing function number. -/
def settleAllPins (s : State) : State := (liveTenants s).foldl (fun t f => settlePins f t) s

end Sys2Proof.Machine
end

