-- ==== Sys2Proof/Machine/Islands.lean ====
section
/-! DEFINITION. The clock islands: their kinds and units (12 Table 12.9), and what work does to a gated one (12 R348). -/

namespace Sys2Proof.Machine

/-- The groups of a kind 0 (sequencers), 1 (lanes) or 3 (digest units), and one island per unit of the other kinds (01 Table 1.1; the grouping
is log 24). -/
def groupsOf (s : State) (kind : Nat) : Nat :=
  match kind with
  | 0 => perSize s 2 4 4
  | 1 => perSize s 2 8 8
  | 3 => perSize s 2 4 8
  | k => unitCount s k

/-- The first island of a kind of unit, in the order of Table 12.9. -/
def firstIsland (s : State) (kind : Nat) : Nat :=
  match kind with
  | 0 => 7
  | 1 => 7 + groupsOf s 0
  | 3 => 7 + groupsOf s 0 + groupsOf s 1
  | 2 => 7 + groupsOf s 0 + groupsOf s 1 + groupsOf s 3
  | 4 => 7 + groupsOf s 0 + groupsOf s 1 + groupsOf s 3 + groupsOf s 2
  | _ => 7 + groupsOf s 0 + groupsOf s 1 + groupsOf s 3 + groupsOf s 2 + groupsOf s 4

/-- The units of a kind in one island. -/
def unitsPer (s : State) (kind : Nat) : Nat := unitCount s kind / groupsOf s kind

/-- The island of a unit. -/
def islandOf (s : State) (kind i : Nat) : Nat := firstIsland s kind + i / unitsPer s kind

/-- The kind of unit an island holds; none for islands 0 to 6. -/
def unitKindOf (s : State) (island : Nat) : Option Nat :=
  [0, 1, 3, 2, 4, 5].find? fun k => firstIsland s k ≤ island && island < firstIsland s k + groupsOf s k

/-- The units in an island. -/
def unitsIn (s : State) (island : Nat) : List Nat :=
  match unitKindOf s island with
  | some k => (List.range (unitsPer s k)).map ((island - firstIsland s k) * unitsPer s k + ·)
  | none => []

/-- KIND of an island (Table 12.9). -/
def islandKind (s : State) (island : Nat) : Nat :=
  match unitKindOf s island with
  | some 0 => 4 | some 1 => 5 | some 3 => 7 | some 2 => 6 | some 4 => 8 | some _ => 9
  | none => [0, 1, 3, 2, 2, 0xA, 0xB].getD island 0

/-- Whether every unit of an island is fenced: the island is powered off and shows FENCED (R348). -/
def islandFenced (s : State) (island : Nat) : Bool :=
  match unitKindOf s island with
  | some k => (unitsIn s island).all (unitFenced s k)
  | none => false

/-- The state with an island's record replaced. -/
def setIsland (island : Nat) (x : Island) (s : State) : State :=
  { s with gaffer := { s.gaffer with islands := tableSet Island.reset s.gaffer.islands island x } }

/-- The modes in which the gaffer starts the islands that are off, one by one. -/
def startsIslands (m : Mode) : Bool := m = .reset || m = .selftest || m = .factory

/-- Whether an island can take a transfer: it runs, or it is clock-gated and runs again 16 of its cycles later, well within a µs (R348). -/
def islandReady (s : State) (island : Nat) : Bool := (islandAt s island).state = .running || (islandAt s island).state = .clockGated

/-- The island of a unit can take a transfer. -/
def unitReady (s : State) (kind i : Nat) : Bool := islandReady s (islandOf s kind i)

/-- An island without power joins the gaffer's queue (R349). -/
def queueIsland (island : Nat) (s : State) : State :=
  let x := islandAt s island
  match x.state with
  | .off | .powerGated | .retained => setIsland island { x with queued := true } s
  | _ => s

/-- Work reaches a unit (01 R11): an island that can take it runs; one without power is queued, and the sender stalls until it runs. -/
def touchIsland (kind i : Nat) (s : State) : State :=
  let n := islandOf s kind i
  if islandReady s n then setIsland n { islandAt s n with state := .running, idleSince := now s } s else queueIsland n s

/-- An operation of the core's own on a shielded core (07 R198): at once on an idle one whose island runs; else it waits, and an island without
power is asked for. It occupies its core for no time the model shows (log 75). -/
def onShielded (run wait : State → State) (s : State) : State :=
  match (idleShielded s).find? (unitReady s 5) with
  | some i => run (touchIsland 5 i s)
  | none => wait (match (idleShielded s).head? with
    | some i => touchIsland 5 i s
    | none => s)

/-- An operation under the IDK joins those that wait. -/
def queueIdk (j : IdkJob) (s : State) : State := { s with units := { s.units with idk := s.units.idk ++ [j] } }

/-- An operation under the IDK, after those that wait already. -/
def underIdk (j : IdkJob) (run : State → State) (s : State) : State :=
  if s.units.idk.isEmpty then onShielded run (queueIdk j) s else queueIdk j s

/-- The islands that have work: a sequencer held, an OP on a unit. -/
def workingIslands (s : State) : List Nat :=
  (seqsOf s none).map (islandOf s 0) ++
  s.takes.filterMap fun t => t.op.bind fun o => o.unit.map (islandOf s (kindCode o.kind))

/-- The islands the gaffer does not gate (R350): those with work, those of the units an unfinished take has used (01 R11), and engines that
hold a job's context or its held output. -/
def heldIslands (s : State) : List Nat :=
  workingIslands s ++ s.takes.flatMap fun t =>
    (t.used.map fun u => islandOf s (kindCode u.1) u.2) ++
    ((t.op.bind (·.hold)).toList ++ (t.op.bind (·.saved)).toList).map (islandOf s 2)

/-- Whether an island waits for its start: it is queued, or off where the gaffer starts them all; a fenced one is not started. -/
def waitsStart (s : State) (i : Nat) : Bool :=
  ((islandAt s i).queued || (startsIslands s.modes.mode && (islandAt s i).state = .off)) && !islandFenced s i

end Sys2Proof.Machine
end

