-- ==== Sys2Proof/Machine/Sheet.lean ====
section
/-! DEFINITION. Call sheets: their 128 bytes, the checks of 10 Table 10.8, and the pools. -/

namespace Sys2Proof.Machine

/-- STATE of 10 Table 10.3. -/
def tenantStateCode : TenantState → Nat
  | .free => 0 | .running => 1 | .pausing => 2 | .paused => 3

/-- FLAGS of 10 Table 10.5. -/
def sheetFlags (t : Tenant) : Nat :=
  flagAt 0 t.sheet.shielded + flagAt 1 t.logging + flagAt 2 t.activeB + flagAt 3 t.incomplete

/-- Bytes 0x04 to 0x0F of a call sheet. -/
def sheetLow (x : Sheet) : Bytes :=
  toLe 1 x.weight ++ toLe 1 x.retry ++ toLe 2 x.budget ++ toLe 4 x.parkTimeout ++ zeroBytes 4

/-- Bytes 0x18 to 0x57 of a call sheet. -/
def sheetMid (x : Sheet) : Bytes :=
  toLe 4 x.reels ++ toLe 4 x.dailies ++ toLe 4 x.slotBase ++ toLe 4 x.slots ++ toLe 2 x.seqMin ++ toLe 2 x.seqMax ++
  toLe 2 x.laneMin ++ toLe 2 x.laneMax ++ toLe 1 x.digestMin ++ toLe 1 x.digestMax ++ toLe 1 x.pkMin ++ toLe 1 x.pkMax ++
  toLe 1 x.shMin ++ toLe 1 x.shMax ++ toLe 1 x.pinned ++ toLe 1 x.engines.toNat ++ toLe 4 x.takeRate ++ toLe 4 x.takeBurst ++
  toLe 8 x.byteRate ++ toLe 8 x.byteBurst ++ toLe 4 x.pkRate ++ toLe 4 x.pkBurst

/-- The 128 bytes of a tenant's call sheet (10 Table 10.4). -/
def sheetBytes (f : Nat) (t : Tenant) : Bytes :=
  toLe 2 f ++ toLe 1 (tenantStateCode t.state) ++ toLe 1 (sheetFlags t) ++ sheetLow t.sheet ++ toLe 8 t.sheet.arena.toNat ++
  sheetMid t.sheet ++ toLe 8 t.sheet.region.toNat ++ toLe 4 t.sheet.pages ++ zeroBytes 4 ++ toLe 8 t.sheet.bitmapA.toNat ++
  toLe 8 t.sheet.bitmapB.toNat ++ zeroBytes 8

/-- The carried fields of a call sheet as a continuity entry holds them, the local ones zero (11 R316). -/
def carriedBytes (f : Nat) (x : Sheet) : Bytes :=
  toLe 2 f ++ [0] ++ toLe 1 (b2n x.shielded) ++ sheetLow x ++ zeroBytes 8 ++ sheetMid x ++ zeroBytes 40

/-- The call sheet 128 bytes spell. -/
def sheetOf (b : Bytes) : Sheet :=
  { weight := byteAt 4 b, retry := byteAt 5 b, budget := field 6 2 b, parkTimeout := field 8 4 b,
    arena := BitVec.ofNat 64 (field 0x10 8 b), reels := field 0x18 4 b, dailies := field 0x1C 4 b,
    slotBase := field 0x20 4 b, slots := field 0x24 4 b, seqMin := field 0x28 2 b, seqMax := field 0x2A 2 b,
    laneMin := field 0x2C 2 b, laneMax := field 0x2E 2 b, digestMin := byteAt 0x30 b, digestMax := byteAt 0x31 b,
    pkMin := byteAt 0x32 b, pkMax := byteAt 0x33 b, shMin := byteAt 0x34 b, shMax := byteAt 0x35 b, pinned := byteAt 0x36 b,
    engines := BitVec.ofNat 8 (byteAt 0x37 b), takeRate := field 0x38 4 b, takeBurst := field 0x3C 4 b,
    byteRate := field 0x40 8 b, byteBurst := field 0x48 8 b, pkRate := field 0x50 4 b, pkBurst := field 0x54 4 b,
    shielded := byteAt 3 b % 2 = 1, region := BitVec.ofNat 64 (field 0x58 8 b), pages := field 0x60 4 b,
    bitmapA := BitVec.ofNat 64 (field 0x68 8 b), bitmapB := BitVec.ofNat 64 (field 0x70 8 b) }

/-- The local fields of one call sheet over the carried fields of another (11 R316). -/
def withLocal (l c : Sheet) : Sheet :=
  { c with arena := l.arena, region := l.region, pages := l.pages, bitmapA := l.bitmapA, bitmapB := l.bitmapB }

/-- Check 5 of 10 Table 10.8: ranges, FUNCTION and reserved fields. -/
def sheetInRange (s : State) (f : Nat) (b : Bytes) : Bool :=
  let x := sheetOf b
  field 0 2 b = f && byteAt 3 b / 16 = 0 && field 0x0C 4 b = 0 && field 0x64 4 b = 0 && field 0x78 8 b = 0 &&
  1 ≤ x.weight && x.retry ≤ 7 && 1 ≤ x.budget && 1 ≤ x.parkTimeout && x.parkTimeout ≤ 1000000 &&
  x.reels ≤ reelCount s && x.dailies ≤ reelCount s && (0x40 ≤ x.slotBase || (x.slotBase = 0 && x.slots = 0)) &&
  x.slotBase < 2 ^ 17 && x.slotBase + x.slots ≤ slotCount s && x.seqMin ≤ x.seqMax && 1 ≤ x.seqMax && x.seqMax ≤ seqCount s &&
  x.laneMin ≤ x.laneMax && x.laneMax ≤ laneCount s && x.digestMin ≤ x.digestMax && x.digestMax ≤ digestCount s &&
  x.pinned ≤ x.pkMin && x.pkMin ≤ x.pkMax && x.pkMax ≤ standardCount s && x.shMin ≤ x.shMax && x.shMax ≤ shieldedCount s &&
  (x.shielded || x.shMax = 0) && (x.pinned = 0 || s.chip.size = .large) && x.engines.toNat < 2 ^ engineCount s &&
  (x.takeRate = 0 || 1 ≤ x.takeBurst) && (x.byteRate = 0 || 1 ≤ x.byteBurst) && (x.pkRate = 0 || 1 ≤ x.pkBurst)

/-- Check 6: alignment. -/
def sheetAligned (x : Sheet) : Bool :=
  x.arena.toNat % 4096 = 0 && x.region.toNat % 4096 = 0 && x.bitmapA.toNat % 64 = 0 && x.bitmapB.toNat % 64 = 0

/-- One more than the highest tenant-local index of a reel that is not FREE. -/
def reelsInUse (s : State) (f : Nat) : Nat :=
  s.reels.foldl (fun a p => if p.1 / 2 ^ 20 = f && p.2.created then max a (p.1 % 2 ^ 20 + 1) else a) 0

/-- One more than the highest tenant-local index of a dailies that is not FREE. -/
def dailiesInUse (s : State) (f : Nat) : Nat :=
  s.dailies.foldl (fun a p => if p.1 / 2 ^ 20 = f && p.2.created then max a (p.1 % 2 ^ 20 + 1) else a) 0

/-- Check 7, for CHANGE. -/
def changeAllowed (s : State) (f : Nat) (x : Sheet) : Bool :=
  let t := tenantOf s f
  reelsInUse s f ≤ x.reels && dailiesInUse s f ≤ x.dailies &&
  (x.arena = t.sheet.arena || (reelsInUse s f = 0 && dailiesInUse s f = 0)) &&
  (!t.logging || (x.region = t.sheet.region && x.pages = t.sheet.pages && x.bitmapA = t.sheet.bitmapA &&
    x.bitmapB = t.sheet.bitmapB))

/-- Whether two slot ranges overlap. -/
def rangesMeet (a n b m : Nat) : Bool := 0 < n && 0 < m && a < b + m && b < a + n

/-- Check 8: the slot range is free of other tenants and of others' slots, and what a CHANGE leaves is EMPTY. -/
def rangeAllowed (s : State) (f : Nat) (x : Sheet) : Bool :=
  let old := (tenantOf s f).sheet
  ((liveTenants s).all fun g => g = f ||
    !rangesMeet x.slotBase x.slots (tenantOf s g).sheet.slotBase (tenantOf s g).sheet.slots) &&
  s.keys.slots.all fun p =>
    let inNew := x.slotBase ≤ p.1 && p.1 < x.slotBase + x.slots
    let inOld := old.slotBase ≤ p.1 && p.1 < old.slotBase + old.slots
    if inNew then p.2.state = .empty || p.2.owner = f else !inOld || p.2.state = .empty

/-- Check 9, for CHANGE. -/
def shieldKept (s : State) (x : Sheet) : Bool :=
  x.shielded || s.keys.slots.all fun p => !(x.slotBase ≤ p.1 && p.1 < x.slotBase + x.slots && uses p.2.usage 24)

/-- ALLOTTED of a pool (10 Table 10.9). -/
def allotted (s : State) (g : Sheet → Nat) : Nat := (liveTenants s).foldl (fun a f => a + g (tenantOf s f).sheet) 0

/-- The pools: TOTAL and the field that ALLOTTED sums. -/
def pools (s : State) : List (Nat × (Sheet → Nat)) :=
  [(reelCount s, (·.reels)), (reelCount s, (·.dailies)), (slotCount s - 64, (·.slots)), (seqCount s, (·.seqMin)),
   (laneCount s, (·.laneMin)), (digestCount s, (·.digestMin)), (standardCount s, (·.pkMin)), (shieldedCount s, (·.shMin)),
   (tenantCount s, fun _ => 1)]

/-- Check 10: each pool covers the new allotment, the old one returned. -/
def poolsCover (s : State) (f : Nat) (x : Sheet) : Bool :=
  (pools s).all fun p =>
    let old := if (tenantOf s f).state = .free then 0 else p.2 (tenantOf s f).sheet
    allotted s p.2 - old + p.2 x ≤ p.1

/-- Check 11, for CREATE. -/
def ownerKeyOk (s : State) (f : Nat) (key : Bytes) : Bool :=
  if allZero key then secretOf s f ≠ [] else (pointOf p384 key).isSome

/-- The buckets of a call sheet full (10 R286). -/
def fillBuckets (t : Tenant) : Tenant :=
  { t with takeLevel := (t.sheet.takeBurst * 65536 : Nat), byteLevel := (t.sheet.byteBurst * 65536 : Nat),
           pkLevel := (t.sheet.pkBurst * 65536 : Nat) }

/-- A call sheet replaced: a rate that becomes non-zero starts its bucket at the new BURST (10 R286). What the rounds read of it
takes effect at the next one (R287). -/
def replaceSheet (x : Sheet) (t : Tenant) : Tenant :=
  let o := t.sheet
  { t with
    sheet := x,
    takeLevel := if o.takeRate = 0 && x.takeRate ≠ 0 then (x.takeBurst * 65536 : Nat) else t.takeLevel,
    byteLevel := if o.byteRate = 0 && x.byteRate ≠ 0 then (x.byteBurst * 65536 : Nat) else t.byteLevel,
    pkLevel := if o.pkRate = 0 && x.pkRate ≠ 0 then (x.pkBurst * 65536 : Nat) else t.pkLevel }

/-- Install the attestation secret that a shielded core has derived for an owner's key, while the function has that owner. -/
def installSecret (f : Nat) (key : Bytes) (s : State) : State :=
  match attestSecret s f key with
  | some z => if (tenantOf s f).ownerKey = key then setSecret f z s else s
  | none => s

/-- Derive the attestation secret of an owner key, where the key is not zero. -/
def deriveSecret (f : Nat) (key : Bytes) (s : State) : State :=
  if allZero key then s else underIdk (.secret f key) (installSecret f key) s

/-- A new tenant (10 R281) in a state, with its buckets full, its cores pinned and its secret derived. -/
def createTenant (f : Nat) (st : TenantState) (x : Sheet) (key : Bytes) (s : State) : State :=
  let s := setTenant f (fillBuckets { Tenant.reset with state := st, sheet := x, round := x.shares, ownerKey := key }) s
  settlePins f (deriveSecret f key s)

/-- Every reel and dailies of a tenant FREE, its cached contexts and the unread slates of its aborted reels dropped (10 R291). -/
def dropObjects (f : Nat) (s : State) : State :=
  { s with slates := s.slates.filter (·.tenant ≠ f), reels := s.reels.filter fun p => p.1 / 2 ^ 20 ≠ f, dailies := s.dailies.filter fun p => p.1 / 2 ^ 20 ≠ f }

end Sys2Proof.Machine
end

