-- ==== Sys2Proof/Machine/Rings.lean ====
section
/-! DEFINITION. Reel and dailies contexts, their cache, pacing, and the states of reels and dailies (02 R29 to R58). -/

namespace Sys2Proof.Machine

/-! ### Contexts as bytes (02 Tables 2.1 to 2.3) -/

/-- STATE of 02 Table 2.8. -/
def reelCode : ReelState → Nat
  | .free => 0 | .idle => 1 | .active => 2 | .paused => 3 | .halted => 4 | .aborted => 5

/-- The state a code names. -/
def reelStateOf (n : Nat) : Option ReelState :=
  match n with
  | 0 => some .free | 1 => some .idle | 2 => some .active | 3 => some .paused | 4 => some .halted | 5 => some .aborted
  | _ => none

/-- 60 bytes with their CTX_CHECK. -/
def withCheck (b : Bytes) : Bytes := b ++ toLe 4 (crc32c b).toNat

/-- Whether a context passes its CTX_CHECK. -/
def checkOk (b : Bytes) : Bool := b.length = 64 && field 0x3C 4 b = (crc32c (b.take 60)).toNat

/-- A reel context. -/
def reelBytes (c : ReelCtx) : Bytes :=
  withCheck (toLe 8 c.base.toNat ++ toLe 1 c.log2 ++ toLe 1 (reelCode c.state) ++
    toLe 1 (flagAt 0 c.serial + flagAt 1 c.eligible + flagAt 2 c.ageRunning + flagAt 3 c.aged) ++ [0] ++ toLe 4 c.dailies ++
    toLe 2 c.head ++ toLe 2 c.tail ++ toLe 2 c.startFill ++ toLe 2 c.stopFill ++ toLe 2 c.ageLimit ++ toLe 2 c.inFlight ++
    toLe 2 c.haltStatus.toNat ++ toLe 2 c.abortRemain ++ toLe 8 c.lastSeq.toNat ++ toLe 8 c.written.toNat ++
    toLe 4 c.ageStart.toNat ++ zeroBytes 8)

/-- The reel context 64 bytes spell; none where the check fails or STATE is 0x00 (R44). -/
def reelOfBytes (b : Bytes) : Option ReelCtx :=
  if !checkOk b then none else
  match reelStateOf (byteAt 9 b) with
  | none | some .free => none
  | some st => some
    { base := BitVec.ofNat 64 (field 0 8 b), log2 := byteAt 8 b, state := st, aged := byteAt 0x0A b / 8 % 2 = 1,
      ageRunning := byteAt 0x0A b / 4 % 2 = 1, eligible := byteAt 0x0A b / 2 % 2 = 1, serial := byteAt 0x0A b % 2 = 1,
      dailies := field 0x0C 4 b, head := field 0x10 2 b, tail := field 0x12 2 b, startFill := field 0x14 2 b,
      stopFill := field 0x16 2 b, ageLimit := field 0x18 2 b, inFlight := field 0x1A 2 b,
      haltStatus := BitVec.ofNat 16 (field 0x1C 2 b), abortRemain := field 0x1E 2 b, lastSeq := BitVec.ofNat 64 (field 0x20 8 b),
      written := BitVec.ofNat 64 (field 0x28 8 b), ageStart := BitVec.ofNat 32 (field 0x30 4 b) }

/-- A dailies context with a STATE byte. -/
def dailiesBytes (state : Nat) (c : DailiesCtx) : Bytes :=
  withCheck (toLe 8 c.base.toNat ++ toLe 1 c.log2 ++ toLe 1 state ++ toLe 1 (flagAt 0 c.phase + flagAt 1 c.intEn) ++ [0] ++
    toLe 2 c.head ++ toLe 2 c.tail ++ toLe 2 c.credits ++ zeroBytes 2 ++ toLe 4 c.bound ++ toLe 8 c.msgAddr.toNat ++
    toLe 4 c.msgData.toNat ++ toLe 2 c.modCount ++ toLe 2 c.modTime ++ toLe 2 c.pending ++ toLe 2 c.haltStatus.toNat ++
    toLe 4 c.modStart.toNat ++ zeroBytes 12)

/-- STATE of 02 Table 2.3. -/
def dailiesCode (c : DailiesCtx) : Nat := if c.halted then 4 else 1

/-- The dailies context 64 bytes spell; none where the check fails or STATE is 0x00. -/
def dailiesOfBytes (b : Bytes) : Option DailiesCtx :=
  if !checkOk b || !(byteAt 9 b = 1 || byteAt 9 b = 4) then none else some
    { base := BitVec.ofNat 64 (field 0 8 b), log2 := byteAt 8 b, halted := byteAt 9 b = 4, phase := byteAt 0x0A b % 2 = 1,
      intEn := byteAt 0x0A b / 2 % 2 = 1, head := field 0x0C 2 b, tail := field 0x0E 2 b, credits := field 0x10 2 b,
      bound := field 0x14 4 b, msgAddr := BitVec.ofNat 64 (field 0x18 8 b), msgData := BitVec.ofNat 32 (field 0x20 4 b),
      modCount := field 0x24 2 b, modTime := field 0x26 2 b, pending := field 0x28 2 b,
      haltStatus := BitVec.ofNat 16 (field 0x2A 2 b), modStart := BitVec.ofNat 32 (field 0x2C 4 b) }

/-! ### The arena and write-backs (R29, R43) -/

/-- The arena address of a context. -/
def ctxAddr (s : State) (f : Nat) (isDailies : Bool) (i : Nat) : Word :=
  let t := (tenantOf s f).sheet
  t.arena + BitVec.ofNat 64 (64 * (if isDailies then t.reels + i else i))

/-- Issue the write of a context. -/
def writeCtx (f : Nat) (isDailies : Bool) (i : Nat) (b : Bytes) (why : Purpose) (s : State) : State :=
  issueWrite (ctxAddr s f isDailies i) b f attrMetaUnit why s

/-- Write a cached context back (R43). -/
def writeBack (f : Nat) (isDailies : Bool) (i : Nat) (s : State) : State :=
  if isDailies then
    let o := dailiesOf s f i
    match o.ctx with
    | some c => writeCtx f true i (dailiesBytes (dailiesCode c) c) (.writeBack f true i) (setDailies f i { o with changed := none } s)
    | none => s
  else
    let o := reelOf s f i
    match o.ctx with
    | some c => writeCtx f false i (reelBytes c) (.writeBack f false i) (setReel f i { o with changed := none } s)
    | none => s

/-- The order of the next use of a cache entry (R42). -/
def tickClock (s : State) : State := { s with sched := { s.sched with clock := s.sched.clock + 1 } }

/-! ### Changing contexts -/

/-- The state a reel that is IDLE or ACTIVE shows (02 Table 2.8). -/
def settleReel (c : ReelCtx) : ReelCtx :=
  if c.state = .idle || c.state = .active then
    { c with state := if c.eligible || 0 < c.inFlight then .active else .idle }
  else c

/-- Whether a change of STATE writes a context back at once (R43): not of a PAUSED tenant, whose write-backs all wait their 1 ms
(10 R289). -/
def backAtOnce (s : State) (f : Nat) : Bool := (tenantOf s f).state ≠ .paused

/-- Replace a cached reel context; a change of STATE writes it back at once. -/
def putReel (f i : Nat) (c : ReelCtx) (s : State) : State :=
  let o := reelOf s f i
  let c := settleReel c
  if o.ctx = some c then s
  else
    let s := setReel f i { o with ctx := some c, changed := o.changed.orElse fun _ => some (now s), used := s.sched.clock } (tickClock s)
    if backAtOnce s f && o.ctx.any fun d => d.state ≠ c.state then writeBack f false i s else s

/-- Replace a cached dailies context; a change of STATE writes it back at once. -/
def putDailies (f i : Nat) (c : DailiesCtx) (s : State) : State :=
  let o := dailiesOf s f i
  if o.ctx = some c then s
  else
    let s := setDailies f i { o with ctx := some c, changed := o.changed.orElse fun _ => some (now s), used := s.sched.clock } (tickClock s)
    if backAtOnce s f && o.ctx.any fun d => d.halted ≠ c.halted then writeBack f true i s else s

/-- Change a reel whose context is cached. -/
def modReel (f i : Nat) (g : ReelCtx → ReelCtx) (s : State) : State :=
  match (reelOf s f i).ctx with
  | some c => putReel f i (g c) s
  | none => s

/-- Change a dailies whose context is cached. -/
def modDailies (f i : Nat) (g : DailiesCtx → DailiesCtx) (s : State) : State :=
  match (dailiesOf s f i).ctx with
  | some c => putDailies f i (g c) s
  | none => s

/-! ### The cache (R41, R42) -/

/-- The cached contexts: whether a dailies, the key, the last use, and whether it is pinned. -/
def cachedEntries (s : State) : List (Bool × Nat × Nat × Bool) :=
  (s.reels.filterMap fun p => p.2.ctx.map fun c => (false, p.1, p.2.used, decide (0 < c.inFlight))) ++
  s.dailies.filterMap fun p => p.2.ctx.map fun c => (true, p.1, p.2.used, decide (0 < c.credits))

/-- The unpinned entry used longest ago. -/
def oldestEntry (s : State) : Option (Bool × Nat × Nat × Bool) :=
  (cachedEntries s).foldl (fun a e => if e.2.2.2 then a else
    match a with
    | none => some e
    | some b => if e.2.2.1 < b.2.2.1 then some e else some b) none

/-- Evict one entry: a changed one is written back first. -/
def evict (e : Bool × Nat × Nat × Bool) (s : State) : State :=
  let f := e.2.1 / 2 ^ 20
  let i := e.2.1 % 2 ^ 20
  if e.1 then
    let s := if (dailiesOf s f i).changed.isSome then writeBack f true i s else s
    let o := dailiesOf s f i
    setDailies f i { o with ctx := none, changed := none, owes := o.ctx.any fun c => c.intEn && 0 < c.pending } s
  else
    let s := if (reelOf s f i).changed.isSome then writeBack f false i s else s
    let o := reelOf s f i
    setReel f i { o with ctx := none, changed := none, wanted := o.ctx.any (·.eligible) } s

/-- Make room for one more entry. -/
def makeRoom (s : State) : State :=
  if (cachedEntries s).length < 2 ^ cacheLog s then s
  else match oldestEntry s with
    | some e => evict e s
    | none => s

/-- A reel context with what came while it was not cached. -/
def ReelObj.settled (o : ReelObj) (c : ReelCtx) : ReelCtx :=
  { c with lastSeq := o.seqOwed.getD c.lastSeq, written := c.written - BitVec.ofNat 64 o.lostOwed }

/-- A dailies context with what came while it was not cached. -/
def DailiesObj.settled (o : DailiesObj) (c : DailiesCtx) : DailiesCtx :=
  { c with pending := c.pending - o.lostOwed, bound := ((c.bound : Int) + o.boundOwed).toNat }

/-- Take a reel context into the cache, with what it is owed. -/
def cacheReel (f i : Nat) (c : ReelCtx) (s : State) : State :=
  let s := tickClock (makeRoom s)
  let o := reelOf s f i
  let d := o.settled c
  setReel f i { o with ctx := some d, changed := if d = c then o.changed else some (now s), wanted := false,
                       used := s.sched.clock, seqOwed := none, lostOwed := 0 } s

/-- Take a dailies context into the cache, with what it is owed; a message due by MOD_COUNT alone is due no longer when PENDING falls
below it. -/
def cacheDailies (f i : Nat) (c : DailiesCtx) (s : State) : State :=
  let s := tickClock (makeRoom s)
  let o := dailiesOf s f i
  let d := o.settled c
  setDailies f i { o with ctx := some d, changed := if d = c then o.changed else some (now s), owes := false,
                          used := s.sched.clock, lostOwed := 0, boundOwed := 0,
                          msgDue := o.msgDue && (o.msgTimed || decide (d.modCount ≤ d.pending)) } s

/-- Use a cached context: it is the last to be replaced (R42). -/
def useCtx (f : Nat) (n : Bool × Nat) (s : State) : State :=
  let s := tickClock s
  if n.1 then
    let o := dailiesOf s f n.2
    if o.ctx.isSome then setDailies f n.2 { o with used := s.sched.clock } s else s
  else
    let o := reelOf s f n.2
    if o.ctx.isSome then setReel f n.2 { o with used := s.sched.clock } s else s

/-- Whether a reel's context is at hand, or its content can never be used. -/
def reelReady (s : State) (f i : Nat) : Bool :=
  let o := reelOf s f i
  !o.created || o.dead || o.ctx.isSome

/-- Whether a dailies' context is at hand, or its content can never be used. -/
def dailiesReady (s : State) (f i : Nat) : Bool :=
  let o := dailiesOf s f i
  !o.created || o.dead || o.ctx.isSome

/-- Start the fetch of a reel's context where it is needed (R41). -/
def fetchReel (f i : Nat) (s : State) : State :=
  let o := reelOf s f i
  if reelReady s f i || o.fetching || o.arrived.isSome then s
  else issueRead (ctxAddr s f false i) 64 f attrMeta (.fetch f false i) (setReel f i { o with fetching := true } s)

/-- Start the fetch of a dailies' context where it is needed. -/
def fetchDailies (f i : Nat) (s : State) : State :=
  let o := dailiesOf s f i
  if dailiesReady s f i || o.fetching || o.arrived.isSome then s
  else issueRead (ctxAddr s f true i) 64 f attrMeta (.fetch f true i) (setDailies f i { o with fetching := true } s)

/-! ### Changes to a context that may have left the cache (R41): they wait for its fetch -/

/-- LAST_SEQ of a reel. -/
def noteSeq (f i : Nat) (seq : Word) (s : State) : State :=
  let o := reelOf s f i
  if o.ctx.isSome then modReel f i (fun c => { c with lastSeq := seq }) s
  else if o.created && !o.dead then fetchReel f i (setReel f i { o with seqOwed := some seq } s)
  else s

/-- A daily of a reel is lost: DAILIES_WRITTEN does not count it. -/
def unwriteDaily (f i : Nat) (s : State) : State :=
  let o := reelOf s f i
  if o.ctx.isSome then modReel f i (fun c => { c with written := c.written - 1 }) s
  else if o.created && !o.dead then fetchReel f i (setReel f i { o with lostOwed := o.lostOwed + 1 } s)
  else s

/-- BOUND_REELS of a dailies changed. -/
def addBound (f d : Nat) (n : Int) (s : State) : State :=
  let o := dailiesOf s f d
  if o.ctx.isSome then modDailies f d (fun c => { c with bound := ((c.bound : Int) + n).toNat }) s
  else if o.created && !o.dead then fetchDailies f d (setDailies f d { o with boundOwed := o.boundOwed + n } s)
  else s

/-! ### Pacing (R50, R51) -/

/-- The fill of a reel (R32). -/
def reelFill (c : ReelCtx) : Nat := (c.tail + 2 ^ c.log2 - c.head) % 2 ^ c.log2

/-- The age timer started, where it runs at all. -/
def startAge (t : BitVec 32) (c : ReelCtx) : ReelCtx :=
  if c.ageLimit = 0 then c else { c with ageRunning := true, ageStart := t }

/-- Pacing after the fill has changed from `old`. -/
def pace (t : BitVec 32) (old : Nat) (c : ReelCtx) : ReelCtx :=
  let n := reelFill c
  if c.eligible then
    let c := if c.aged && c.startFill ≤ n then { c with aged := false } else c
    if (if c.aged then n = 0 else n ≤ c.stopFill) then
      let c := { c with eligible := false, aged := false, ageRunning := false }
      if 0 < n then startAge t c else c
    else c
  else if c.startFill ≤ n then { c with eligible := true, aged := false, ageRunning := false }
  else if n = 0 then { c with ageRunning := false }
  else if old = 0 then startAge t c
  else c

/-- A reel with another HEAD, its pacing following the fill. -/
def moveHead (t : BitVec 32) (head : Nat) (c : ReelCtx) : ReelCtx := pace t (reelFill c) { c with head := head }

/-- Eligibility evaluated afresh (R60). -/
def paceFresh (t : BitVec 32) (c : ReelCtx) : ReelCtx :=
  let c := { c with eligible := decide (c.startFill ≤ reelFill c), aged := false, ageRunning := false }
  if !c.eligible && 0 < reelFill c then startAge t c else c

/-- µs since a 32-bit time stamp. -/
def since32 (s : State) (t : BitVec 32) : Nat := (now32 s - t).toNat

/-! ### Halts (R56, R57) -/

/-- A reel enters HALTED; a reel already HALTED or ABORTED stays as it is. -/
def haltReel (f i : Nat) (st : Status) (s : State) : State :=
  match (reelOf s f i).ctx with
  | some c =>
    if c.state = .halted || c.state = .aborted then s
    else raise 0xA1 (putReel f i { c with state := .halted, haltStatus := st } s)
  | none => s

/-- Whether a request is a daily write to a dailies. -/
def isDailyTo (f d : Nat) (r : Request) : Bool :=
  match r.purpose with
  | .daily t _ e _ => t = f && e = d
  | _ => false

/-- Whether a daily write to a dailies is outstanding. -/
def dailyOut (s : State) (f d : Nat) : Bool := (allRequests s).any (isDailyTo f d)

/-- Show a halt of a dailies once no daily write to it is outstanding (R57) and its context is at hand; one already HALTED keeps its
first status. -/
def settleHalting (f d : Nat) (s : State) : State :=
  let o := dailiesOf s f d
  match o.halting, o.ctx with
  | some st, some c =>
    if dailyOut s f d then s
    else
      let s := setDailies f d { o with halting := none } s
      if c.halted then s else raise 0xA2 (modDailies f d (fun c => { c with halted := true, haltStatus := st }) s)
  | some _, none => fetchDailies f d s
  | none, _ => s

/-- A dailies halts; one already HALTED or halting keeps its first status. -/
def haltDailies (f d : Nat) (st : Status) (s : State) : State :=
  let o := dailiesOf s f d
  if !o.created || o.dead || o.halting.isSome || o.ctx.any (·.halted) then s
  else settleHalting f d (setDailies f d { o with halting := some st } s)

/-- A fetched context that cannot be used (R44). -/
def failCtx (f : Nat) (isDailies : Bool) (i : Nat) (s : State) : State :=
  if isDailies then raise 0xA3 (setDailies f i { DailiesObj.reset with created := true, dead := true } s)
  else raise 0xA1 (raise 0xA3 (setReel f i { ReelObj.reset with created := true, dead := true } s))

/-! ### Credits (R37, R38) -/

/-- Entries of a dailies that software has not returned. -/
def dailiesFill (c : DailiesCtx) : Nat := (c.tail + 2 ^ c.log2 - c.head) % 2 ^ c.log2

/-- Whether a dailies can grant a credit. -/
def canCredit (s : State) (f d : Nat) : Bool :=
  let o := dailiesOf s f d
  match o.ctx with
  | some c => o.created && !o.dead && !c.halted && o.halting.isNone && dailiesFill c + c.credits < 2 ^ c.log2 - 1
  | none => false

/-- Take a credit. -/
def takeCredit (f d : Nat) (s : State) : State := modDailies f d (fun c => { c with credits := c.credits + 1 }) s

/-- Give a credit back. -/
def freeCredit (f d : Nat) (s : State) : State := modDailies f d (fun c => { c with credits := c.credits - 1 }) s

/-! ### Dailies (R36, R39, R53, R57) -/

/-- FLAGS of a daily without PHASE (02 Table 2.5). -/
def dailyFlags (notRun clapper resultValid crcValid retried : Bool) : Nat :=
  flagAt 4 notRun + flagAt 3 clapper + flagAt 2 resultValid + flagAt 1 crcValid + flagAt 0 retried

/-- The content of a daily but for its PHASE. -/
structure Daily where
  /-- SEQ. -/
  seq : Word
  /-- USER_TAG. -/
  tag : Word
  /-- RESULT, 8 bytes. -/
  result : Bytes
  /-- CRC. -/
  crc : BitVec 32
  /-- STATUS. -/
  status : Status
  /-- FLAGS without PHASE. -/
  flags : Nat
deriving DecidableEq, Repr

/-- The 32 bytes of a daily (02 Table 2.4). -/
def Daily.bytes (x : Daily) (phase : Bool) : Bytes :=
  toLe 8 x.seq.toNat ++ toLe 8 x.tag.toNat ++ fit 8 x.result ++ toLe 4 x.crc.toNat ++ toLe 2 x.status.toNat ++
  toLe 2 (x.flags + flagAt 15 phase)

/-- The dailies context after a daily at TAIL: TAIL, PHASE, the credit, PENDING and MOD_START. PENDING is 16 bits wide and the spec does
not say what it does past 0xFFFF: it stays there (log 90). -/
def dailyStep (t : BitVec 32) (c : DailiesCtx) : DailiesCtx :=
  let tail := (c.tail + 1) % 2 ^ c.log2
  { c with
    tail := tail, phase := if tail = 0 then !c.phase else c.phase, credits := c.credits - 1,
    pending := if c.intEn then min 0xFFFF (c.pending + 1) else c.pending,
    modStart := if c.intEn && c.pending = 0 then t else c.modStart }

/-- Whether an aborted reel is done (R64). -/
def abortDone (c : ReelCtx) : Bool := c.state = .aborted && c.abortRemain = 0 && c.inFlight = 0

/-- Write a daily of a reel to its dailies and use up its credit. While the dailies is HALTED the daily is discarded (R57). -/
def writeDaily (f reel d : Nat) (x : Daily) (s : State) : State :=
  let o := dailiesOf s f d
  match o.ctx with
  | some c =>
    if c.halted || o.halting.isSome then freeCredit f d s
    else
      let s := issueWrite (c.base + BitVec.ofNat 64 (32 * c.tail)) (x.bytes c.phase) f attrMetaUnit (.daily f reel d c.intEn) s
      let n := dailyStep (now32 s) c
      let s := putDailies f d n s
      let s := modReel f reel (fun r => { r with written := r.written + 1 }) s
      if n.intEn && n.modCount ≤ n.pending then setDailies f d { dailiesOf s f d with msgDue := true } s else s
  | none => s

/-- PENDING does not count a lost daily; a message due by MOD_COUNT alone is due no longer when PENDING falls below it (R53, R57). -/
def uncountDaily (f d : Nat) (s : State) : State :=
  let o := dailiesOf s f d
  if o.ctx.isSome then
    let s := modDailies f d (fun c => { c with pending := c.pending - 1 }) s
    let o := dailiesOf s f d
    setDailies f d { o with msgDue := o.msgDue && (o.msgTimed || o.ctx.all fun c => c.modCount ≤ c.pending) } s
  else if o.created && !o.dead then fetchDailies f d (setDailies f d { o with lostOwed := o.lostOwed + 1 } s)
  else s

/-- A daily is lost (R57): PENDING does not count it, and the dailies halts. -/
def loseDaily (f reel d : Nat) (counted : Bool) (st : Status) (s : State) : State :=
  let s := if counted then uncountDaily f d s else s
  haltDailies f d st (unwriteDaily f reel s)

end Sys2Proof.Machine
end

