-- ==== Sys2Proof/Machine/Mailbox.lean ====
section
/-! DEFINITION. Doorbells and the REEL_CMD mailbox (02 R46 to R49, R59 to R62). -/

namespace Sys2Proof.Machine

/-! ### Doorbells (R46 to R49) -/

/-- A discarded doorbell (R48). -/
def discardBell (f : Nat) (isDailies : Bool) (reason : Nat) (value : Word) (s : State) : State :=
  raise 0xA0 (modTenant f (fun t => { t with rc := { t.rc with
    dbPresent := true, dbDailies := isDailies, dbReason := BitVec.ofNat 4 reason, dbCount := satInc t.rc.dbCount,
    dbLast := BitVec.ofNat 36 value.toNat } }) s)

/-- A doorbell to an object held under R44: a reserved bit discards it (R47). The spec does not say whether one that is well formed is
applied or discarded, since TAIL and HEAD cannot be used: it has no effect (log 90). -/
def deadBell (f : Nat) (isDailies : Bool) (value : Word) (s : State) : State :=
  if bits 36 28 value ≠ 0 then discardBell f isDailies 6 value s else s

/-- Apply a REEL_DOORBELL whose context is at hand (R47). -/
def reelBell (f : Nat) (value : Word) (s : State) : State :=
  let i := bits 0 20 value
  let pos := bits 20 16 value
  let o := reelOf s f i
  if (tenantOf s f).sheet.reels ≤ i then discardBell f false 1 value s
  else if !o.created then discardBell f false 2 value s
  else match o.ctx with
    | none => deadBell f false value s
    | some c =>
      if c.state = .aborted then discardBell f false 2 value s
      else if 2 ^ c.log2 ≤ pos then discardBell f false 3 value s
      else if bits 36 28 value ≠ 0 then discardBell f false 6 value s
      else if (pos + 2 ^ c.log2 - c.head) % 2 ^ c.log2 < reelFill c then discardBell f false 4 value s
      else putReel f i (pace (now32 s) (reelFill c) { c with tail := pos }) s

/-- Apply a DAILIES_DOORBELL whose context is at hand. -/
def dailiesBell (f : Nat) (value : Word) (s : State) : State :=
  let i := bits 0 20 value
  let pos := bits 20 16 value
  let o := dailiesOf s f i
  if (tenantOf s f).sheet.dailies ≤ i then discardBell f true 1 value s
  else if !o.created then discardBell f true 2 value s
  else match o.ctx with
    | none => deadBell f true value s
    | some c =>
      if 2 ^ c.log2 ≤ pos then discardBell f true 3 value s
      else if bits 36 28 value ≠ 0 then discardBell f true 6 value s
      else if dailiesFill c < (pos + 2 ^ c.log2 - c.head) % 2 ^ c.log2 then discardBell f true 5 value s
      else putDailies f i { c with head := pos } s

/-! ### Commands (R59 to R62) -/

/-- OPCODE of RC_COMMAND. -/
def rcOp (w : Word) : Nat := bits 0 8 w
/-- MODE of RC_COMMAND. -/
def rcMode (w : Word) : Nat := bits 8 4 w
/-- INDEX of RC_COMMAND. -/
def rcIndex (w : Word) : Nat := bits 12 20 w
/-- Whether a command names a dailies. -/
def rcOnDailies (op : Nat) : Bool := op = 1 || op = 4 || op = 7 || op = 0x0A
/-- QUERY_REEL or QUERY_DAILIES. -/
def rcIsQuery (op : Nat) : Bool := op = 9 || op = 0x0A
/-- CREATE_DAILIES or CREATE_REEL. -/
def rcIsCreate (op : Nat) : Bool := op = 1 || op = 2
/-- DESTROY_REEL or DESTROY_DAILIES. -/
def rcIsDestroy (op : Nat) : Bool := op = 3 || op = 4

/-- Whether OPCODE and MODE are defined (Table 2.12). -/
def rcDefined (w : Word) : Bool :=
  match rcOp w with
  | 6 => rcMode w ≤ 2
  | 8 => rcMode w ≤ 1
  | op => 1 ≤ op && op ≤ 0x0A && rcMode w = 0

/-- RESULT of a command; BUSY clears. -/
def rcEnd (f : Nat) (status : Status) (s : State) : State :=
  modTenant f (fun t => { t with rc := { t.rc with busy := false, writing := false, result := status } }) s

/-- DAILIES_INDEX of CREATE_REEL. -/
def createDailiesIndex (arg1 : Word) : Nat := bits 32 20 arg1

/-- The context CREATE_REEL writes (Table 2.1). -/
def newReel (arg0 arg1 arg2 : Word) : ReelCtx :=
  { base := arg0, log2 := bits 0 5 arg1, state := .idle, aged := false, ageRunning := false, eligible := false,
    serial := bit 8 arg1, dailies := createDailiesIndex arg1, head := 0, tail := 0, startFill := bits 0 16 arg2,
    stopFill := bits 16 16 arg2, ageLimit := bits 32 16 arg2, inFlight := 0, haltStatus := 0, abortRemain := 0, lastSeq := 0,
    written := 0, ageStart := 0 }

/-- The context CREATE_DAILIES writes (Table 2.3). -/
def newDailies (arg0 arg1 arg2 arg3 : Word) : DailiesCtx :=
  { base := arg0, log2 := bits 0 5 arg1, halted := false, phase := true, intEn := bit 8 arg1, head := 0, tail := 0,
    credits := 0, bound := 0, msgAddr := arg2, msgData := BitVec.ofNat 32 arg3.toNat, modCount := bits 16 16 arg1,
    modTime := bits 32 16 arg1, pending := 0, haltStatus := 0, modStart := 0 }

/-- Whether two address ranges overlap. -/
def spansMeet (a n b m : Nat) : Bool := 0 < n && 0 < m && a < b + m && b < a + n

/-- Whether a ring of so many bytes overlaps the tenant's context arena (R33). -/
def meetsArena (s : State) (f base n : Nat) : Bool :=
  let t := (tenantOf s f).sheet
  spansMeet base n t.arena.toNat (64 * (t.reels + t.dailies))

/-- Check 5 of Table 2.13: the object's state permits the command (Table 2.14). -/
def rcStateOk (s : State) (f : Nat) (w : Word) : Bool :=
  let i := rcIndex w
  let r := reelOf s f i
  let d := dailiesOf s f i
  match rcOp w with
  | 1 => !d.created
  | 2 => !r.created
  | 3 => r.created && (r.dead || r.ctx.any fun c =>
      c.state ≠ .active && c.inFlight = 0 && c.abortRemain = 0)
  | 4 => d.created && (d.dead || d.ctx.any fun c => c.bound = 0 && c.credits = 0)
  | 5 => r.created && r.ctx.isSome
  | 6 => r.created && r.ctx.any fun c =>
      c.state = .halted || (c.state = .aborted && rcMode w = 0 && c.abortRemain = 0 && c.inFlight = 0)
  | 7 => d.created && d.ctx.any (·.halted)
  | 8 => r.created && r.ctx.any fun c =>
      if rcMode w = 0 then c.state = .idle || c.state = .active || c.state = .paused else c.state = .paused
  | _ => true

/-- The length of the ring a CREATE names. -/
def rcRingLen (w arg1 : Word) : Nat := (if rcOp w = 1 then 32 else 128) * 2 ^ bits 0 5 arg1

/-- Checks 1 to 4 of Table 2.13. -/
def rcEarly (s : State) (f : Nat) (w : Word) : Option Status :=
  let t := tenantOf s f
  let q := rcIsQuery (rcOp w)
  if !q && !serves s.modes.mode then some stModeDenied
  else if !q && t.state ≠ .running then some stTenantPaused
  else if !rcDefined w then some stOpcodeUnknown
  else if (if rcOnDailies (rcOp w) then t.sheet.dailies else t.sheet.reels) ≤ rcIndex w then some stOwnerMismatch
  else none

/-- Whether an address lies within the fabric address width (14 R381): its bits from FAB_ADDR_BITS up are zero. -/
def inFabric (s : State) (a : Word) : Bool := a.toNat < 2 ^ fabWidth s

/-- Checks 5 to 10. Check 9 counts a dailies whose halt is not yet visible (R57) as not OPEN, which the spec leaves open (log 90). -/
def rcLate (s : State) (f : Nat) (w arg0 arg1 arg2 : Word) : Option Status :=
  let k := bits 0 5 arg1
  let n := rcRingLen w arg1
  let di := createDailiesIndex arg1
  let d := dailiesOf s f di
  if rcIsQuery (rcOp w) then none
  else if !rcStateOk s f w then some stModeDenied
  else if !rcIsCreate (rcOp w) then none
  else if !(4 ≤ k && k ≤ 16) || (rcOp w = 1 && bits 16 16 arg1 = 0) ||
      (rcOp w = 2 && !(1 ≤ bits 0 16 arg2 && bits 0 16 arg2 ≤ 2 ^ k - 1 && bits 16 16 arg2 < bits 0 16 arg2)) then
    some stLengthInvalid
  else if arg0.toNat % 4096 ≠ 0 || !inFabric s arg0 || (rcOp w = 1 && arg2.toNat % 4 ≠ 0) ||
      meetsArena s f arg0.toNat n then some stDecodeError
  else if rcOp w = 1 then none
  else if (tenantOf s f).sheet.dailies ≤ di then some stOwnerMismatch
  else match (if d.created && !d.dead && d.halting.isNone then d.ctx else none) with
    | none => some stModeDenied
    | some c =>
      if c.halted then some stModeDenied
      else if spansMeet arg0.toNat n c.base.toNat (32 * 2 ^ c.log2) then some stDecodeError
      else none

/-- RC_RESULT0 and RC_RESULT1 set. -/
def rcResults (f : Nat) (a b : Nat) (s : State) : State :=
  modTenant f (fun t => { t with rc := { t.rc with result0 := BitVec.ofNat 64 a, result1 := BitVec.ofNat 64 b } }) s

/-- The answer for an object held under R44: STATE HALTED and HALT_STATUS DECODE_ERROR; its other fields are open. -/
def queryDead (f : Nat) (s : State) : State :=
  let open' := leNat (fit 16 (Config.unstated s.free 16))
  rcEnd f 0 (bumpFree (rcResults f (4 + (open' % 2 ^ 48) * 2 ^ 16) (stDecodeError.toNat + (open' / 2 ^ 48 % 2 ^ 37) * 2 ^ 16) s))

/-- QUERY_REEL. -/
def queryReel (f i : Nat) (s : State) : State :=
  let o := reelOf s f i
  if o.created && o.dead then queryDead f s
  else match o.ctx with
    | some c => rcEnd f 0 (rcResults f
        (reelCode c.state + c.head * 2 ^ 16 + c.tail * 2 ^ 32 + c.inFlight * 2 ^ 48)
        (c.haltStatus.toNat + c.abortRemain * 2 ^ 16 + c.dailies * 2 ^ 32) s)
    | none => rcEnd f 0 (rcResults f 0 0 s)

/-- QUERY_DAILIES. -/
def queryDailies (f i : Nat) (s : State) : State :=
  let o := dailiesOf s f i
  if o.created && o.dead then queryDead f s
  else match o.ctx with
    | some c => rcEnd f 0 (rcResults f
        (dailiesCode c + flagAt 8 c.phase + c.head * 2 ^ 16 + c.tail * 2 ^ 32 + c.credits * 2 ^ 48)
        (c.haltStatus.toNat + c.bound * 2 ^ 32) s)
    | none => rcEnd f 0 (rcResults f 0 0 s)

/-- The slates of a reel between read and admission, in ring order. -/
def slatesOf (s : State) (f i : Nat) : List Slate := s.slates.filter fun x => x.tenant = f && x.reel = i

/-- Drop a reel's undecided slates and release their credits. -/
def dropSlates (f i : Nat) (s : State) : State :=
  (slatesOf s f i).foldl (fun t x => if x.credit then freeCredit f x.dailies t else t)
    { s with slates := s.slates.filter fun x => !(x.tenant = f && x.reel = i) }

/-- ABORT_REEL (R62): HEAD goes back to the oldest undecided slate, and each such slate keeps its credit. -/
def abortReel (f i : Nat) (s : State) : State :=
  match (reelOf s f i).ctx with
  | none => s
  | some c =>
    if c.state = .aborted then s
    else
      let c := match slatesOf s f i with
        | [] => c
        | x :: _ => moveHead (now32 s) x.index c
      let c := { c with state := .aborted, abortRemain := reelFill c }
      let s := { s with slates := s.slates.map fun x => if x.tenant = f && x.reel = i then
        { x with stage := .owed, bytes := [], ext := [] } else x }
      let s := putReel f i c s
      if abortDone c then raise 0xA4 s else s

/-- RESET_REEL (Table 2.12). -/
def resetReel (f i mode : Nat) (s : State) : State :=
  modReel f i (fun c =>
    let c := match mode with
      | 1 => if c.head = c.tail then c else { c with head := (c.head + 1) % 2 ^ c.log2 }
      | 2 => { c with head := c.tail }
      | _ => c
    paceFresh (now32 s) { c with state := .idle, haltStatus := 0 }) s

/-- PAUSE_REEL (Table 2.12). -/
def pauseReel (f i mode : Nat) (s : State) : State :=
  modReel f i (fun c => if mode = 0 then { c with state := .paused } else paceFresh (now32 s) { c with state := .idle }) s

/-- Start the context write of a CREATE or DESTROY; BUSY until it is answered (check 11). -/
def commandWrite (f : Nat) (isDailies : Bool) (i : Nat) (b : Bytes) (s : State) : State :=
  modTenant f (fun t => { t with rc := { t.rc with writing := true } })
    (writeCtx f isDailies i b (.commandWrite f isDailies i) s)

/-- The context a DESTROY writes: the present one with STATE FREE, zeros where its content cannot be used. -/
def freedBytes (s : State) (f : Nat) (isDailies : Bool) (i : Nat) : Bytes :=
  if isDailies then
    match (dailiesOf s f i).ctx with
    | some c => dailiesBytes 0 c
    | none => withCheck (zeroBytes 60)
  else
    match (reelOf s f i).ctx with
    | some c => reelBytes { c with state := .free }
    | none => withCheck (zeroBytes 60)

/-- The effect of a command that passed its checks. -/
def rcApply (f : Nat) (w arg0 arg1 arg2 arg3 : Word) (s : State) : State :=
  let i := rcIndex w
  match rcOp w with
  | 1 => commandWrite f true i (dailiesBytes 1 (newDailies arg0 arg1 arg2 arg3)) s
  | 2 => commandWrite f false i (reelBytes (newReel arg0 arg1 arg2)) s
  | 3 => commandWrite f false i (freedBytes s f false i) s
  | 4 => commandWrite f true i (freedBytes s f true i) s
  | 5 => rcEnd f 0 (abortReel f i s)
  | 6 => rcEnd f 0 (resetReel f i (rcMode w) s)
  | 7 => rcEnd f 0 (modDailies f i (fun c => { c with halted := false, haltStatus := 0 }) s)
  | 8 => rcEnd f 0 (pauseReel f i (rcMode w) s)
  | 9 => queryReel f i s
  | _ => queryDailies f i s

/-- Run a command that has passed checks 1 to 4 and whose contexts are at hand. -/
def rcRun (f : Nat) (w arg0 arg1 arg2 arg3 : Word) (s : State) : State :=
  match rcLate s f w arg0 arg1 arg2 with
  | some st => rcEnd f st s
  | none => rcApply f w arg0 arg1 arg2 arg3 s

/-- The contexts a command needs, at most one of which is still to be fetched (R59): the object's own, or for CREATE_REEL the named
dailies', where the reel is FREE and has none. -/
def rcNeeds (w arg1 : Word) : List (Bool × Nat) :=
  (rcOnDailies (rcOp w), rcIndex w) :: (if rcOp w = 2 then [(true, createDailiesIndex arg1)] else [])

/-- The contexts a waiting doorbell or command needs. -/
def waitNeeds (s : State) (f : Nat) (x : Waiting) : List (Bool × Nat) :=
  match x with
  | .reelBell v => if bits 0 20 v < (tenantOf s f).sheet.reels then [(false, bits 0 20 v)] else []
  | .dailiesBell v => if bits 0 20 v < (tenantOf s f).sheet.dailies then [(true, bits 0 20 v)] else []
  | .command w _ a1 _ _ => rcNeeds w a1

/-- Whether a context is at hand. -/
def ctxReady (s : State) (f : Nat) (n : Bool × Nat) : Bool := if n.1 then dailiesReady s f n.2 else reelReady s f n.2

/-- Start the fetch of a context. -/
def fetchCtx (f : Nat) (n : Bool × Nat) (s : State) : State := if n.1 then fetchDailies f n.2 s else fetchReel f n.2 s

/-- Apply a doorbell or run a command. -/
def waitApply (f : Nat) (x : Waiting) (s : State) : State :=
  match x with
  | .reelBell v => reelBell f v s
  | .dailiesBell v => dailiesBell f v s
  | .command w a b c d => rcRun f w a b c d s

/-- Take a tenant's doorbells and commands in arrival order, until one needs a context that is not at hand or awaits the
context write of the command before it (R46). -/
def drainList (f : Nat) : List Waiting → State → State
  | [], s => modTenant f (fun t => { t with waiting := [] }) s
  | x :: xs, s =>
    if (tenantOf s f).rc.writing then modTenant f (fun t => { t with waiting := x :: xs }) s
    else if (waitNeeds s f x).all (ctxReady s f) then
      drainList f xs (waitApply f x ((waitNeeds s f x).foldl (fun t n => useCtx f n t) s))
    else (waitNeeds s f x).foldl (fun t n => fetchCtx f n t) (modTenant f (fun t => { t with waiting := x :: xs }) s)

/-- Take what waits. -/
def drainWaiting (f : Nat) (s : State) : State := drainList f (tenantOf s f).waiting s

/-- Queue a doorbell or command behind those of the tenant that wait, and take what can go. -/
def enqueue (f : Nat) (x : Waiting) (s : State) : State :=
  drainWaiting f (modTenant f (fun t => { t with waiting := t.waiting ++ [x] }) s)

/-- A 64-bit write of RC_COMMAND. Checks 1 to 4 look at no context and are made at once; a command that passed them and waits for a
context completes whatever happens to the mode or the tenant meanwhile (Table 2.15). -/
def rcWrite (f : Nat) (w : Word) (s : State) : State :=
  let t := tenantOf s f
  if t.rc.busy then setTenant f { t with rc := { t.rc with lost := true } } s
  else
    let w := w &&& 0xFFFFFFFF
    let s := setTenant f { t with rc := { t.rc with busy := true, command := w } } s
    match rcEarly s f w with
    | some st => rcEnd f st s
    | none => enqueue f (.command w t.rc.arg0 t.rc.arg1 t.rc.arg2 t.rc.arg3) s

/-- The dailies a destroyed reel was bound to, from the context its DESTROY wrote; none where the reel was held under R44, whose
DAILIES_INDEX cannot be used: BOUND_REELS of its dailies then keeps it, which the spec leaves open (log 90). -/
def boundOf (data : Bytes) : Option Nat := if byteAt 8 data = 0 then none else some (field 0x0C 4 data)

/-- The context write of a CREATE or DESTROY has been acknowledged, or has failed (check 11). -/
def commandDone (f : Nat) (isDailies : Bool) (i : Nat) (data : Bytes) (ok : Bool) (s : State) : State :=
  let create := rcIsCreate (rcOp (tenantOf s f).rc.command)
  let s :=
    if !ok then s
    else if isDailies then
      (if create then
        match dailiesOfBytes data with
        | some c => cacheDailies f i c (setDailies f i { DailiesObj.reset with created := true } s)
        | none => s
      else setDailies f i DailiesObj.reset s)
    else
      (if create then
        match reelOfBytes data with
        | some c =>
          addBound f c.dailies 1 (cacheReel f i c (setReel f i { ReelObj.reset with created := true } s))
        | none => s
      else
        let s := setReel f i ReelObj.reset (dropSlates f i s)
        match boundOf data with
        | some d => addBound f d (-1) s
        | none => s)
  drainWaiting f (rcEnd f (if ok then 0 else stBusError) s)

/-- RC_COMMAND of an opcode, a mode and an index. -/
def rcWord (op mode : Nat) (index : BitVec 20) : Word := BitVec.ofNat 64 (op + mode * 256 + index.toNat * 4096)

/-- A REEL_CMD command at the tenant's window. -/
def reelCommand (tenant : Func) (op mode : Nat) (index : BitVec 20) (s : State) : Outcome :=
  .next (tenantWrite tenant 0x0200 (rcWord op mode index) (rcWrite tenant.toNat (rcWord op mode index)) s)

/-- REEL_DOORBELL. -/
def execReelDoorbell (tenant : Func) (value : Word) (s : State) : Outcome :=
  .next (tenantWrite tenant 0x0100 value (enqueue tenant.toNat (.reelBell value)) s)
/-- DAILIES_DOORBELL. -/
def execDailiesDoorbell (tenant : Func) (value : Word) (s : State) : Outcome :=
  .next (tenantWrite tenant 0x0108 value (enqueue tenant.toNat (.dailiesBell value)) s)
/-- CREATE_DAILIES. -/
def execCreateDailies (tenant : Func) (index : BitVec 20) (s : State) : Outcome := reelCommand tenant 1 0 index s
/-- CREATE_REEL. -/
def execCreateReel (tenant : Func) (index : BitVec 20) (s : State) : Outcome := reelCommand tenant 2 0 index s
/-- DESTROY_REEL. -/
def execDestroyReel (tenant : Func) (index : BitVec 20) (s : State) : Outcome := reelCommand tenant 3 0 index s
/-- DESTROY_DAILIES. -/
def execDestroyDailies (tenant : Func) (index : BitVec 20) (s : State) : Outcome := reelCommand tenant 4 0 index s
/-- ABORT_REEL. -/
def execAbortReel (tenant : Func) (index : BitVec 20) (s : State) : Outcome := reelCommand tenant 5 0 index s
/-- RESET_REEL_RESUME. -/
def execResetReelResume (tenant : Func) (index : BitVec 20) (s : State) : Outcome := reelCommand tenant 6 0 index s
/-- RESET_REEL_SKIP. -/
def execResetReelSkip (tenant : Func) (index : BitVec 20) (s : State) : Outcome := reelCommand tenant 6 1 index s
/-- RESET_REEL_DISCARD. -/
def execResetReelDiscard (tenant : Func) (index : BitVec 20) (s : State) : Outcome := reelCommand tenant 6 2 index s
/-- RESET_DAILIES. -/
def execResetDailies (tenant : Func) (index : BitVec 20) (s : State) : Outcome := reelCommand tenant 7 0 index s
/-- PAUSE_REEL. -/
def execPauseReel (tenant : Func) (index : BitVec 20) (s : State) : Outcome := reelCommand tenant 8 0 index s
/-- PAUSE_REEL_RESUME. -/
def execPauseReelResume (tenant : Func) (index : BitVec 20) (s : State) : Outcome := reelCommand tenant 8 1 index s
/-- QUERY_REEL. -/
def execQueryReel (tenant : Func) (index : BitVec 20) (s : State) : Outcome := reelCommand tenant 9 0 index s
/-- QUERY_DAILIES. -/
def execQueryDailies (tenant : Func) (index : BitVec 20) (s : State) : Outcome := reelCommand tenant 0x0A 0 index s

/-! ### Messages (R53, R459) -/

/-- The message of a dailies: PENDING goes to 0. -/
def sendMessage (f d : Nat) (c : DailiesCtx) (s : State) : State :=
  let s := setDailies f d { dailiesOf s f d with msgDue := false, msgTimed := false, msgSince := none } s
  let s := putDailies f d { c with pending := 0 } s
  issueWrite c.msgAddr (toLe 4 c.msgData.toNat) f attrMsgUnit (.dailiesMessage f d) s

/-- A message that has waited on a domain which is awake again is issued (R459). -/
def wakeMessage (k : Nat) (s : State) : State :=
  let f := k / 2 ^ 20
  let d := k % 2 ^ 20
  let o := dailiesOf s f d
  match o.ctx with
  | some c => if o.msgDue && o.msgSince.isSome && !asleep s c.msgAddr && 0 < c.pending && !dailyOut s f d then sendMessage f d c s else s
  | none => s

/-- The messages of every dailies that waited on a domain which is awake again. -/
def wakeMessages (s : State) : State := (s.dailies.map Prod.fst).foldl (fun t k => wakeMessage k t) s

/-- Whether a message waits on a sleeping domain, before its issue or its reissue: a drain waits for it (R459). -/
def messageWaits (s : State) : Bool :=
  s.dailies.any (fun p => p.2.msgSince.isSome) ||
  s.fabric.held.any fun h => match h.req.purpose with
    | .dailiesMessage _ _ => asleep s h.req.addr
    | _ => false

/-! ### Timers and the cache -/

/-- The modes in which contexts are kept and served from the cache. -/
def keepsContexts (m : Mode) : Bool := pairs m

/-- CONTEXT_FETCH_COMPLETION (R44): the fetched context is checked and taken into the cache. -/
def execContextFetchCompletion (tenant : Func) (isDailies : Bool) (index : BitVec 20) (s : State) : Outcome :=
  let f := tenant.toNat
  let i := index.toNat
  if isDailies then
    let o := dailiesOf s f i
    match o.arrived with
    | none => .next s
    | some b =>
      let s := setDailies f i { o with arrived := none, fetching := false } s
      if o.ctx.isSome then .next s
      else match dailiesOfBytes b with
      | some c => .next (drainWaiting f (settleHalting f i (cacheDailies f i c s)))
      | none => .next (drainWaiting f (failCtx f true i s))
  else
    let o := reelOf s f i
    match o.arrived with
    | none => .next s
    | some b =>
      let s := setReel f i { o with arrived := none, fetching := false } s
      if o.ctx.isSome then .next s
      else match reelOfBytes b with
      | some c => .next (drainWaiting f (cacheReel f i c s))
      | none => .next (drainWaiting f (failCtx f false i s))

/-- CONTEXT_WRITEBACK_TIMER (R43): 1 ms after the entry first changed since its last write-back. -/
def execContextWritebackTimer (tenant : Func) (isDailies : Bool) (index : BitVec 20) (s : State) : Outcome :=
  let changed := if isDailies then (dailiesOf s tenant.toNat index.toNat).changed else (reelOf s tenant.toNat index.toNat).changed
  match changed with
  | some t => .next (if keepsContexts s.modes.mode && t + 1000 ≤ now s then writeBack tenant.toNat isDailies index.toNat s else s)
  | none => .next s

/-- AGE_TIMER_EXPIRY (R50, R51): between AGE_LIMIT and AGE_LIMIT + 1 µs after the timer started. While the tenant is PAUSED it waits:
only a doorbell's context write may go out then (10 R289). -/
def execAgeTimerExpiry (tenant : Func) (reel : BitVec 20) (s : State) : Outcome :=
  let f := tenant.toNat
  match (reelOf s f reel.toNat).ctx with
  | none => .next (if keepsContexts s.modes.mode && (tenantOf s f).state ≠ .paused then fetchReel f reel.toNat s else s)
  | some c =>
    if keepsContexts s.modes.mode && (tenantOf s f).state ≠ .paused && c.ageRunning && c.ageLimit ≤ since32 s c.ageStart && 0 < reelFill c then
      .next (putReel f reel.toNat { c with eligible := true, aged := true, ageRunning := false } s)
    else .next s

end Sys2Proof.Machine
end

