-- ==== Sys2Proof/Machine/Sched.lean ====
section
/-! DEFINITION. The scheduler: rounds of weighted deficit round robin, slate reads, and the token buckets (10 R285, R286). -/

namespace Sys2Proof.Machine

/-! ### Which reels are servable and which tenants are ready -/

/-- Whether a ring of so many bytes lies in a sleeping memory domain (02 R58). The spec does not say what a ring that spans several domains
does: it is not served while any of them sleeps (log 90). -/
def ringAsleep (s : State) (base : Word) (n : Nat) : Bool :=
  (List.range (ceilDiv n 4096)).any fun p => asleep s (base + BitVec.ofNat 64 (4096 * p))

/-- Whether a DESTROY_REEL of the reel awaits its context write. -/
def destroying (s : State) (f i : Nat) : Bool :=
  let b := (tenantOf s f).rc
  b.writing && rcOp b.command = 3 && rcIndex b.command = i

/-- Whether a reel has no take in flight and no slate read in progress, as SERIAL asks. -/
def serialFree (s : State) (f i : Nat) (c : ReelCtx) : Bool :=
  !c.serial || (c.inFlight = 0 && (slatesOf s f i).isEmpty)

/-- Whether a reel's own state lets it be served: IDLE or ACTIVE, with ELIGIBLE set. -/
def wantsService (s : State) (f i : Nat) (c : ReelCtx) : Bool :=
  (c.state = .idle || c.state = .active) && c.eligible && 0 < reelFill c && !destroying s f i

/-- Whether a reel is servable (R285). -/
def servable (s : State) (f i : Nat) : Bool :=
  let o := reelOf s f i
  match o.ctx with
  | some c => o.created && !o.dead && wantsService s f i c && canCredit s f c.dailies &&
      !ringAsleep s c.base (128 * 2 ^ c.log2) && serialFree s f i c
  | none => false

/-- The tenant-local indices of a tenant's reels, in increasing order. -/
def reelsOf (s : State) (f : Nat) : List Nat :=
  (s.reels.filter fun p => p.1 / 2 ^ 20 = f).map fun p => p.1 % 2 ^ 20

/-- A list turned to begin at the first entry at or above a point. -/
def rotated (point : Nat) (l : List Nat) : List Nat := (l.filter (point ≤ ·)) ++ l.filter (· < point)

/-- The reel a tenant's rotation serves next. -/
def nextReel (s : State) (f : Nat) : Option Nat := (rotated (tenantOf s f).rotation (reelsOf s f)).find? (servable s f)

/-- Whether each bucket with a rate is above zero. -/
def bucketsOpen (t : Tenant) : Bool :=
  (t.round.takeRate = 0 || 0 < t.takeLevel) && (t.round.byteRate = 0 || 0 < t.byteLevel) && (t.round.pkRate = 0 || 0 < t.pkLevel)

/-- Whether the scheduler issues slate reads at all: a serving mode, no transition pending (12 R328), no fault of 16 R443, and
not as junior while the pair synchronises (11 R311). -/
def readsOn (s : State) : Bool :=
  serves s.modes.mode && s.modes.pending.isNone && !s.modes.readsStopped && !(s.twin.link = .sync && s.twin.role = .junior)

/-- Whether a tenant is ready (R285). -/
def tenantReady (s : State) (f : Nat) : Bool :=
  (tenantOf s f).state = .running && (nextReel s f).isSome && bucketsOpen (tenantOf s f) && anyGrant s 0 f

/-! ### Rounds -/

/-- The take token of a slate read. -/
def chargeTake (f : Nat) (s : State) : State :=
  modTenant f (fun t => if t.round.takeRate = 0 then t else { t with takeLevel := t.takeLevel - 65536 }) s

/-- Hold a sequencer for a tenant and read the slate at a reel's HEAD: the credit is taken and HEAD advances. -/
def readSlate (f i seq : Nat) (c : ReelCtx) (s : State) : State :=
  let id := s.sched.nextId
  let addr := c.base + BitVec.ofNat 64 (128 * c.head)
  let s := takeCredit f c.dailies (chargeTake f (bumpId s))
  let s := putReel f i (pace (now32 s) (reelFill c) { c with head := (c.head + 1) % 2 ^ c.log2 }) s
  let s := { s with slates := s.slates ++
    [{ id := id, tenant := f, reel := i, dailies := c.dailies, index := c.head, seq := seq, credit := true, stage := .reading, bytes := [], ext := [] }] }
  issueRead (addr + 64) 64 f attrMeta (.slateRead id 64) (issueRead addr 64 f attrMeta (.slateRead id 0) s)

/-- Serve one slate of a ready tenant on a sequencer: its rotation passes the reel and its deficit falls by one. -/
def serveOne (f seq : Nat) (s : State) : State :=
  match nextReel s f with
  | none => s
  | some i =>
    match (reelOf s f i).ctx with
    | none => s
    | some c => readSlate f i seq c (modTenant f (fun t => { t with rotation := (i + 1) % 2 ^ 20, deficit := t.deficit - 1 }) s)

/-- The inner loop of a round: serve a tenant while its deficit lasts and it is ready; a sequencer that is not idle and healthy
is passed over. -/
def serveTenant (f : Nat) : List Nat → State → List Nat × State
  | [], s => ([], s)
  | q :: qs, s =>
    if (tenantOf s f).deficit = 0 || !tenantReady s f then (q :: qs, s)
    else if mayGrant s 0 f q then serveTenant f qs (serveOne f q s)
    else serveTenant f qs s

/-- Fetch the contexts a tenant's service needs: reels that were eligible when evicted, and the dailies of eligible reels. -/
def fetchForService (f : Nat) (s : State) : State :=
  (reelsOf s f).foldl (fun t i =>
    let o := reelOf t f i
    match o.ctx with
    | none => if o.wanted then fetchReel f i t else t
    | some c => if wantsService t f i c then fetchDailies f c.dailies t else t) s

/-- A tenant without a servable reel loses its deficit. -/
def settleDeficit (f : Nat) (s : State) : State :=
  if (nextReel s f).isSome then s else modTenant f (fun t => { t with deficit := 0 }) s

/-- Visit the tenants of a round in turn; it ends when the sequencers given are used up. Whether a first tenant has been
visited comes with it: the rotation point moves to the function after that one. -/
def visit : List Nat → Bool → List Nat → State → State
  | [], _, _, s => s
  | f :: fs, first, qs, s =>
    let s := fetchForService f s
    if !tenantReady s f then visit fs first qs (settleDeficit f s)
    else if qs.isEmpty then s
    else
      let s := modTenant f (fun t => { t with deficit := min 255 (t.deficit + t.round.weight) }) s
      let r := serveTenant f qs s
      let s := settleDeficit f r.2
      let s := if first then { s with sched := { s.sched with rotation := (f + 1) % tenantCount s } } else s
      visit fs false r.1 s

/-- WEIGHT, the sequencer shares and the bucket rates of every tenant, read as the round begins (R285, R287). -/
def readShares (s : State) : State :=
  (liveTenants s).foldl (fun t f => modTenant f (fun x => { x with round := x.sheet.shares }) t) s

/-- SCHEDULER_ROUND (R285). -/
def execSchedulerRound (seqs : List Nat) (s : State) : Outcome :=
  let s := readShares s
  .next (if readsOn s then visit (rotated s.sched.rotation (liveTenants s)) true seqs s else s)

/-! ### Buckets -/

/-- A level after one refill: RATE / 1,000,000 in 1/65,536, capped at BURST; a bucket without a rate stays at its BURST. -/
def refilled (rate burst : Nat) (level : Int) : Int :=
  if rate = 0 then (burst * 65536 : Nat) else min (burst * 65536 : Nat) (level + (rate * 65536 / 1000000 : Nat))

/-- The three buckets of a tenant after one refill. -/
def refillTenant (t : Tenant) : Tenant :=
  { t with takeLevel := refilled t.round.takeRate t.sheet.takeBurst t.takeLevel,
           byteLevel := refilled t.round.byteRate t.sheet.byteBurst t.byteLevel,
           pkLevel := refilled t.round.pkRate t.sheet.pkBurst t.pkLevel }

/-- BUCKET_REFILL (R286): one refill for each µs that has passed; in DROWSE the refill is suspended (12 R342). -/
def execBucketRefill (s : State) : Outcome :=
  if s.modes.mode ≠ .drowse && s.sched.refillAt < now s then
    .next ((liveTenants s).foldl (fun t f => modTenant f refillTenant t)
      { s with sched := { s.sched with refillAt := s.sched.refillAt + 1 } })
  else .next s

end Sys2Proof.Machine
end

