-- ==== Sys2Proof/Machine/Slates.lean ====
section
/-! DEFINITION. Slates: the checks of admission in the order of 01 Table 1.3, refusals, and the halts of a reel whose slate or
extended program could not be read (02 R56, 03 R66 to R105). -/

namespace Sys2Proof.Machine

/-! ### The slate (03 Tables 3.1, 3.2) -/

/-- The bytes a list of bursts brought, in order of position. -/
def joined (m : Map Bytes) : Bytes := m.flatMap Prod.snd

/-- SEQ. -/
def slateSeq (b : Bytes) : Word := BitVec.ofNat 64 (field 0 8 b)
/-- USER_TAG. -/
def slateTag (b : Bytes) : Word := BitVec.ofNat 64 (field 8 8 b)
/-- EXT_ADDR. -/
def slateExtAddr (b : Bytes) : Nat := field 0x10 8 b
/-- EXT_COUNT. -/
def slateExtCount (b : Bytes) : Nat := field 0x18 2 b
/-- INLINE_COUNT. -/
def slateInline (b : Bytes) : Nat := byteAt 0x1A b
/-- FLAGS. -/
def slateFlags (b : Bytes) : Nat := byteAt 0x1B b
/-- CLAPPER. -/
def slateClapper (b : Bytes) : Bool := slateFlags b % 2 = 1
/-- CRC. -/
def slateCrc (b : Bytes) : Bool := slateFlags b / 2 % 2 = 1

/-- The header rules of Table 3.1. -/
def headerOk (b : Bytes) : Bool :=
  slateExtAddr b % 16 = 0 && (slateExtCount b ≠ 0 || slateExtAddr b = 0) && slateExtCount b ≤ 256 && slateInline b ≤ 6 &&
  slateFlags b < 4 && byteAt 0x1C b = 1 && allZero (slice 0x1D 3 b)

/-- Whether the scheduler reads an extended program for the slate (R69): EXT_COUNT and EXT_ADDR are checked at admission. -/
def wantsExt (b : Bytes) : Bool := 1 ≤ slateExtCount b

/-- The program: the inline codes, then the extended ones (R67). -/
def programOf (b ext : Bytes) : List Bytes :=
  ((List.range (min 6 (slateInline b))).map fun i => slice (0x20 + 16 * i) 16 b) ++
  (List.range (slateExtCount b)).map fun i => slice (16 * i) 16 ext

/-! ### Row 3: the form of a program -/

/-- The layout of a code (Tables 3.4, 3.5). -/
def codeFormOk (crc : Bool) (c : Bytes) : Bool :=
  let z := fun off n => allZero (slice off n c)
  let host := codeHost c
  match codeOpcode c with
  | 0x01 => codeCtrl c < 128 && moveSwap c ≤ 4 && z 5 1 && (moveDir c ≠ 2 || host < 2 ^ 16)
  | 0x02 => codeCtrl c < 32 && 1 ≤ moviSize c && moviSize c ≤ 8 && z 4 4
  | 0x03 => z 1 1 && z 6 10 && 1 ≤ loopBody c
  | 0x04 => z 1 15
  | 0x05 => codeCtrl c < 2 && (if codeCtrl c = 0 then z 2 2 && host % 4 = 0 else z 4 4 && host % 8 = 0)
  | 0x06 => ctrlBits c 6 2 = 0 && ctrlBits c 2 2 = 0 && keySource c ≠ 3 && z 6 2 && z 0x0C 4 &&
      (if keySource c = 0 then z 2 2 && z 4 2 && field 8 4 c < 2 ^ 17
       else z 8 4 && 1 ≤ keyBlobLen c && keyBlobLen c ≤ 0x8000)
  | 0x07 => codeCtrl c < 8 && opSteer c ≠ 3 && z 5 1 && z 0x0D 1 && (opSpec c).all (·.steerOk)
  | 0x08 => codeCtrl c < 64 && checkKind c ≤ 5 && (checkKind c = 0 || z 4 2) && (checkKind c ≤ 1 || z 6 2) &&
      (3 ≤ checkKind c || z 8 8)
  | 0x09 => codeCtrl c < 4 && skipCond c ≠ 3 && z 4 12
  | 0x0A => codeCtrl c < 8 && endResult c ≠ 3 && (endResult c = 1 || z 2 2) && z 4 4 &&
      (if endStores c then crc && host % 4 = 0 else z 8 8)
  | _ => true

/-- The loops of a program: the index of each LOOP and of its body's last code. -/
def loopsOf (p : List Bytes) : List (Nat × Nat) :=
  (p.zipIdx.filter fun c => codeOpcode c.1 = 3).map fun c => (c.2, c.2 + loopBody c.1)

/-- The loops whose body contains a code. -/
def enclosing (p : List Bytes) (i : Nat) : List (Nat × Nat) := (loopsOf p).filter fun l => l.1 < i && i ≤ l.2

/-- The innermost loop whose body contains a code. -/
def bodyOf (p : List Bytes) (i : Nat) : Option (Nat × Nat) := (enclosing p i).getLast?

/-- The rules of R82 for every LOOP. -/
def loopsOk (p : List Bytes) : Bool :=
  (loopsOf p).all fun l =>
    l.2 < p.length && (enclosing p l.1).length ≤ 1 && (enclosing p l.1).all (fun o => l.2 ≤ o.2) &&
    ((loopsOf p).filter fun m => l.1 < m.1 && m.1 ≤ l.2).length ≤ 1

/-- The target of a SKIP at an index. -/
def skipTarget (i : Nat) (c : Bytes) : Int := i + 1 + skipOffset c

/-- The rules of R98 for a SKIP. -/
def skipOk (p : List Bytes) (i : Nat) (c : Bytes) : Bool :=
  let t := skipTarget i c
  0 ≤ t && t < p.length &&
  (bodyOf p t.toNat = bodyOf p i || (bodyOf p i).any fun l => t = l.2 + 1)

/-- The SKIPs of a program with their indices. -/
def skipsOf (p : List Bytes) : List (Bytes × Nat) := p.zipIdx.filter fun c => codeOpcode c.1 = 9

/-- Row 3: the header, every code, and the shape of the program. -/
def formOk (b : Bytes) (p : List Bytes) : Bool :=
  headerOk b && 1 ≤ p.length && p.length ≤ 262 && (p.getLast?.any fun c => codeOpcode c = 0x0A) &&
  p.all (codeFormOk (slateCrc b)) && loopsOk p && (skipsOf p).all fun c => skipOk p c.2 c.1

/-! ### Rows 4 to 7 -/

/-- Row 4: the opcode, and the operation code of an OP, are known. -/
def codeKnown (c : Bytes) : Bool :=
  1 ≤ codeOpcode c && codeOpcode c ≤ 0x0A && (codeOpcode c ≠ 7 || (opSpec c).isSome)

/-- Row 5: the length of an OP, and of a MOVE under its swap mode. -/
def codeLenOk (c : Bytes) : Bool :=
  match codeOpcode c with
  | 0x01 => moveLen c % swapUnit (moveSwap c) = 0
  | 0x07 => (opSpec c).all (·.lengthOk)
  | _ => true

/-- Row 6: the hold limit. -/
def codeHoldOk (c : Bytes) : Bool := codeOpcode c ≠ 7 || (opSpec c).all (·.holdOk)

/-- Whether a range lies within the stage area; an empty one is not checked (R74). -/
def inStage (off n : Nat) : Bool := n = 0 || off + n ≤ 0x8000

/-- The stage ranges of a code with iteration index j. -/
def codeRanges (j : Nat) (c : Bytes) : List (Nat × Nat) :=
  match codeOpcode c with
  | 0x01 =>
    let n := moveLen c
    let st := moveStage c + (if ctrlBits c 6 1 = 1 then n * j else 0)
    let src := codeHost c + (if ctrlBits c 5 1 = 1 then n * j else 0)
    if n = 0 then []
    else match moveDir c with
      | 0 | 1 => [(st, n)]
      | 2 => [(st, n), (src, n)]
      | _ => [(st, 8)]
  | 0x02 => [(codeStage c + (if ctrlBits c 4 1 = 1 then moviSize c * j else 0), moviSize c)]
  | 0x05 => if codeCtrl c = 1 then [(codeStage c, 8)] else []
  | 0x06 => if keySource c = 0 then [] else [(codeStage c, keyBlobLen c)]
  | 0x07 => match opSpec c with
    | some o => [(opSrc c, o.src), (opDst c, o.dst), (opParam c, o.param)]
    | none => []
  | 0x08 => match checkKind c with
    | 0 => [(codeStage c, checkLen c), (checkB c, checkLen c)]
    | 1 => [(codeStage c, checkLen c)]
    | 2 => []
    | _ => [(codeStage c, 8)]
  | 0x0A => if endResult c = 1 then [(codeStage c, 8)] else []
  | _ => []

/-- Row 7: every range with j = 0. -/
def codeRangesOk (j : Nat) (c : Bytes) : Bool := (codeRanges j c).all fun r => inStage r.1 r.2

/-! ### Row 8: resident keys (R90) -/

/-- The key a resident slot holds. -/
def slotKey (s : State) (i : Nat) : KeyMat :=
  let x := slotOf s i
  { cls := x.cls, usage := x.usage, derived := x.derived, hash := x.hash, material := groupMaterial s i,
    companion := x.companion }

/-- The KEY code an OP's position is paired with: the closest before it that binds that position. -/
def pairedKey (p : List Bytes) (i pos : Nat) : Option Nat :=
  ((p.take i).zipIdx.filter fun c => codeOpcode c.1 = 6 && keyPos c.1 = pos).getLast?.map Prod.snd

/-- The needs of the OPs paired with the KEY code at an index. -/
def pairedNeeds (p : List Bytes) (k : Nat) : List KeyNeed :=
  (p.zipIdx.filter fun c => codeOpcode c.1 = 7).flatMap fun c =>
    match opSpec c.1 with
    | some o => o.keys.filter fun n => pairedKey p c.2 (opKeyPos c.1 n.pos) = some k
    | none => []

/-- The checks of row 8 on one slot. -/
def slotCheck (s : State) (f slot : Nat) (needs : List KeyNeed) : Option Status :=
  let x := slotOf s slot
  if slotCount s ≤ slot || x.state ≠ .active || x.cont then some stSlotEmpty
  else if x.owner ≠ f then some stOwnerMismatch
  else if needs.all fun n => n.early (slotKey s slot) then none
  else some stUsageDenied

/-- Row 8: the KEY codes of the program in order. -/
def keysCheck (s : State) (f : Nat) (p : List Bytes) : Option Status :=
  (p.zipIdx.filter fun c => codeOpcode c.1 = 6 && keySource c.1 = 0).findSome? fun c =>
    slotCheck s f (keySlot c.1) (pairedNeeds p c.2)

/-! ### Row 9: the budget (R84) -/

/-- How often the static count takes a code: the product of the counts of the loops around it. -/
def timesOf (p : List Bytes) (i : Nat) : Nat :=
  (enclosing p i).foldl (fun a l => a * loopCount (p.getD l.1 [])) 1

/-- The static count. -/
def staticCount (p : List Bytes) : Nat := (List.range p.length).foldl (fun a i => a + timesOf p i) 0

/-- Whether the program has a SKIP whose target is at or before its own position. -/
def hasBackward (p : List Bytes) : Bool := (skipsOf p).any fun c => skipTarget c.2 c.1 ≤ c.2

/-! ### Admission -/

/-- Whether the mode permits takes; a pending drain counts as a mode without reel service (12 R328). -/
def admits (s : State) : Bool := serves s.modes.mode && s.modes.pending.isNone

/-- The first failing check of 01 Table 1.3. -/
def admissionCheck (s : State) (f : Nat) (b : Bytes) (p : List Bytes) : Option Status :=
  if !admits s then some stModeDenied
  else if (tenantOf s f).state ≠ .running then some stTenantPaused
  else if !formOk b p then some stSlateMalformed
  else if !p.all codeKnown then some stOpcodeUnknown
  else if !p.all codeLenOk then some stLengthInvalid
  else if !p.all codeHoldOk then some stHoldExceeded
  else if !p.all (codeRangesOk 0) then some stStageRange
  else match keysCheck s f p with
    | some st => some st
    | none => if !hasBackward p && (tenantOf s f).sheet.budget < staticCount p then some stBudgetExceeded else none

/-- The daily of a slate whose codes did not run. -/
def notRunDaily (seq tag : Word) (clapper : Bool) (result : Bytes) (st : Status) : Daily :=
  { seq := seq, tag := tag, result := result, crc := 0, status := st, flags := dailyFlags true clapper false false false }

/-- The daily of a refused slate; its credit is used up. -/
def refuseSlate (x : Slate) (b : Bytes) (st : Status) (s : State) : State :=
  writeDaily x.tenant x.reel x.dailies (notRunDaily (slateSeq b) (slateTag b) (slateClapper b) (zeroBytes 8) st) (dropSlate x.id s)

/-- The take of an admitted slate (R107 for its initial state). -/
def newTake (x : Slate) (b : Bytes) (p : List Bytes) (seq : Nat) : Take :=
  { id := x.id, tenant := x.tenant, reel := x.reel, dailies := x.dailies, index := x.index, seqNo := slateSeq b,
    userTag := slateTag b, clapper := slateClapper b, crcFlag := slateCrc b, program := p, seq := some seq, pc := 0, stage := [],
    keys := [none, none, none, none], loops := [], flag := false, count := 0, crc := 0xFFFFFFFF, result := none, lastOk := false,
    phase := .ready, todo := [], buffer := [], reads := 0, writes := 0, parked := none, op := none, used := [], record := [], cursor := 0,
    runs := 1, ending := false, dailySince := none, fenceSeq := false }

/-- Admit a slate: dispatch it and count it in flight. -/
def admitSlate (x : Slate) (b : Bytes) (p : List Bytes) (seq : Nat) (s : State) : State :=
  let s := dropSlate x.id s
  modReel x.tenant x.reel (fun c => { c with inFlight := c.inFlight + 1 }) { s with takes := s.takes ++ [newTake x b p seq] }

/-- The sequencer a slate is dispatched to: the one held for it, or another of the share where that one has been fenced. -/
def dispatchSeq (s : State) (x : Slate) : Option Nat :=
  if healthy s 0 x.seq then some x.seq else (List.range (seqCount s)).find? (mayGrant s 0 x.tenant)

/-- Decide a slate whose bytes and program are at hand. The dispatch stalls while its sequencer's island is without power (01 R11). -/
def decideSlate (x : Slate) (s : State) : State :=
  let b := joined x.bytes
  let p := programOf b (joined x.ext)
  match admissionCheck s x.tenant b p with
  | some st => refuseSlate x b st s
  | none => match dispatchSeq s x with
    | some q => if unitReady s 0 q then admitSlate x b p q (touchIsland 0 q s) else touchIsland 0 q s
    | none => s

/-- A reel's slates from one on are dropped and their credits released. -/
def dropFrom (f i id : Nat) (s : State) : State :=
  let gone := (slatesOf s f i).dropWhile (·.id ≠ id)
  gone.foldl (fun t x => (if x.credit then freeCredit f x.dailies else fun t => t) (dropSlate x.id t)) s

/-- A slate read has failed (02 R56): HEAD goes back to its index, it and the later slates of the reel are discarded, and the
reel halts. -/
def failSlate (x : Slate) (st : Status) (s : State) : State :=
  let s := dropFrom x.tenant x.reel x.id s
  haltReel x.tenant x.reel st (modReel x.tenant x.reel (moveHead (now32 s) x.index) s)

/-- An extended-program read has failed (02 R56): the slate gets a NOT_RUN daily, HEAD goes to the index after it, the later
slates are discarded, and the reel halts. -/
def failExt (x : Slate) (st : Status) (s : State) : State :=
  let b := joined x.bytes
  let later := ((slatesOf s x.tenant x.reel).dropWhile (·.id ≠ x.id)).drop 1
  let s := match later with
    | [] => s
    | y :: _ => dropFrom x.tenant x.reel y.id s
  let s := modReel x.tenant x.reel (fun c => moveHead (now32 s) ((x.index + 1) % 2 ^ c.log2) c) s
  haltReel x.tenant x.reel st (refuseSlate x b st s)

/-- A slate of a reel whose context cannot be used is discarded (02 R44). -/
def discardSlate (x : Slate) (s : State) : State :=
  let s := dropSlate x.id s
  if x.credit then freeCredit x.tenant x.dailies s else s

/-- ADMISSION (01 R17, 02 R56): the oldest undecided slate of a reel, once its bytes and its program have been read. A slate read before
its reel became PAUSED or HALTED is still decided, which the spec leaves open (log 90). -/
def execAdmission (tenant : Func) (reel : BitVec 20) (s : State) : Outcome :=
  let f := tenant.toNat
  let i := reel.toNat
  match slatesOf s f i with
  | [] => .next s
  | x :: _ =>
    let o := reelOf s f i
    if o.dead then .next (discardSlate x s)
    else if o.ctx.isNone then .next (fetchReel f i s)
    else if destroying s f i then .next s
    else match x.stage with
      | .read => .next (if wantsExt (joined x.bytes) then s else decideSlate x s)
      | .extRead => .next (decideSlate x s)
      | .failed st => .next (failSlate x st s)
      | _ => .next s

/-- Whether every byte of a slate's extended program has arrived. -/
def extComplete (x : Slate) : Bool := (joined x.ext).length = 16 * slateExtCount (joined x.bytes)

/-- EXT_PROGRAM_READ (03 R69): the copy of the extended program is complete, or its read has failed. -/
def execExtProgramRead (tenant : Func) (reel : BitVec 20) (slot : BitVec 16) (s : State) : Outcome :=
  let f := tenant.toNat
  let i := reel.toNat
  match (slatesOf s f i).find? fun x => x.index = slot.toNat with
  | none => .next s
  | some x =>
    match x.stage with
    | .extReading => .next (if extComplete x then setSlate { x with stage := .extRead } s else s)
    | .extFailed st =>
      if ((slatesOf s f i).head?.map (·.id)) ≠ some x.id then .next s
      else if (reelOf s f i).dead then .next (discardSlate x s)
      else if (reelOf s f i).ctx.isNone then .next (fetchReel f i s)
      else .next (failExt x st s)
    | _ => .next s

end Sys2Proof.Machine
end

