-- ==== Sys2Proof/Machine/Fences.lean ====
section
/-! DEFINITION. Fences of units (16 R437, R442), and the end and the re-execution of takes (01 R22, 16 R438 to R446). -/

namespace Sys2Proof.Machine

/-! ### Fencing a unit -/

/-- CAUSE of 16 Table 16.1 for what a unit's checks found. -/
def causeOf : UnitCheck → Nat
  | .passed => 0 | .parity => 1 | .crossing => 2 | .inverse => 3 | .comparator => 4 | .result => 5

/-- Record a fence: US_LAST, US_COUNT.FENCES, the event and the FENCE entry. -/
def recordFence (kind index cause event : Nat) (s : State) : State :=
  let u := s.units
  let s := { s with units := { u with
    last := BitVec.ofNat 64 ((now32 s).toNat * 2 ^ 32 + index * 2 ^ 16 + kind * 2 ^ 8 + cause * 2 ^ 4),
    fences := satInc u.fences } }
  raiseLog event 0x0030 (Config.packed [kind, index]) (if cause = 7 then 0 else 0x0601) 0 s

/-- Fence a unit of kinds 0 to 5 (R437); a unit already fenced stays as it is. -/
def fenceUnit (kind index cause event : Nat) (s : State) : State :=
  if !healthy s kind index then s
  else
    let short := shortOf s kind
    let s := setFenced kind index true s
    let s := if kind = 4 || kind = 5 then wipeCore kind index s else clearUnit kind index s
    let s := recordFence kind index cause event s
    let s := if shortOf s kind && !short then raise 0xAA s else s
    settleMode s

/-- A unit fenced by a fault. -/
def faultUnit (kind index cause : Nat) (s : State) : State := fenceUnit kind index cause 0x80 s

/-- A fault no fence contains (R443): no further slate read; the MP requests a RESET without drain. -/
def uncontained (event kind index : Nat) (s : State) : State :=
  let s := { s with modes := { s.modes with readsStopped := true, resetDue := true } }
  raiseLog event 0x0030 (Config.packed [kind, index]) 0x0601 0 s

/-! ### The end of a take -/

/-- The take's reads that are outstanding are discarded when they are answered; those not yet issued are withdrawn. -/
def orphanReads (id : Nat) (s : State) : State :=
  let mine := fun r : Request => match r.purpose with
    | .takeRead t _ => t = id
    | _ => false
  let drop := fun r : Request => if mine r then { r with purpose := .dropped } else r
  let f := s.fabric
  { s with fabric := { f with
      port0 := { f.port0 with reads := f.port0.reads.map drop }, port1 := { f.port1 with reads := f.port1.reads.map drop },
      held := f.held.filter fun h => !mine h.req } }

/-- Whether a request is a write of a take. -/
def isWriteOf (id : Nat) (r : Request) : Bool :=
  match r.purpose with
  | .takeWrite t _ => t = id
  | _ => false

/-- The writes that a take ending with a status never makes, among those held back: none for success; all for REEL_ABORTED (02 R63);
those of its present code otherwise (03 R105). A code that has not started has none. -/
def unmade (t : Take) (st : Status) (r : Request) : Bool :=
  st ≠ 0 && isWriteOf t.id r && (st = stReelAborted || (t.phase ≠ .ready && r.purpose = .takeWrite t.id t.count))

/-- A take without the held writes it never makes. -/
def withdraw (t : Take) (st : Status) (s : State) : Take × State :=
  let gone := s.fabric.held.filter fun h => unmade t st h.req
  ({ t with writes := t.writes - gone.length },
   { s with fabric := { s.fabric with held := s.fabric.held.filter fun h => !unmade t st h.req } })

/-- The take no longer waits for a unit or for random bytes, and no read is outstanding for it. -/
def detach (id : Nat) (s : State) : State :=
  orphanReads id { s with
    units := { s.units with jobs := s.units.jobs.filter (· ≠ id) },
    rng := { s.rng with waiting := s.rng.waiting.filter fun r => r.who ≠ .take id } }

/-- A unit as its OP ends (05 R147, 07 Table 7.11): a lane, an engine or a digest unit is cleared; a core is wiped, but for a standard
core of a TX7-L that no mode change has marked. -/
def opEnded (kind i : Nat) (s : State) : State :=
  if kind = 4 && s.chip.size = .large then (if (regsOf s kind i).wipe then wipeCore kind i s else s) else clearUnit kind i s

/-- A take leaves its unit; a FENCE that waited for the end of the OP takes effect (07 Table 7.10, 10 Table 10.10). -/
def leaveUnit (t : Take) (s : State) : State :=
  match t.op with
  | some o =>
    match o.unit with
    | some i =>
      let s := opEnded (kindCode o.kind) i s
      if o.fenceAfter then fenceUnit (kindCode o.kind) i 7 0x81 s else s
    | none => s
  | none => s

/-- The take ends with a status; its daily follows (R22). A BUS_ERROR halts its reel (02 R56). -/
def endTake (t : Take) (st : Status) (s : State) : State :=
  let r := withdraw t st s
  let t := r.1
  let s := r.2
  let s := setTake { t with phase := .ended st, todo := [], buffer := [], reads := 0, parked := none, op := none, used := [],
                            result := if st = 0 then t.result else none } (detach t.id s)
  let s := settleAllPins (leaveUnit r.1 s)
  if st = stBusError then haltReel t.tenant t.reel stBusError s else s

/-- Whether the take's reel is ABORTED. -/
def aborted (s : State) (t : Take) : Bool := (reelOf s t.tenant t.reel).ctx.any fun c => c.state = .aborted

/-- A fence stops a take (R439, R440, R446): it leaves its units and awaits re-execution, unless its reel is ABORTED or this was its
fourth execution. -/
def stopTake (t : Take) (s : State) : State :=
  if aborted s t then endTake t stReelAborted s
  else if 4 ≤ t.runs then
    raise 0x85 (endTake t stFaultDetected { s with units := { s.units with limited := satInc s.units.limited } })
  else
    settleAllPins (leaveUnit t
      (setTake { t with phase := .stopped, seq := none, op := none, used := [], todo := [], buffer := [], reads := 0, parked := none } (detach t.id s)))

/-- Whether a public-key core runs the take's OP, which nothing but a strike or a loss of power stops (07 R223). -/
def coreRuns (t : Take) : Bool := t.phase = .running && t.op.any fun o => o.kind = .standard || o.kind = .shielded

/-- An end that waits for the take's OP; the first that came stands. -/
def holdEnd (e : OpEnd) (t : Take) (s : State) : State :=
  setTake { t with op := t.op.map fun o => { o with after := some (o.after.getD e) } } s

/-- The take ends, after its OP where a core runs it. -/
def endWhenFree (t : Take) (st : Status) (s : State) : State := if coreRuns t then holdEnd (.ends st) t s else endTake t st s

/-- A fence stops the take, after its OP where a core runs it. -/
def stopWhenFree (t : Take) (s : State) : State := if coreRuns t then holdEnd .stops t s else stopTake t s

/-- The end that waited, once the OP is over. -/
def endHeld (id : Nat) (e : Option OpEnd) (s : State) : State :=
  match e, takeOf s id with
  | some e, some t =>
    match t.phase, e with
    | .ended _, _ | .stopped, _ => s
    | _, .ends st => endTake t st s
    | _, .stops => stopTake t s
  | _, _ => s

/-- A parity fault at a code of the take: the sequencer is fenced, for its own accesses or as the sender over a crossing. -/
def seqFault (t : Take) (found : SeqCheck) (s : State) : State :=
  match t.seq with
  | some q => stopTake t (faultUnit 0 q (if found = .crossing then 2 else 0xA) s)
  | none => stopTake t s

/-- A take as its next execution starts (03 R107); what it has reserved and the writes still out are kept. -/
def restarted (t : Take) (seq : Nat) : Take :=
  { t with seq := some seq, pc := 0, stage := [], keys := [none, none, none, none], loops := [], flag := false, count := 0,
           crc := 0xFFFFFFFF, result := none, lastOk := false, phase := .ready, todo := [], buffer := [], reads := 0,
           parked := none, op := none, used := [], cursor := 0, runs := t.runs + 1, ending := false }

/-- TAKE_REEXECUTION (R439): the take runs again on a sequencer of its share. -/
def execTakeReexecution (take : Nat) (seq : Nat) (s : State) : Outcome :=
  match takeOf s take with
  | none => .next s
  | some t =>
    if t.phase ≠ .stopped then .next s
    else if aborted s t then .next (endTake t stReelAborted s)
    else if !shareRemains s 0 t.tenant then .next (endTake t stUnitUnavailable s)
    else if !mayGrant s 0 t.tenant seq then .next s
    else if !unitReady s 0 seq then .next (touchIsland 0 seq s)
    else
      let s := { s with units := { s.units with retries := satInc s.units.retries } }
      .next (raise 0x84 (setTake (restarted t seq) (touchIsland 0 seq s)))

/-! ### Flow within a program -/

/-- The iteration index j (03 R76). -/
def iterIndex (t : Take) : Nat :=
  match t.loops with
  | [] => 0
  | [a] => a.iter
  | a :: b :: _ => b.iter * a.count + a.iter

/-- Where execution goes on from an index: at the end of a loop's body, to its next iteration or past it (R82). -/
def flowOn : List LoopFrame → Nat → Nat × List LoopFrame
  | [], pc => (pc, [])
  | l :: ls, pc =>
    if pc ≠ l.past then (pc, l :: ls)
    else if l.iter + 1 < l.count then (l.first, { l with iter := l.iter + 1 } :: ls)
    else flowOn ls pc

/-- The take at an index. -/
def goTo (pc : Nat) (t : Take) : Take :=
  let r := flowOn t.loops pc
  { t with pc := r.1, loops := r.2, phase := .ready, todo := [], buffer := [], parked := none }

/-- The take after its present code. -/
def nextCode (t : Take) : Take := goTo (t.pc + 1) t

/-- The present code. -/
def codeAt (t : Take) : Bytes := t.program.getD t.pc []

/-- Start a code of an opcode (03 R83, R85, R106, R108): an aborted reel and the budget come first, then the sequencer's own checks
and the ranges that the iteration index advances. -/
def startCode (id opcode : Nat) (found : SeqCheck) (run : Take → Bytes → State → State) (s : State) : State :=
  match takeOf s id with
  | none => s
  | some t =>
    if t.phase ≠ .ready || codeOpcode (codeAt t) ≠ opcode then s
    else if aborted s t then endTake t stReelAborted s
    else if (tenantOf s t.tenant).sheet.budget < t.count + 1 then endTake t stBudgetExceeded s
    else if found ≠ .passed then seqFault t found s
    else if !codeRangesOk (iterIndex t) (codeAt t) then endTake t stStageRange s
    else run { t with count := t.count + 1 } (codeAt t) s

end Sys2Proof.Machine
end

