-- ==== Sys2Proof/Machine/Takes.lean ====
section
/-! DEFINITION. The codes a sequencer runs itself: MOVE, MOVI, LOOP, WAIT, SIGNAL, CHECK, SKIP and END, with the stage area and the
parks of host accesses (03 R74 to R104). KEY is in Keys.lean, OP in Issue.lean. -/

namespace Sys2Proof.Machine

/-! ### The stage area (03 R74): listed bytes differ from zero -/

/-- n bytes from an address on, from cells none of which lies below it. -/
def cellBytes : Nat → Nat → List Host.Cell → Bytes
  | 0, _, _ => []
  | n + 1, a, [] => 0 :: cellBytes n (a + 1) []
  | n + 1, a, c :: cs => if c.1 = a then c.2 :: cellBytes n (a + 1) cs else 0 :: cellBytes n (a + 1) (c :: cs)

/-- Cells with every byte below an address passed over. -/
def cellsAbove (a : Nat) : List Host.Cell → List Host.Cell
  | [] => []
  | c :: cs => if c.1 < a then cellsAbove a cs else c :: cs

/-- Cells below an address. -/
def cellsBelow (a : Nat) : List Host.Cell → List Host.Cell
  | [] => []
  | c :: cs => if c.1 < a then c :: cellsBelow a cs else []

/-- The cells of bytes placed from an address on: zero bytes are not listed. -/
def cellsFrom : Nat → Bytes → List Host.Cell
  | _, [] => []
  | a, b :: bs => if b = 0 then cellsFrom (a + 1) bs else (a, b) :: cellsFrom (a + 1) bs

/-- Bytes of a stage area. -/
def readCells (m : List Host.Cell) (off n : Nat) : Bytes := cellBytes n off (cellsAbove off m)

/-- A stage area with bytes written. -/
def writeCells (m : List Host.Cell) (off : Nat) (bs : Bytes) : List Host.Cell :=
  cellsBelow off m ++ cellsFrom off bs ++ cellsAbove (off + bs.length) m

/-- Read stage. -/
def stageRead (t : Take) (off n : Nat) : Bytes := readCells t.stage off n

/-- Write stage. -/
def stageWrite (off : Nat) (bs : Bytes) (t : Take) : Take := { t with stage := writeCells t.stage off bs }

/-! ### Bursts (03 R100) -/

/-- A host range cut at 64-byte boundaries: address, length, position. -/
def cutBursts : Nat → Nat → Nat → Nat → List (Nat × Nat × Nat)
  | 0, _, _, _ => []
  | k + 1, addr, n, pos =>
    if n = 0 then []
    else
      let m := min n (64 - addr % 64)
      (addr, m, pos) :: cutBursts k (addr + m) (n - m) (pos + m)

/-- The bursts of a host range. -/
def burstsOf (addr n pos : Nat) : List (Nat × Nat × Nat) := cutBursts (n / 64 + 2) addr n pos

/-- The bursts that read a range. -/
def readBursts (addr n pos : Nat) : List Burst :=
  (burstsOf addr n pos).map fun b =>
    { write := false, addr := BitVec.ofNat 64 b.1, len := b.2.1, data := [], pos := b.2.2, unit := false }

/-- The bursts that write bytes to a range. -/
def writeBursts (unit : Bool) (addr : Nat) (bs : Bytes) : List Burst :=
  (burstsOf addr bs.length 0).map fun b =>
    { write := true, addr := BitVec.ofNat 64 b.1, len := b.2.1, data := slice b.2.2 b.2.1 bs, pos := b.2.2, unit := unit }

/-- Issue bursts in order; before the first that addresses a sleeping domain the take parks (R103). The time of a park of the first
burst is kept. -/
def issueList (t : Take) (since : Option Nat) : List Burst → State → Take × State
  | [], s => ({ t with todo := [], parked := none }, s)
  | b :: bs, s =>
    if asleep s b.addr then ({ t with todo := b :: bs, parked := some (since.getD (now s)) }, s)
    else if b.write then
      issueList { t with writes := t.writes + 1 } none bs
        (issueWrite b.addr b.data t.tenant (if b.unit then 1 else 0) (.takeWrite t.id t.count) s)
    else
      issueList { t with reads := t.reads + 1 } none bs (issueRead b.addr b.len t.tenant 0 (.takeRead t.id b.pos) s)

/-- Issue what a take has to do, and keep the take. -/
def issueTodo (t : Take) (s : State) : Take × State := issueList t t.parked t.todo s

/-! ### MOVE (R75 to R80) -/

/-- The bytes of one swap unit in their new order. -/
def swapChunk (mode : Nat) (c : Bytes) : Bytes := if mode = 4 then c.drop 2 ++ c.take 2 else c.reverse

/-- Bytes under a swap mode (Table 3.6). -/
def swapped (mode : Nat) (bs : Bytes) : Bytes :=
  if mode = 0 then bs else (chunks (swapUnit mode) bs).flatMap (swapChunk mode)

/-- Feed bytes a MOVE has read to the CRC (R80). -/
def feedCrc (bs : Bytes) (t : Take) : Take := if t.crcFlag then { t with crc := crcUpdate t.crc bs } else t

/-- HOST as advanced, modulo 2^64. -/
def moveHost (t : Take) (c : Bytes) : Nat :=
  (codeHost c + (if ctrlBits c 5 1 = 1 then moveLen c * iterIndex t else 0)) % 2 ^ 64

/-- STAGE as advanced. -/
def moveOff (t : Take) (c : Bytes) : Nat := moveStage c + (if ctrlBits c 6 1 = 1 then moveLen c * iterIndex t else 0)

/-- The destination address of a host-to-host MOVE. -/
def moveDest (t : Take) (c : Bytes) : Nat := leNat (stageRead t (moveOff t c) 8)

/-- The reads of chunk n of a host-to-host MOVE (R79). -/
def chunkReads (t : Take) (c : Bytes) (n : Nat) : List Burst :=
  readBursts ((moveHost t c + 4096 * n) % 2 ^ 64) (min 4096 (moveLen c - 4096 * n)) (4096 * n)

/-- A chunk of a host-to-host MOVE has been read: it is written while the next chunk is read. -/
def chunkDone (t : Take) (c : Bytes) (s : State) : State :=
  let n := (t.buffer.headD (0, [])).1 / 4096
  let bs := joined t.buffer
  let t := feedCrc bs { t with buffer := [] }
  let next := if 4096 * (n + 1) < moveLen c then chunkReads t c (n + 1) else []
  let w := writeBursts false ((moveDest t c + 4096 * n) % 2 ^ 64) (swapped (moveSwap c) bs)
  let r := issueList t none (next ++ w) s
  if r.1.todo.isEmpty && r.1.reads = 0 then setTake (nextCode r.1) r.2 else setTake r.1 r.2

/-- The value SIGNAL writes (R88). -/
def signalData (t : Take) (c : Bytes) : Bytes := if codeCtrl c = 1 then stageRead t (codeStage c) 8 else slice 4 4 c

/-- END as its last host access has been issued: the inline result, and success (R99). -/
def finishEnd (t : Take) (c : Bytes) (s : State) : State :=
  let r := match endResult c with
    | 0 => t.result
    | 1 => some (stageRead t (codeStage c) 8)
    | _ => none
  endTake { t with result := r } 0 s

/-- A take whose code issues host accesses goes on: the code ends once its bursts are issued and its reads have been answered. -/
def settleIssue (t : Take) (s : State) : State :=
  if !t.todo.isEmpty || 0 < t.reads then setTake t s
  else
    let c := codeAt t
    match codeOpcode c with
    | 0x01 =>
      match moveDir c with
      | 0 =>
        let bs := joined t.buffer
        setTake (nextCode (stageWrite (moveOff t c) (swapped (moveSwap c) bs) (feedCrc bs t))) s
      | 3 => if t.buffer.isEmpty then setTake (nextCode t) s else chunkDone t c s
      | _ => setTake (nextCode t) s
    | 0x0A => finishEnd t c s
    | _ => setTake (nextCode t) s

/-- Give a code its bursts. -/
def startIssue (t : Take) (bs : List Burst) (s : State) : State :=
  let r := issueList { t with phase := .moving, buffer := [], parked := none } none bs s
  settleIssue r.1 r.2

/-- A parked take whose burst's domain is awake again issues it and goes on (R103). -/
def resumeTake (t : Take) (s : State) : State :=
  let r := issueTodo t s
  settleIssue r.1 r.2

/-- Whether two ranges of the same length overlap (R79). A range that runs past 2^64 is open in the spec: its bursts go on at address 0, and
here it is not wrapped (log 90). -/
def hostRangesMeet (a b n : Nat) : Bool := a < b + n && b < a + n

/-- MOVE as it starts. -/
def runMove (t : Take) (c : Bytes) (s : State) : State :=
  let n := moveLen c
  if n = 0 then setTake (nextCode t) s
  else match moveDir c with
    | 0 => startIssue t (readBursts (moveHost t c) n 0) s
    | 1 =>
      let bs := stageRead t (moveOff t c) n
      startIssue (feedCrc bs t) (writeBursts false (moveHost t c) (swapped (moveSwap c) bs)) s
    | 2 =>
      let bs := stageRead t (moveHost t c) n
      setTake (nextCode (stageWrite (moveOff t c) (swapped (moveSwap c) bs) (feedCrc bs t))) s
    | _ =>
      if hostRangesMeet (moveHost t c) (moveDest t c) n then endTake t stLengthInvalid s
      else startIssue t (chunkReads t c 0) s

/-- Whether a request belongs to a take. -/
def ofTake (id : Nat) (r : Request) : Bool :=
  match r.purpose with
  | .takeRead t _ | .takeWrite t _ => t = id
  | _ => false

/-- Whether a reissue of a take's burst is parked on a sleeping domain (14 R389). -/
def reissueParked (s : State) (t : Take) : Bool := s.fabric.held.any fun h => ofTake t.id h.req && asleep s h.req.addr

/-- A take that waits at a code boundary of R108: its own burst or a reissue parked, or waiting for its writes. -/
def atBoundary (s : State) (t : Take) : Bool :=
  !t.ending && (t.parked.isSome || t.phase = .waitWrites || (t.phase = .moving && reissueParked s t))

/-- A row for a code that has started and waits: an aborted reel ends it, a domain that is awake lets it go on. -/
def goOn (id opcode : Nat) (s : State) : State :=
  match takeOf s id with
  | none => s
  | some t =>
    if codeOpcode (codeAt t) ≠ opcode then s
    else if atBoundary s t && aborted s t then endTake t stReelAborted s
    else if t.phase = .moving && t.parked.isSome then resumeTake t s
    else s

/-- MOVE. -/
def execMove (take : Nat) (found : SeqCheck) (s : State) : Outcome :=
  match takeOf s take with
  | some t => if t.phase = .ready then .next (startCode take 0x01 found runMove s) else .next (goOn take 0x01 s)
  | none => .next s

/-! ### MOVI, LOOP, SKIP, CHECK -/

/-- MOVI (R81). -/
def runMovi (t : Take) (c : Bytes) (s : State) : State :=
  let off := codeStage c + (if ctrlBits c 4 1 = 1 then moviSize c * iterIndex t else 0)
  setTake (nextCode (stageWrite off (slice 8 (moviSize c) c) t)) s

/-- MOVI. -/
def execMovi (take : Nat) (found : SeqCheck) (s : State) : Outcome := .next (startCode take 0x02 found runMovi s)

/-- LOOP (R82): its body begins, or is passed over where COUNT is 0. -/
def runLoop (t : Take) (c : Bytes) (s : State) : State :=
  let past := t.pc + loopBody c + 1
  if loopCount c = 0 then setTake (goTo past t) s
  else setTake { t with pc := t.pc + 1, loops := { first := t.pc + 1, past := past, count := loopCount c, iter := 0 } :: t.loops } s

/-- LOOP. -/
def execLoop (take : Nat) (found : SeqCheck) (s : State) : Outcome := .next (startCode take 0x03 found runLoop s)

/-- SKIP (R98). -/
def runSkip (t : Take) (c : Bytes) (s : State) : State :=
  let taken := skipCond c = 0 || (skipCond c = 1 && t.flag) || (skipCond c = 2 && !t.flag)
  setTake (if taken then goTo (skipTarget t.pc c).toNat t else nextCode t) s

/-- SKIP. -/
def execSkip (take : Nat) (found : SeqCheck) (s : State) : Outcome := .next (startCode take 0x09 found runSkip s)

/-- The condition of a CHECK (Table 3.7). -/
def checkHolds (t : Take) (c : Bytes) : Bool :=
  let a := stageRead t (codeStage c) (checkLen c)
  let v := BitVec.ofNat 64 (leNat (stageRead t (codeStage c) 8))
  let imm := BitVec.ofNat 64 (codeHost c)
  match checkKind c with
  | 0 => a = stageRead t (checkB c) (checkLen c)
  | 1 => allZero a
  | 2 => t.lastOk
  | 3 => v = imm
  | 4 => v.toNat < imm.toNat
  | _ => v &&& imm ≠ 0

/-- CHECK (R96). -/
def runCheck (t : Take) (c : Bytes) (s : State) : State :=
  let r := xor (checkHolds t c) (ctrlBits c 4 1 = 1)
  if !r && ctrlBits c 5 1 = 1 then endTake { t with flag := r } stCheckFail s
  else setTake (nextCode { t with flag := r }) s

/-- CHECK. -/
def execCheck (take : Nat) (found : SeqCheck) (s : State) : Outcome := .next (startCode take 0x08 found runCheck s)

/-! ### WAIT, SIGNAL, END -/

/-- WAIT (R86). -/
def runWait (t : Take) (_ : Bytes) (s : State) : State :=
  setTake (if t.writes = 0 then nextCode t else { t with phase := .waitWrites }) s

/-- WAIT. -/
def execWait (take : Nat) (found : SeqCheck) (s : State) : Outcome :=
  match takeOf s take with
  | some t => if t.phase = .ready then .next (startCode take 0x04 found runWait s) else .next (goOn take 0x04 s)
  | none => .next s

/-- The write of a SIGNAL. -/
def issueSignal (t : Take) (c : Bytes) (s : State) : State := startIssue t (writeBursts true (codeHost c) (signalData t c)) s

/-- SIGNAL (R88). -/
def runSignal (t : Take) (c : Bytes) (s : State) : State :=
  if t.writes = 0 then issueSignal t c s else setTake { t with phase := .waitWrites } s

/-- SIGNAL. -/
def execSignal (take : Nat) (found : SeqCheck) (s : State) : Outcome :=
  match takeOf s take with
  | some t => if t.phase = .ready then .next (startCode take 0x05 found runSignal s) else .next (goOn take 0x05 s)
  | none => .next s

/-- Every write of a take that waits for them has been acknowledged (R86, R88). -/
def writesDone (t : Take) (s : State) : State :=
  if t.phase = .waitWrites && t.writes = 0 then
    if aborted s t then endTake t stReelAborted s
    else if codeOpcode (codeAt t) = 0x05 then issueSignal t (codeAt t) s
    else setTake (nextCode t) s
  else s

/-- The CRC as reported (R80). -/
def reportedCrc (t : Take) : BitVec 32 := t.crc ^^^ 0xFFFFFFFF

/-- END (R99). -/
def runEnd (t : Take) (c : Bytes) (s : State) : State :=
  startIssue { t with ending := true }
    (if endStores c then writeBursts true (codeHost c) (toLe 4 (reportedCrc t).toNat) else []) s

/-- END. -/
def execEndCode (take : Nat) (found : SeqCheck) (s : State) : Outcome :=
  match takeOf s take with
  | some t => if t.phase = .ready then .next (startCode take 0x0A found runEnd s) else .next (goOn take 0x0A s)
  | none => .next s

/-! ### Parks that last too long, and the daily -/

/-- Whether a reissue of a take has waited on a sleeping domain longer than PARK_TIMEOUT (14 R389). -/
def reissueLate (s : State) (t : Take) (limit : Nat) : Bool :=
  s.fabric.held.any fun h => ofTake t.id h.req && asleep s h.req.addr && h.since + limit < now s

/-- PARK_TIMEOUT_EXPIRY (R103, R106): the park ends the take at its code. -/
def execParkTimeoutExpiry (take : Nat) (s : State) : Outcome :=
  match takeOf s take with
  | none => .next s
  | some t =>
    let limit := (tenantOf s t.tenant).sheet.parkTimeout
    let late := reissueLate s t limit
    if (t.parked.any fun p => p + limit < now s) || late then
      if atBoundary s t && aborted s t then .next (endTake t stReelAborted s)
      else
        let gone := (s.fabric.held.filter fun h => ofTake t.id h.req && h.write).length
        let s := if late then { s with fabric := { s.fabric with held := s.fabric.held.filter fun h => !ofTake t.id h.req } } else s
        let t := if late then { t with writes := t.writes - gone } else t
        match t.phase with
        | .ended 0 => .next (setTake { t with phase := .ended stAsleepTimeout, result := none } s)
        | .ended _ => .next (setTake t s)
        | _ => .next (endWhenFree t stAsleepTimeout s)
    else .next s

/-- The daily of a take that has ended (R99, R442). -/
def takeDaily (t : Take) (st : Status) : Daily :=
  let crcValid := t.crcFlag && st = 0
  { seq := t.seqNo, tag := t.userTag, result := t.result.getD (zeroBytes 8), crc := if crcValid then reportedCrc t else 0,
    status := st, flags := dailyFlags false t.clapper t.result.isSome crcValid (decide (1 < t.runs)) }

/-- The take is over: its sequencer is free, its stage zeroed, its record dropped; the reel's IN_FLIGHT falls. -/
def retireTake (t : Take) (s : State) : State :=
  let s := freeRetained (dropTake t.id s)
  let s := modReel t.tenant t.reel (fun c => { c with inFlight := c.inFlight - 1 }) s
  let s := if (reelOf s t.tenant t.reel).ctx.any abortDone then raise 0xA4 s else s
  match t.seq with
  | some q => if t.fenceSeq then fenceUnit 0 q 7 0x81 s else s
  | none => s

/-- Whether a take's daily write would go to a sleeping domain. -/
def dailyAsleep (s : State) (t : Take) : Bool :=
  (dailiesOf s t.tenant t.dailies).ctx.any fun c => !c.halted && asleep s (c.base + BitVec.ofNat 64 (32 * c.tail))

/-- DAILY_WRITE (R22, R23): after any clapper wait the daily is written, and the take is over. A sleeping domain holds it back
(02 R57). -/
def execDailyWrite (take : Nat) (s : State) : Outcome :=
  match takeOf s take with
  | none => .next s
  | some t =>
    match t.phase with
    | .ended st =>
      if t.clapper && 0 < t.writes then .next s
      else if dailyAsleep s t then .next (setTake { t with dailySince := some (t.dailySince.getD (now s)) } s)
      else .next (retireTake t (writeDaily t.tenant t.reel t.dailies (takeDaily t st) s))
    | _ => .next s

end Sys2Proof.Machine
end

