-- ==== Sys2Proof/Machine/Keys.lean ====
section
/-! DEFINITION. KEY (03 R89 to R91, 01 R20), and the record of what a take has reserved (01 R21, 16 R441). -/

namespace Sys2Proof.Machine

/-- The recorded value this execution comes to next. -/
def recorded (t : Take) : Option Reserved := t.record[t.cursor]?

/-- The next recorded value has been used. -/
def useRecord (t : Take) : Take := { t with cursor := t.cursor + 1 }

/-- A value is reserved and recorded at the present place. -/
def reserve (r : Reserved) (t : Take) : Take :=
  { t with record := t.record.take t.cursor ++ [r] ++ t.record.drop t.cursor, cursor := t.cursor + 1 }

/-- Bind a position. -/
def bindKey (pos : Nat) (b : Binding) (t : Take) : Take := { t with keys := t.keys.set pos (some b) }

/-- What a position holds. -/
def boundKey (t : Take) (pos : Nat) : Option Binding := t.keys.getD pos none

/-- A KEY code that names a slot: the content recorded at the first execution (R91), or the slot's after the re-check of R20. The spec gives the
check of TAG no place among those of row 8: it comes after SLOT_EMPTY and before OWNER_MISMATCH and USAGE_DENIED (log 78). -/
def keyResident (tagOk : Bool) (t : Take) (c : Bytes) (s : State) : State :=
  match recorded t with
  | some (.binding b) => setTake (nextCode (bindKey (keyPos c) b (useRecord t))) s
  | _ =>
    let i := keySlot c
    let st := slotCheck s t.tenant i (pairedNeeds t.program t.pc)
    if st = some stSlotEmpty then endTake t stSlotEmpty s
    else if !tagOk then endTake t stFaultDetected (faultGroup i s)
    else match st with
      | some st => endTake t st s
      | none =>
        let b := Binding.resident i (slotOf s i).gen (slotKey s i)
        setTake (nextCode (bindKey (keyPos c) b (reserve (.binding b) t))) s

/-- A KEY code that unwraps a blob or key block. -/
def keyBlob (tagOk : Bool) (t : Take) (c : Bytes) (s : State) : State :=
  let blob := stageRead t (codeStage c) (keyBlobLen c)
  let native := keySource c = 1
  match blobReads s t.tenant native blob with
  | some i =>
    if !tagOk then endTake t stFaultDetected (faultGroup i s)
    else match (if native then nativeOpen s t.tenant blob else x143Open s t.tenant blob) with
      | .ok k => setTake (nextCode (bindKey (keyPos c) (.blob k) t)) s
      | .error st => endTake t st s
  | none =>
    match (if native then nativeOpen s t.tenant blob else x143Open s t.tenant blob) with
    | .ok k => setTake (nextCode (bindKey (keyPos c) (.blob k) t)) s
    | .error st => endTake t st s

/-- KEY (R89). -/
def runKey (tagOk : Bool) (t : Take) (c : Bytes) (s : State) : State :=
  if keySource c = 0 then keyResident tagOk t c s else keyBlob tagOk t c s

/-- KEY. -/
def execKey (take : Nat) (found : SeqCheck) (tagOk : Bool) (s : State) : Outcome := .next (startCode take 0x06 found (runKey tagOk) s)

end Sys2Proof.Machine
end

