-- ==== Sys2Proof/Machine/Payment.lean ====
section
/-! DEFINITION. The payment operations (05): their checks in the order of R461, and what each computes. -/

namespace Sys2Proof.Machine

/-! ### Digits -/

/-- The nibbles of a string, the high nibble of its first byte first. -/
def nibbles (bs : Bytes) : List Nat := bs.flatMap fun b => [b.toNat / 16, b.toNat % 16]

/-- Nibbles packed into n bytes; missing nibbles are zero. -/
def packNibbles (n : Nat) (l : List Nat) : Bytes :=
  (List.range n).map fun i => BitVec.ofNat 8 (16 * l.getD (2 * i) 0 + l.getD (2 * i + 1) 0)

/-- Whether a packed field has n digits and is 0xF beyond them (R151). -/
def digitsOk (n : Nat) (bs : Bytes) : Bool :=
  ((nibbles bs).take n).all (· ≤ 9) && ((nibbles bs).drop n).all (· = 15)

/-- The digits of a decimal list on the left of which zeros fill to n. -/
def padDigits (n : Nat) (l : List Nat) : List Nat := List.replicate (n - l.length) 0 ++ l

/-- The last n of a list. -/
def lastOf (n : Nat) (l : List Nat) : List Nat := l.drop (l.length - n)

/-- Odd parity on every byte. -/
def parityAll (bs : Bytes) : Bytes := bs.map oddParity

/-- The class that WK_TYPE and OUT_CLASS encode (Tables 5.9, 5.12). -/
def wkClass (n : Nat) : Nat := n + 1

/-- The bytes of a key of an AES or TDES class. -/
def clsLen (cls : Nat) : Nat := match cls with | 1 => 16 | 2 => 24 | 3 => 32 | 4 => 16 | 5 => 24 | _ => 0

/-- R174. -/
def strengthOf (k : KeyMat) : Nat :=
  match k.cls with
  | 1 => 128 | 2 => 192 | 3 => 256 | 4 => 80 | 5 => 112 | 6 => 128 | 7 => 256
  | _ => min 256 (8 * k.material.length)

/-- The key of a derived binding (R170), with R119's verdict; a position bound otherwise gives its key. -/
def bindingKey (b : Binding) : KeyIn :=
  match b with
  | .resident slot _ key => { key := key, slot := some slot, sound := true }
  | .blob key => { key := key, slot := none, sound := true }
  | .bound key => { key := key, slot := none, sound := true }
  | .derived parent label context cls usage =>
    let m := kdfCounter parent.material label context (clsLen cls)
    let m := if isTdes cls then parityAll m else m
    { key := { cls := cls, usage := usage, derived := 0, hash := 0, material := m }, slot := none, sound := symmetricOk cls m }

/-! ### DUKPT (R161 to R163) -/

/-- The transaction counter of a KSN field. -/
def ksnCounter (src : Nat) (ksn : Bytes) : Nat :=
  if src = 2 then beNat (ksn.take 10) % 2 ^ 21 else beNat (slice 8 4 ksn)

/-- Set bits of a counter, most significant first. -/
def setBits (v : Nat) : List Nat := ((List.range 32).filter fun i => v.testBit i).reverse

/-- R163 for the counter. -/
def ksnOk (src : Nat) (ksn : Bytes) : Bool :=
  let bs := (setBits (ksnCounter src ksn)).length
  0 < bs && bs ≤ (if src = 2 then 10 else 16) && (src ≠ 2 || allZero (slice 10 2 ksn))

/-- The algorithm indicator of X9.24-3 for a class. -/
def dukptAlg (cls : Nat) : Nat := match cls with | 4 => 0 | 5 => 1 | c => c + 1

/-- One derivation of X9.24-3: usage indicator, class of the derived key, and eight bytes of identity and counter. -/
def dukptDerive (key : Bytes) (usage cls : Nat) (data : Bytes) : Bytes :=
  let n := clsLen cls
  let enc := aesEnc key
  ((List.range (ceilDiv n 16)).flatMap fun i =>
    enc ([1, BitVec.ofNat 8 (i + 1)] ++ toBe 2 usage ++ toBe 2 (dukptAlg cls) ++ toBe 2 (8 * n) ++ data)).take n

/-- The working key of AES DUKPT: the initial key, one step per set counter bit, and the working key of a usage. -/
def aesDukpt (bdk : KeyMat) (ksn : Bytes) (usage cls : Nat) : Bytes :=
  let dev := slice 4 4 ksn
  let start := dukptDerive bdk.material 0x8001 bdk.cls (ksn.take 8)
  let r := (setBits (ksnCounter 1 ksn)).foldl (fun (p : Bytes × Nat) i =>
    let c := p.2 + 2 ^ i
    (dukptDerive p.1 0x8000 bdk.cls (dev ++ toBe 4 c), c)) (start, 0)
  dukptDerive r.1 usage cls (dev ++ slice 8 4 ksn)

/-- The constant of X9.24-1. -/
def dukptC0 : Bytes := [0xC0, 0xC0, 0xC0, 0xC0, 0, 0, 0, 0, 0xC0, 0xC0, 0xC0, 0xC0, 0, 0, 0, 0]

/-- One half of the non-reversible key generation of X9.24-1. -/
def dukptHalf (key reg : Bytes) : Bytes := xorBytes (desEnc (key.take 8) (xorBytes reg (key.drop 8))) (key.drop 8)

/-- The non-reversible key generation of X9.24-1. -/
def dukptStep (key reg : Bytes) : Bytes := dukptHalf (xorBytes key dukptC0) reg ++ dukptHalf key reg

/-- The working key of TDES DUKPT: variant 0 PIN, 1 request MAC, 2 request data with the one-way step. -/
def tdesDukpt (bdk ksn : Bytes) (variant : Nat) : Bytes :=
  let v := beNat (ksn.take 10)
  let base := v - v % 2 ^ 21
  let k8 := (toBe 10 base).take 8
  let start := tdesEnc bdk k8 ++ tdesEnc (xorBytes bdk dukptC0) k8
  let r := (setBits (ksnCounter 2 ksn)).foldl (fun (p : Bytes × Nat) i =>
    let c := p.2 + 2 ^ i
    (dukptStep p.1 (toBe 8 c), c)) (start, base % 2 ^ 64)
  let half := toBe 8 (0xFF * 256 ^ variant)
  let k := xorBytes r.1 (half ++ half)
  if variant = 2 then tdesEnc k (k.take 8) ++ tdesEnc k (k.drop 8) else k

/-- R163 for WK_TYPE and the KSN, given the key at KA. -/
def dukptParamsOk (src wk : Nat) (ka : KeyMat) (ksn : Bytes) : Bool :=
  wk ≤ 4 && (src ≠ 2 || wk = 3) && clsLen (wkClass wk) ≤ ka.material.length && ksnOk src ksn

/-- Table 5.3 for a base derivation key. -/
def bdkOk (src : Nat) (k : KeyIn) : Bool :=
  (if src = 2 then k.key.cls = 4 else isAes k.key.cls) && uses k.key.usage 14 && k.slot.isSome

/-! ### PIN blocks (R150 to R156) -/

/-- A supported format. -/
def pinFormat (f : Nat) : Bool := f = 0 || f = 1 || f = 3 || f = 4

/-- The bytes of a PIN block. -/
def pinBlockLen (f : Nat) : Nat := if f = 4 then 16 else 8

/-- PAN field 0. -/
def panField0 (pan : List Nat) : Bytes := packNibbles 8 (List.replicate 4 0 ++ lastOf 12 (padDigits 12 pan.dropLast))

/-- PAN field 4. -/
def panField4 (pan : List Nat) : Bytes := packNibbles 16 ((pan.length - 12) :: padDigits 12 pan)

/-- The plain PIN field of a block under a key of a class. -/
def pinOpen (f cls : Nat) (key : Bytes) (pan : List Nat) (b : Bytes) : Bytes :=
  if f = 4 then aesDec key (xorBytes (aesDec key b) (panField4 pan))
  else
    let x := blockDec cls key b
    if f = 1 then x else xorBytes x (panField0 pan)

/-- Decode a block into PIN digits; none is PIN_FORMAT (R152). -/
def pinDecode (f cls : Nat) (key : Bytes) (pan : List Nat) (lo hi : Nat) (b : Bytes) : Option (List Nat) :=
  let ns := nibbles (pinOpen f cls key pan b)
  let n := ns.getD 1 0
  let digits := (ns.drop 2).take n
  let fill := (ns.take 16).drop (2 + n)
  if ns.getD 0 0 = f && 4 ≤ n && n ≤ 12 && lo ≤ n && n ≤ hi && digits.all (· ≤ 9) &&
    (f ≠ 0 || fill.all (· = 15)) && (f ≠ 3 || fill.all (10 ≤ ·)) && (f ≠ 4 || fill.all (· = 10))
  then some digits else none

/-- The fill nibbles after the digits. A format 1 fill is the drawn nibbles in their order, the high one of each byte first, which the spec
leaves open (log 19). -/
def pinFill (f n : Nat) (drawn : Bytes) : List Nat :=
  match f with
  | 0 => List.replicate (14 - n) 15
  | 1 => (nibbles drawn).take (14 - n)
  | 3 => (List.range (14 - n)).map fun i => 10 + Config.fillDigit drawn i % 6
  | _ => List.replicate (14 - n) 10 ++ nibbles (drawn.take 8)

/-- Encode PIN digits into a block. -/
def pinEncode (f cls : Nat) (key : Bytes) (pan digits : List Nat) (drawn : Bytes) : Bytes :=
  let field := packNibbles (pinBlockLen f) (f :: digits.length :: digits ++ pinFill f digits.length drawn)
  if f = 4 then aesEnc key (xorBytes (aesEnc key field) (panField4 pan))
  else blockEnc cls key (if f = 1 then field else xorBytes field (panField0 pan))

/-- The bytes reserved for the random fill of a block with n digits (R156): those that hold 16 − 2 − N nibbles. -/
def pinDraws (f n : Nat) : Nat := if f = 1 || f = 3 then ceilDiv (14 - n) 2 else if f = 4 then 8 else 0

/-! ### The PIN operations (R153 to R160) -/

/-- PIN_TRANSLATE or PIN_VERIFY_REFERENCE, which read OUT_FORMAT. -/
def pinTwo (v : Nat) : Bool := v = 0x2000 || v = 0x2020

/-- The digits of the PAN of a PIN parameter block. -/
def pinPan (p : Bytes) : List Nat := (nibbles (slice 8 10 p)).take (byteAt 6 p)

/-- Check 1 of R461. -/
def pinFormatsOk (x : OpIn) : Bool :=
  let p := x.param
  let fin := byteAt 0 p
  let out := byteAt 1 p
  pinFormat fin && (!pinTwo x.v || pinFormat out) && x.n = pinBlockLen fin && 4 ≤ byteAt 2 p && byteAt 3 p ≤ 12 &&
  byteAt 2 p ≤ byteAt 3 p && (x.v ≠ 0x2000 || out ≠ 1 || fin = 1)

/-- A pair of Table 5.5 marked D. -/
def pinDowngrades (x : OpIn) : Bool :=
  x.v = 0x2000 && byteAt 0 x.param = 4 && (byteAt 1 x.param = 0 || byteAt 1 x.param = 3)

/-- R151 for the PIN operations. -/
def pinPanOk (x : OpIn) : Bool :=
  let p := x.param
  let n := byteAt 6 p
  (if byteAt 0 p ≠ 1 || (pinTwo x.v && byteAt 1 p ≠ 1) then 8 ≤ n && n ≤ 19 else n = 0) && digitsOk n (slice 8 10 p)

/-- R159. -/
def offsetOk (x : OpIn) : Bool :=
  let tab := nibbles (slice 0x30 8 x.param)
  let chk := byteAt 0x3E x.param
  tab.all (· ≤ 9) && (List.range 10).all (fun d => 1 ≤ tab.count d && tab.count d ≤ 2) &&
  (x.v ≠ 0x2010 || (4 ≤ chk && chk ≤ 12 && ((nibbles (slice 0x38 6 x.param)).take chk).all (· ≤ 9)))

/-- Check 2 of R461 for the PIN operations. -/
def pinParamsOk (x : OpIn) : Bool :=
  let p := x.param
  let src := byteAt 4 p
  src ≤ 2 && (src = 0 || dukptParamsOk src (byteAt 5 p) x.ka.key (slice 0x14 12 p)) && pinPanOk x &&
  (pinTwo x.v || offsetOk x)

/-- The class of the key that decodes the incoming block. -/
def pinInClass (x : OpIn) : Nat := if byteAt 4 x.param = 0 then x.ka.key.cls else wkClass (byteAt 5 x.param)

/-- Whether a class suits a format. -/
def pinClassOk (f cls : Nat) : Bool := if f = 4 then isAes cls else isTdes cls

/-- Check 3 of R461 for the PIN operations. -/
def pinKeysOk (x : OpIn) : Bool :=
  let p := x.param
  let src := byteAt 4 p
  let kb := x.kb.key
  (if src = 0 then uses x.ka.key.usage 8 else bdkOk src x.ka) && pinClassOk (byteAt 0 p) (pinInClass x) &&
  (if pinTwo x.v then pinClassOk (byteAt 1 p) kb.cls else isAes kb.cls || isTdes kb.cls) &&
  uses kb.usage (match x.v with | 0x2000 => 9 | 0x2010 => 11 | 0x2011 => 12 | _ => 13) &&
  (!pinDowngrades x || uses kb.usage 10) && (x.v ≠ 0x2011 || x.kb.slot.isSome)

/-- The key that decodes the incoming block (R155, R162). -/
def pinInKey (x : OpIn) : Bytes :=
  let p := x.param
  let ksn := slice 0x14 12 p
  match byteAt 4 p with
  | 0 => x.ka.key.material
  | 1 => aesDukpt x.ka.key ksn 0x1000 (pinInClass x)
  | _ => tdesDukpt x.ka.key.material ksn 0

/-- What the lane decodes into its sealed PIN register and the second part of it (R152, R160): nothing of a block that does not decode. -/
def pinLoad (x : OpIn) : List Nat × List Nat :=
  let p := x.param
  let pan := pinPan p
  let lo := byteAt 2 p
  let hi := byteAt 3 p
  let f := byteAt 1 p
  if !symmetricOk (pinInClass x) (pinInKey x) then ([], [])
  else
    ((pinDecode (byteAt 0 p) (pinInClass x) (pinInKey x) pan lo hi x.input).getD [],
     if x.v = 0x2020 then (pinDecode f x.kb.key.cls x.kb.key.material pan lo hi (slice 0x20 (pinBlockLen f) p)).getD [] else [])

/-- The random bytes of a PIN translation (R156). -/
def pinFillDraws (x : OpIn) : Nat :=
  let f := byteAt 1 x.param
  match (pinLoad x).1.length with
  | 0 => if f = 1 || f = 3 then Config.pinFillBytes x.param % 6 else pinDraws f 0
  | n => pinDraws f n

/-- The offsets of a PIN under R158: each digit less its natural digit. -/
def pinOffsets (x : OpIn) (pin : List Nat) : List Nat :=
  let k := x.kb.key
  let e := nibbles (blockEnc k.cls k.material (slice 0x20 (blockSize k.cls) x.param))
  let tab := nibbles (slice 0x30 8 x.param)
  pin.zipIdx.map fun d => (d.1 + 10 - tab.getD (e.getD d.2 0) 0) % 10

/-- A decoded PIN put to the operation's use: encoded, or compared. -/
def pinUse (x : OpIn) (pin : List Nat) : OpOut :=
  let p := x.param
  let k := x.kb.key
  let pan := pinPan p
  match x.v with
  | 0x2000 => opOk (pinEncode (byteAt 1 p) k.cls k.material pan pin x.drawn) []
  | 0x2010 =>
    let chk := byteAt 0x3E p
    opCheck (chk ≤ pin.length && (pinOffsets x pin).take chk = (nibbles (slice 0x38 6 p)).take chk) stPinMismatch
  | 0x2011 =>
    let o := packNibbles 6 (pinOffsets x pin ++ List.replicate (12 - pin.length) 15)
    opResult [] [(0x38, o)] o
  | _ => if x.ref.isEmpty then opFail stPinFormat else opCheck (pin = x.ref) stPinMismatch

/-- The PIN operations past checks 1 to 3, from the sealed PIN register: empty where the block did not decode. -/
def runPin (x : OpIn) : OpOut :=
  if !symmetricOk (pinInClass x) (pinInKey x) then opFail stInputRange
  else if x.pin.isEmpty then opFail stPinFormat
  else pinUse x x.pin

/-! ### The DUKPT operations (R164) -/

/-- MAC operations. -/
def dukptIsMac (v : Nat) : Bool := v < 0x2110

/-- Check 2 of R461 for the DUKPT operations. -/
def dukptOpParamsOk (x : OpIn) : Bool :=
  let p := x.param
  let src := byteAt 0 p
  let cls := wkClass (byteAt 1 p)
  let t := byteAt 3 p % 16
  let pad := byteAt 3 p / 16
  (src = 1 || src = 2) && dukptParamsOk src (byteAt 1 p) x.ka.key (slice 4 12 p) && byteAt 2 p ≤ 1 &&
  (if dukptIsMac x.v then
     (t = 4 || t = 8 || (t = 16 && isAes cls)) && (if cls = 4 then pad = 1 || pad = 2 else pad = 0)
   else x.n % blockSize cls = 0)

/-- Check 3 of R461 for the DUKPT operations: R161's limits of TDES DUKPT among them. -/
def dukptKeysOk (x : OpIn) : Bool :=
  let src := byteAt 0 x.param
  bdkOk src x.ka && (src ≠ 2 || (byteAt 2 x.param = 0 && x.v % 2 = 1))

/-- The usage indicator of an operation. -/
def dukptUsage (v both : Nat) : Nat :=
  (if dukptIsMac v then 0x2000 else 0x3000) + (if both = 1 then 2 else v % 2)

/-- The working key of a DUKPT operation. -/
def dukptKey (x : OpIn) : Bytes :=
  let p := x.param
  let ksn := slice 4 12 p
  if byteAt 0 p = 1 then aesDukpt x.ka.key ksn (dukptUsage x.v (byteAt 2 p)) (wkClass (byteAt 1 p))
  else tdesDukpt x.ka.key.material ksn (if dukptIsMac x.v then 1 else 2)

/-- The DUKPT operations past checks 1 to 3. -/
def runDukpt (x : OpIn) : OpOut :=
  let p := x.param
  let cls := wkClass (byteAt 1 p)
  let k := dukptKey x
  let b := blockSize cls
  let iv := slice 0x10 b p
  if !symmetricOk cls k then opFail stInputRange
  else if dukptIsMac x.v then
    let t := byteAt 3 p % 16
    let pad := if byteAt 3 p / 16 = 1 then padM1 8 x.input else padM2 8 x.input
    let m := (if cls = 4 then retailMac k pad else cmacKey cls k x.input).take t
    if x.v = 0x2101 then opCheck (m = slice 0x10 t p) stVerifyFail else opResult m [] m
  else if x.v = 0x2110 then
    let c := cbcEnc (blockEnc cls k) b iv x.input
    opOk c [(0x10, c.drop (c.length - b))]
  else opOk (cbcDec (blockDec cls k) b iv x.input) [(0x10, x.input.drop (x.input.length - b))]

/-! ### EMV (R165 to R167) -/

/-- Check 2 of R461 for the EMV operations. -/
def emvParamsOk (x : OpIn) : Bool :=
  let p := x.param
  let n := byteAt 4 p
  byteAt 0 p ≤ 1 && (byteAt 0 p = 0 || (8 ≤ n && n ≤ 19 && digitsOk n (slice 6 10 p))) &&
  (isAes x.ka.key.cls || byteAt 1 p = 1 || byteAt 1 p = 2) && (nibbles (slice 5 1 p)).all (· ≤ 9) && byteAt 0x28 p ≤ 8

/-- Check 3 of R461 for the EMV operations. -/
def emvKeysOk (x : OpIn) : Bool :=
  (x.ka.key.cls = 4 || isAes x.ka.key.cls) && uses x.ka.key.usage (if byteAt 0 x.param = 1 then 15 else 16)

/-- Y of step 1. -/
def emvY (p : Bytes) : Bytes :=
  packNibbles 8 (padDigits 16 (lastOf 16 ((nibbles (slice 6 10 p)).take (byteAt 4 p) ++ nibbles (slice 5 1 p))))

/-- The card master key (step 1). The AES form enciphers Y with eight zero bytes on its left, and that block inverted for a longer key, as EMV
Book 2 gives for a 16-byte cipher (log 15). -/
def emvMaster (x : OpIn) : Bytes :=
  let k := x.ka.key.material
  let y := emvY x.param
  if byteAt 0 x.param = 0 then k
  else if isAes x.ka.key.cls then
    let b := zeroBytes 8 ++ y
    (aesEnc k b ++ aesEnc k (b.map (· ^^^ 0xFF))).take k.length
  else parityAll (tdesEnc k y ++ tdesEnc k (y.map (· ^^^ 0xFF)))

/-- The session key (step 2): common session key derivation of EMV Book 2. -/
def emvSession (cls : Nat) (mk atc : Bytes) : Bytes :=
  let enc := blockEnc cls mk
  let part := fun f : Byte => enc (fit (blockSize cls) (atc ++ [f]))
  if cls = 1 then part 0
  else if isAes cls then (part 0xF0 ++ part 0x0F).take mk.length
  else parityAll (part 0xF0 ++ part 0x0F)

/-- The MAC of the cryptogram's kind. -/
def emvMac (cls : Nat) (sk : Bytes) (pad : Nat) (m : Bytes) : Bytes :=
  (if isAes cls then cmacKey cls sk m else retailMac sk (if pad = 1 then padM1 8 m else padM2 8 m)).take 8

/-- The EMV operations past checks 1 to 3. -/
def runEmv (x : OpIn) : OpOut :=
  let p := x.param
  let cls := x.ka.key.cls
  let mk := emvMaster x
  let sk := emvSession cls mk (slice 2 2 p)
  let arqc := slice 0x10 8 p
  if !(symmetricOk cls mk && symmetricOk cls sk) then opFail stInputRange
  else if emvMac cls sk (byteAt 1 p) x.input ≠ arqc then opFail stVerifyFail
  else match x.v with
    | 0x2200 => opOk [] []
    | 0x2201 =>
      let r := (blockEnc cls sk (fit (blockSize cls) (xorBytes arqc (fit 8 (slice 0x18 2 p))))).take 8
      opResult r [] r
    | _ =>
      let r := (emvMac cls sk 2 (arqc ++ slice 0x1C 4 p ++ slice 0x20 (byteAt 0x28 p) p)).take 4
      opResult r [] r

/-! ### Card verification codes (R168, R169) -/

/-- Check 2 of R461 for the CVC operations. -/
def cvcParamsOk (x : OpIn) : Bool :=
  let p := x.param
  let n := byteAt 0 p
  let m := byteAt 1 p
  12 ≤ n && n ≤ 19 && digitsOk n (slice 4 10 p) && 3 ≤ m && m ≤ 5 && (nibbles (slice 0x0E 2 p)).all (· ≤ 9) &&
  digitsOk 3 (slice 0x10 2 p) && (x.v = 0x2300 || (slice 0x18 m p).all fun c => 0x30 ≤ c.toNat && c.toNat ≤ 0x39)

/-- The code. -/
def cvcCode (key p : Bytes) : Bytes :=
  let ds := (nibbles (slice 4 10 p)).take (byteAt 0 p) ++ nibbles (slice 0x0E 2 p) ++ (nibbles (slice 0x10 2 p)).take 3
  let d := packNibbles 16 ds
  let e := nibbles (tdesEnc key (xorBytes (desEnc (key.take 8) (d.take 8)) (d.drop 8)))
  let r := e.filter (· ≤ 9) ++ (e.filter (10 ≤ ·)).map (· - 10)
  (r.take (byteAt 1 p)).map fun n => BitVec.ofNat 8 (0x30 + n)

/-- The CVC operations past checks 1 to 3. -/
def runCvc (x : OpIn) : OpOut :=
  let c := cvcCode x.ka.key.material x.param
  if x.v = 0x2300 then opResult c [] c else opCheck (c = slice 0x18 c.length x.param) stVerifyFail

/-! ### KDF_BIND (R170 to R172) -/

/-- USAGE of the KDF parameter block. -/
def kdfUsage (p : Bytes) : BitVec 32 := BitVec.ofNat 32 (field 4 4 p)

/-- KDF_BIND past checks 1 to 3. -/
def runKdfBind (x : OpIn) : OpOut :=
  let p := x.param
  { opOk [] [] with bind := some (2, .derived x.ka.key (slice 8 (byteAt 1 p) p) (slice 0x28 (byteAt 2 p) p)
      (wkClass (byteAt 0 p)) (kdfUsage p)) }

/-! ### KEY_EXPORT (R173, R174) -/

/-- The exported key: usage and mask cut by USAGE_MASK. -/
def exported (x : OpIn) : KeyMat :=
  let k := x.kc.key
  let m := BitVec.ofNat 32 (field 4 4 x.param)
  let u := k.usage &&& m
  { k with usage := u, derived := if uses u 18 || uses u 22 then k.derived &&& m else 0 }

/-- The key usage and mode of an exported key. -/
def exportCode (x : OpIn) : Option (Bytes × Byte) :=
  let u := (exported x).usage &&& ~~~0x800000
  x143Code u (Config.x143Pick u.toNat)

/-- Check 3 of R461 for KEY_EXPORT. -/
def exportKeysOk (x : OpIn) : Bool :=
  let f := byteAt 0 x.param
  let kb := x.kb.key
  let kc := x.kc.key
  (if f = 1 then isTdes kb.cls else isAes kb.cls) && uses kb.usage 6 && isSymmetric kc.cls && slotsFor kc.material.length ≤ 1 &&
  (f = 0 || ((isTdes kc.cls || (f = 2 && isAes kc.cls)) && (exportCode x).isSome)) && uses kc.usage 23 &&
  strengthOf kc ≤ strengthOf kb

/-- The random bytes KEY_EXPORT reserves. -/
def exportDraws (f : Nat) (kb kc : KeyMat) : Nat := if f = 1 || f = 2 then x143PadLen kb.cls kc.material.length else 0

/-- KEY_EXPORT past checks 1 to 3. -/
def runExport (x : OpIn) : OpOut :=
  let k := exported x
  let b := if byteAt 0 x.param = 0 then nativeSeal x.kb.key.material (x.kb.slot.getD 0xFFFFFFFF) k
    else x143Seal x.kb.key ((exportCode x).getD ([], 0)) (uses k.usage 23) k x.drawn
  opResult b [] (toLe 8 b.length)

/-! ### The family -/

/-- Checks 1 to 3 of R461, in that order. -/
def payCheck (x : OpIn) : Option Status :=
  let p := x.param
  let pick := fun (fmt params keys : Bool) =>
    if !fmt then some stPinFormat else if !params then some stInputRange else if !keys then some stUsageDenied else none
  match x.v with
  | 0x2000 | 0x2010 | 0x2011 | 0x2020 => pick (pinFormatsOk x) (pinParamsOk x) (pinKeysOk x)
  | 0x2100 | 0x2101 | 0x2110 | 0x2111 => pick true (dukptOpParamsOk x) (dukptKeysOk x)
  | 0x2200 | 0x2201 | 0x2202 => pick true (emvParamsOk x) (emvKeysOk x)
  | 0x2300 | 0x2301 => pick true (cvcParamsOk x) (x.ka.key.cls = 4 && uses x.ka.key.usage 17)
  | 0x2400 => pick true (byteAt 0 p ≤ 4 && byteAt 1 p ≤ 32 && byteAt 2 p ≤ 32)
      (isAes x.ka.key.cls && uses x.ka.key.usage 18 && x.ka.slot.isSome && subUsage (kdfUsage p) x.ka.key.derived &&
        !uses (kdfUsage p) 18 && usageOk (wkClass (byteAt 0 p)) (kdfUsage p) 0 none)
  | _ => pick true (byteAt 0 p ≤ 2) (exportKeysOk x)

/-- The keys an operation derives into the lane's key registers (R147). -/
def payKeys (x : OpIn) : List Bytes :=
  match x.v with
  | 0x2000 | 0x2010 | 0x2011 | 0x2020 => if byteAt 4 x.param = 0 then [] else [pinInKey x]
  | 0x2100 | 0x2101 | 0x2110 | 0x2111 => [dukptKey x]
  | 0x2200 | 0x2201 | 0x2202 => [emvMaster x, emvSession x.ka.key.cls (emvMaster x) (slice 2 2 x.param)]
  | _ => []

/-- The payment operations past checks 1 to 3. -/
def payRun (x : OpIn) : OpOut :=
  match x.v with
  | 0x2000 | 0x2010 | 0x2011 | 0x2020 => runPin x
  | 0x2100 | 0x2101 | 0x2110 | 0x2111 => runDukpt x
  | 0x2200 | 0x2201 | 0x2202 => runEmv x
  | 0x2300 | 0x2301 => runCvc x
  | 0x2400 => runKdfBind x
  | _ => runExport x

end Sys2Proof.Machine
end

