-- ==== Sys2Proof/Machine/PublicKey.lean ====
section
/-! DEFINITION. The public-key operations (07 R201 to R222): their checks before the fixed time, the bytes they draw, the time they
are charged, and what each computes. -/

namespace Sys2Proof.Machine

/-! ### RSA (R207; RFC 8017) -/

/-- The public key n, e of an RSA key of class 0x10 or 0x11; n of a resident key comes from its companion area (08 R233). -/
def rsaPublicOf (k : KeyMat) : Nat × Nat :=
  let h := k.material.length - 4
  let r := rsaParts k.material
  let own := if k.cls = 0x10 then (r.1 * r.2.1, r.2.2.2.2.2) else (beNat (k.material.take h), leNat (k.material.drop h))
  match k.companion with
  | .rsa n _ => (n, own.2)
  | _ => own

/-- The private operation in CRT form, its exponents blinded by a multiple of λ(n) and its input by a factor (R218). -/
def rsaPrivate (k : KeyMat) (bl : Blind) (c : Nat) : Nat :=
  let r := rsaParts k.material
  let p := r.1
  let q := r.2.1
  let n := p * q
  let f := if Nat.gcd bl.weight n = 1 then bl.weight % n else 1
  let c := c * powMod f r.2.2.2.2.2 n % n
  let e := bl.multiple * Nat.lcm (p - 1) (q - 1)
  let m2 := powMod c (r.2.2.2.1 + e) q
  (m2 + q * (r.2.2.2.2.1 * subMod (powMod c (r.2.2.1 + e) p) m2 p % p)) * invMod f n % n

/-! ### Primes (R213) -/

/-- The primes below 2^16. -/
def smallPrimes : List Nat :=
  (List.range 65536).filter fun n => 2 ≤ n && (List.range 256).all fun d => d < 2 || n ≤ d || n % d ≠ 0

/-- One Miller–Rabin round on an odd number. -/
def millerRabin (n base : Nat) : Bool :=
  let s := ((List.range n.log2).find? fun i => (n - 1) / 2 ^ i % 2 = 1).getD 0
  let x := powMod base ((n - 1) / 2 ^ s) n
  x = 1 || (List.range s).any fun i => powMod x (2 ^ i) n = n - 1

/-- The least number of the interval for a prime of b bits: √2 · 2^(b−1), rounded up. -/
def primeLow (b : Nat) : Nat := Nat.sqrt (2 ^ (2 * b - 1) - 1) + 1

/-- The start value of the interval for a random value. -/
def primeStart (b v : Nat) : Nat :=
  let x := primeLow b + v % (2 ^ b - primeLow b)
  if x % 2 = 1 then x else x + 1

/-- One prime of b bits: the sieve, the base-2 round on at most 3b survivors, then the further rounds on the one candidate that meets the
conditions. -/
def primeSearch (b start : Nat) (suits : Nat → Bool) (bases : List Nat) : Option Nat :=
  let left := ((List.range 131072).map fun i => start + 2 * i).filter fun n => smallPrimes.all fun p => n % p ≠ 0
  ((left.take (3 * b)).find? fun n => millerRabin n 2 && suits n).filter fun n => bases.all fun a => millerRabin n (2 + a % (n - 3))

/-- The private exponent. -/
def rsaExponent (e p q : Nat) : Nat := invMod e (Nat.lcm (p - 1) (q - 1))

/-- The two primes of an RSA key with their conditions of FIPS 186-5: p − 1 and q − 1 prime to e, p and q far apart, d above 2^(k/2). -/
def rsaPrimes (bits e : Nat) (drawn : Bytes) : Option (Nat × Nat) :=
  let b := bits / 2
  let fits := fun p : Nat => p < 2 ^ b && Nat.gcd (p - 1) e = 1
  let bases := fun i : Nat => (List.range (Config.primeRounds b)).map fun j => Config.primeValues (2 + 2 * j + i) drawn
  match primeSearch b (primeStart b (Config.primeValues 0 drawn)) fits (bases 0) with
  | none => none
  | some p =>
    let far := fun q : Nat => fits q && 2 ^ (b - 100) < max p q - min p q && 2 ^ b < rsaExponent e p q
    (primeSearch b (primeStart b (Config.primeValues 1 drawn)) far (bases 1)).map fun q => (p, q)

/-- MGF1 over a hash, n bytes. -/
def mgf1 (alg : Nat) (seed : Bytes) (n : Nat) : Bytes :=
  ((List.range (ceilDiv n (hashLen alg))).flatMap fun i => hashAlg alg 0 (seed ++ toBe 4 i)).take n

/-- The DigestInfo prefix of a hash. -/
def digestInfo (alg : Nat) : Bytes :=
  let tail := fun (id len : Byte) => [0x30, len + 17, 0x30, 0x0D, 0x06, 0x09, 0x60, 0x86, 0x48, 0x01, 0x65, 0x03, 0x04, 0x02, id, 0x05,
    0x00, 0x04, len]
  match alg with
  | 0 => [0x30, 0x21, 0x30, 0x09, 0x06, 0x05, 0x2B, 0x0E, 0x03, 0x02, 0x1A, 0x05, 0x00, 0x04, 0x14]
  | 2 => tail 1 32
  | 3 => tail 2 48
  | _ => tail 3 64

/-- The PKCS #1 v1.5 encoded message of n bytes. -/
def pkcs1Encode (alg n : Nat) (digest : Bytes) : Bytes :=
  let t := digestInfo alg ++ digest
  [0x00, 0x01] ++ List.replicate (n - t.length - 3) 0xFF ++ [0x00] ++ t

/-- The PSS encoded message for a modulus of some bits; none where it does not fit. -/
def pssEncode (alg bits : Nat) (digest salt : Bytes) : Option Bytes :=
  let em := ceilDiv (bits - 1) 8
  let h := hashLen alg
  if em < h + salt.length + 2 then none
  else
    let hh := hashAlg alg 0 (zeroBytes 8 ++ digest ++ salt)
    let db := zeroBytes (em - salt.length - h - 2) ++ [0x01] ++ salt
    let masked := xorBytes db (mgf1 alg hh db.length)
    some (toBe db.length (beNat masked % 2 ^ (bits - 1 - 8 * (h + 1))) ++ hh ++ [0xBC])

/-- Whether a recovered message of a modulus of some bits is a PSS encoding of a digest with a salt of the hash's length. -/
def pssOk (alg bits : Nat) (digest : Bytes) (m : Nat) : Bool :=
  let em := ceilDiv (bits - 1) 8
  let h := hashLen alg
  let n := em - h - 1
  let b := toBe em m
  let hh := slice n h b
  let top := 2 ^ (bits - 1 - 8 * (h + 1))
  let db := toBe n (beNat (xorBytes (b.take n) (mgf1 alg hh n)) % top)
  2 * h + 2 ≤ em && m < 256 ^ em && b.getLast? = some 0xBC && beNat (b.take n) < top &&
  db.take (n - h) = zeroBytes (n - h - 1) ++ [0x01] && hashAlg alg 0 (zeroBytes 8 ++ digest ++ db.drop (n - h)) = hh

/-- The OAEP encoding of a message in n bytes, with an empty label. -/
def oaepEncode (alg n : Nat) (m seed : Bytes) : Bytes :=
  let h := hashLen alg
  let db := hashAlg alg 0 [] ++ zeroBytes (n - m.length - 2 * h - 2) ++ [0x01] ++ m
  let masked := xorBytes db (mgf1 alg seed db.length)
  [0x00] ++ xorBytes seed (mgf1 alg masked h) ++ masked

/-- The message of an OAEP encoding. -/
def oaepDecode (alg : Nat) (em : Bytes) : Option Bytes :=
  let h := hashLen alg
  let masked := em.drop (h + 1)
  let seed := xorBytes (slice 1 h em) (mgf1 alg masked h)
  let db := xorBytes masked (mgf1 alg seed masked.length)
  let rest := (db.drop h).dropWhile (· = 0)
  if 2 * h + 2 ≤ em.length && em.getD 0 1 = 0 && db.take h = hashAlg alg 0 [] && rest.head? = some 0x01 then some (rest.drop 1)
  else none

/-! ### Positions and checks before the fixed time (R204, R205, R210, R211, R215) -/

/-- Whether the public key is the key at KA: PUB_SRC is 1. -/
def pkPubSrc (x : OpIn) : Bool := byteAt 0 x.param = 1

/-- The positions an operation reads. -/
def pkPositions (v : Nat) (param : Bytes) : List Nat :=
  if pkIsPublic v then (if byteAt 0 param = 1 then [0] else [])
  else if pkIsKeygen v then (if byteAt 0 param = 1 then [1] else [])
  else [0]

/-- R205. -/
def pkKeysOk (x : OpIn) : Bool :=
  if pkIsKeygen x.v then byteAt 0 x.param ≠ 1 || (x.kb.key.cls = 3 && uses x.kb.key.usage 6)
  else if pkIsPublic x.v then !pkPubSrc x || pkKeyOk x.v x.n x.ka.key
  else pkKeyOk x.v x.n x.ka.key

/-- The checked fields of Table 7.4. -/
def pkParamsOk (x : OpIn) : Bool :=
  let p := x.param
  if pkIsKeygen x.v then
    byteAt 0 p ≤ 1 && (pkScheme x.v ≠ 0 || (byteAt 0 p = 1 && 65537 ≤ field 8 4 p && field 8 4 p % 2 = 1))
  else if pkIsAgree x.v then byteAt 0 p ≤ 4 && byteAt 1 p ≤ 64
  else if pkIsPublic x.v then
    byteAt 0 p ≤ 1 && (x.v / 16 ≠ 0x404 || field 0x48 2 p + 2 * hashLen (pkVar x.v) + 2 ≤ x.n)
  else true

/-- USAGE of an agreement or of a key generation. -/
def pkNewUsage (p : Bytes) : BitVec 32 := BitVec.ofNat 32 (field 4 4 p)

/-- The usages Table 7.5 gives for the class of a generated key. -/
def pkClassUses (v : Nat) : List Nat :=
  match pkScheme v with | 0 => [0, 1, 19, 20, 21] | 2 => [19, 20, 22] | 3 => [19, 20] | _ => [22]

/-- R210 for a generated key, given whether the tenant holds shielded class, and R211 for an agreement; the usage has the form of
08 R231. -/
def pkUsageOk (x : OpIn) (shielded : Bool) : Bool :=
  let u := pkNewUsage x.param
  if pkIsKeygen x.v then
    (usageBits u).all (fun i => i = 24 || (pkClassUses x.v).contains i) && hasAny u (pkClassUses x.v) && (shielded || !uses u 24) &&
    usageOk (pkPrivate x.v) u (BitVec.ofNat 32 (field 0x0C 4 x.param)) none
  else if pkIsAgree x.v then subUsage u x.ka.key.derived && !uses u 18 && usageOk (wkClass (byteAt 0 x.param)) u 0 none
  else true

/-- The kind of core (R197). -/
def pkKind (x : OpIn) : UnitKind :=
  if pkIsPublic x.v then .standard
  else if uses (if pkIsKeygen x.v then pkNewUsage x.param else x.ka.key.usage) 24 then .shielded else .standard

/-! ### Draws and times -/

/-- The bytes of a private key or per-signature value that an operation draws (R208 to R210). -/
def pkSecretBytes (v : Nat) : Nat :=
  if pkScheme v = 0 then (if pkFunc v = 1 || pkFunc v = 4 then hashLen (pkVar v) else 0)
  else if pkIsKeygen v then
    (match pkScheme v with | 1 => 72 | 2 => scalarBytes (curveOf (pkVar v)) | 3 => edF v | _ => xF v)
  else if pkScheme v = 2 && pkFunc v = 0 then scalarBytes (curveOf (pkVar v))
  else 0

/-- The bytes of the 64-bit multiple that blinds a secret exponent or scalar (R218). -/
def pkMultiple (v : Nat) : Nat := if pkIsPublic v || pkScheme v = 1 || (pkScheme v = 0 && pkFunc v = 8) then 0 else 8

/-- The bytes an operation reserves (R216): its secret value or salt, then its blinding values, then on a shielded core the order of its
slots. A verification and PUBLIC_RAW draw nothing. -/
def pkDraws (v : Nat) (shielded : Bool) : Nat :=
  pkSecretBytes v + (if pkIsPublic v then 0 else pkMultiple v + Config.blindingBytes v + (if shielded then Config.foleyBytes v else 0))

/-- The blinding values of an operation. -/
def pkBlind (x : OpIn) : Blind :=
  let b := x.drawn.drop (pkSecretBytes x.v)
  { multiple := beNat (b.take (pkMultiple x.v)), weight := beNat ((b.drop (pkMultiple x.v)).take (Config.blindingBytes x.v)) }

/-- Cycles on a standard core (Tables 7.6, 7.7). -/
def pkStdCycles (v n : Nat) (slotKey : Bool) : Nat :=
  let w := ceilDiv n 32
  let m := max 1 (ceilDiv n (if pkVar v = 0 then 128 else 136))
  let x := pkVar v
  match pkScheme v with
  | 0 => if pkFunc v = 8 then 122880 * w ^ 4 + 15000 * w ^ 3 else if pkIsPublic v then 384 * w ^ 2 else 375 * w ^ 3
  | 1 => if pkFunc v = 0 then [200000, 448000, 792000].getD (x % 4) 0 else [216000, 472000, 824000].getD (x % 4) 0
  | 2 =>
    (match pkFunc v with
     | 0 => [48000, 162000, 496000].getD x 0 | 1 => [96000, 324000, 992000].getD x 0
     | 2 => [72000, 243000, 744000].getD x 0 | _ => [24000, 81000, 248000].getD x 0) +
    (if pkFunc v = 0 && !slotKey then [24000, 81000, 248000].getD x 0 else 0)
  | 3 =>
    (match pkFunc v with
     | 0 => if x = 0 then 39808 + 192 * m else 179800 + 200 * m
     | 1 => if x = 0 then 79904 + 96 * m else 359900 + 100 * m
     | _ => if x = 0 then 16000 else 72000) +
    (if pkFunc v = 0 && !slotKey then (if x = 0 then 16000 else 72000) else 0)
  | _ => if pkFunc v = 2 then (if x = 0 then 56000 else 252000) else (if x = 0 then 16000 else 72000)

/-- Cycles on the core the operation runs on (R217): every shielded time is 8/5 of the standard one, rounded up. -/
def pkCycles (v n : Nat) (slotKey shielded : Bool) : Nat :=
  let c := pkStdCycles v n slotKey
  if shielded then ceilDiv (8 * c) 5 else c

/-- What R199 charges: whole µs at 1.6 GHz. -/
def pkMicros (v n : Nat) (slotKey shielded : Bool) : Nat := ceilDiv (pkCycles v n slotKey shielded) 1600

/-! ### What the operations give (R206 to R213, R222) -/

/-- Success with a binding at KC. -/
def opBind (b : Binding) : OpOut := { opOk [] [] with bind := some (2, b) }

/-- The public key an RSA operation uses. -/
def rsaPublicIn (x : OpIn) : Nat × Nat :=
  if pkPubSrc x then rsaPublicOf x.ka.key else (beNat (slice 0x50 x.n x.param), field 4 4 x.param)

/-- R222 for a modulus from stage. -/
def rsaModulusOk (x : OpIn) : Bool :=
  pkPubSrc x || (beNat (slice 0x50 x.n x.param) % 2 = 1 && byteAt 0x50 x.param ≠ 0)

/-- The RSA operations that use the public key. -/
def runRsaPublic (x : OpIn) : OpOut :=
  let k := rsaPublicIn x
  let m := beNat x.input
  let alg := pkVar x.v
  let digest := slice 8 (hashLen alg) x.param
  let inRange := 0 < m && m < k.1
  if !rsaModulusOk x then opFail stInputRange
  else match pkFunc x.v with
    | 2 => opCheck (inRange && toBe x.n (powMod m k.2 k.1) = pkcs1Encode alg x.n digest) stVerifyFail
    | 3 => opCheck (inRange && pssOk alg (Nat.log2 k.1 + 1) digest (powMod m k.2 k.1)) stVerifyFail
    | 4 =>
      let em := oaepEncode alg x.n (x.input.take (field 0x48 2 x.param)) (x.drawn.take (hashLen alg))
      opOk (toBe x.n (powMod (beNat em) k.2 k.1)) []
    | _ => if inRange then opOk (toBe x.n (powMod m k.2 k.1)) [] else opFail stInputRange

/-- The signature of a PSS encoding that does not fit its modulus: the spec states none. -/
def pssOpen (x : OpIn) : Bytes := fit x.n (Config.unstated (beNat (x.input ++ x.drawn)) x.n)

/-- The RSA operations that use the private key. -/
def runRsaPrivate (x : OpIn) : OpOut :=
  let k := x.ka.key
  let alg := pkVar x.v
  let m := beNat x.input
  let n := (rsaPublicOf k).1
  let out := fun c : Nat => toBe x.n (rsaPrivate k (pkBlind x) c)
  match pkFunc x.v with
  | 0 => opOk (out (beNat (pkcs1Encode alg x.n x.input))) []
  | 1 =>
    match pssEncode alg (8 * x.n) x.input (x.drawn.take (hashLen alg)) with
    | some em => opOk (out (beNat em)) []
    | none => opOk (pssOpen x) []
  | 5 =>
    if m = 0 || n ≤ m then opFail stInputRange
    else match oaepDecode alg (out m) with
      | some t => opResult t [] (toLe 8 t.length)
      | none => opFail stPaddingInvalid
  | _ => if m = 0 || n ≤ m then opFail stInputRange else opOk (out m) []

/-- R222 for a point X ‖ Y: none where it is acceptable. -/
def pointCheck (c : Curve) (q : Bytes) : Option Status :=
  if c.p ≤ beNat (q.take c.f) || c.p ≤ beNat (slice c.f c.f q) then some stInputRange
  else if (pointOf c q).isNone then some stPointInvalid
  else none

/-- The key of an agreement (R211): Z, the parameter block, and the position KC. -/
def runDerive (z p : Bytes) : OpOut :=
  let cls := wkClass (byteAt 0 p)
  let k := kdfSingle z (slice 8 (byteAt 1 p) p) (clsLen cls)
  let k := if isTdes cls then parityAll k else k
  if symmetricOk cls k then
    opBind (.bound { cls := cls, usage := pkNewUsage p, derived := 0, hash := 0, material := k })
  else opFail stUsageDenied

/-- Release of a generated key: the public key, then its blob under KB or its binding at KC (R212). -/
def runKeygen (x : OpIn) (cls : Nat) (pub secret : Bytes) : OpOut :=
  let p := x.param
  let k : KeyMat := { cls := cls, usage := pkNewUsage p, derived := BitVec.ofNat 32 (field 0x0C 4 p), hash := 0, material := secret }
  if byteAt 0 p = 1 then
    let b := pub ++ nativeSeal x.kb.key.material (x.kb.slot.getD 0xFFFFFFFF) k
    opResult b [] (toLe 8 b.length)
  else { opResult pub [] (toLe 8 pub.length) with bind := some (2, .bound k) }

/-- A generated RSA key (R213): its modulus and its material. -/
def rsaGenerate (x : OpIn) : Option (Bytes × Bytes) :=
  let e := field 8 4 x.param
  let h := x.n / 2
  (rsaPrimes (8 * x.n) e x.drawn).map fun pq =>
    (toBe x.n (pq.1 * pq.2), toBe h pq.1 ++ toBe h pq.2 ++ toBe h (invMod e (pq.1 - 1)) ++ toBe h (invMod e (pq.2 - 1)) ++
      toBe h (invMod pq.2 pq.1) ++ toLe 4 e)

/-- A generated key, public and private: none where no prime qualifies (R208 to R213). -/
def pkGenerate (x : OpIn) : Option (Bytes × Bytes) :=
  let bl := pkBlind x
  match pkScheme x.v with
  | 0 => rsaGenerate x
  | 1 =>
    let d := scalarFrom (2 ^ 512) (x.drawn.take 72)
    some (toBe (pkP x.v) (powMod 2 d (ffdhPrime (pkVar x.v))), toBe 64 d)
  | 2 =>
    let c := curveOf (pkVar x.v)
    let d := scalarFrom c.n (x.drawn.take (scalarBytes c))
    let pub := ecPublicWith c bl d
    some (pub, toBe c.f d ++ pub)
  | 3 =>
    let e := if pkVar x.v = 0 then ed25519 else ed448
    let sk := x.drawn.take e.f
    let pub := edPublicWith e bl sk
    some (pub, sk ++ pub)
  | _ =>
    let m := if pkVar x.v = 0 then x25519 else x448
    let k := x.drawn.take m.f
    let pub := xdh m bl k (toLe m.f m.g)
    some (pub, k ++ pub)

/-- The key generations. -/
def runGenerate (x : OpIn) : OpOut :=
  match pkGenerate x with
  | none => opFail stFaultDetected
  | some k => runKeygen x (pkPrivate x.v) k.1 k.2

/-- FFDH agreement (R208). -/
def runFfdh (x : OpIn) : OpOut :=
  let p := ffdhPrime (pkVar x.v)
  let n := pkP x.v
  let d := beNat x.ka.key.material
  let y := beNat (slice 0x48 n x.param)
  if d = 0 || (p - 1) / 2 ≤ d || y ≤ 1 || p - 1 ≤ y || powMod y ((p - 1) / 2) p ≠ 1 then opFail stInputRange
  else runDerive (toBe n (powMod y d p)) x.param

/-- ECDSA and ECDH (R209). -/
def runEc (x : OpIn) : OpOut :=
  let c := curveOf (pkVar x.v)
  let d := beNat (x.ka.key.material.take c.f)
  let k := scalarFrom c.n (x.drawn.take (scalarBytes c))
  let badD := d = 0 || c.n ≤ d
  match pkFunc x.v with
  | 0 => if badD then opFail stInputRange else opOk (ecdsaSign c (pkBlind x) d k x.input) []
  | 1 =>
    let m := x.ka.key.material
    let q := if pkPubSrc x then (if x.ka.key.cls = pkPublic x.v then m else m.drop c.f) else slice 8 (2 * c.f) x.param
    match pointCheck c q with
    | some st => opFail st
    | none => opCheck (ecdsaVerify c q x.input (slice (8 + 2 * c.f) (2 * c.f) x.param)) stVerifyFail
  | _ =>
    let q := slice 0x48 (2 * c.f) x.param
    if badD then opFail stInputRange
    else match pointCheck c q, ecdhWith c (pkBlind x) d q with
      | some st, _ => opFail st
      | none, some z => runDerive z x.param
      | none, none => opFail stPointInvalid

/-- EdDSA (R210). -/
def runEd (x : OpIn) : OpOut :=
  let e := if pkVar x.v = 0 then ed25519 else ed448
  let m := x.ka.key.material
  match pkFunc x.v with
  | 0 => opOk (edSign e (pkBlind x) (m.take e.f) x.input) []
  | _ =>
    let a := if pkPubSrc x then (if x.ka.key.cls = pkPublic x.v then m else m.drop e.f) else slice 8 e.f x.param
    if (edDecode e a).isNone then opFail stPointInvalid
    else opCheck (edVerify e a x.input (slice (8 + e.f) (2 * e.f) x.param)) stVerifyFail

/-- XDH agreement (R210). -/
def runXdh (x : OpIn) : OpOut :=
  let m := if pkVar x.v = 0 then x25519 else x448
  let z := xdh m (pkBlind x) (x.ka.key.material.take m.f) (slice 0x48 m.f x.param)
  if allZero z then opFail stPointInvalid else runDerive z x.param

/-- The operations of a public-key core past the checks of R215. -/
def pkRun (x : OpIn) : OpOut :=
  if pkIsKeygen x.v then runGenerate x
  else match pkScheme x.v with
  | 0 => if pkIsPublic x.v then runRsaPublic x else runRsaPrivate x
  | 1 => runFfdh x
  | 2 => runEc x
  | 3 => runEd x
  | _ => runXdh x

/-- The failures of R215 but the empty position, in its order; last a derived TDES key that breaks 04 R119 (R211). -/
def pkCheck (x : OpIn) (shielded : Bool) : Option Status :=
  if !pkKeysOk x then some stUsageDenied
  else if !pkParamsOk x then some stInputRange
  else if !pkUsageOk x shielded then some stUsageDenied
  else if pkIsAgree x.v && (pkRun x).status = stUsageDenied then some stUsageDenied
  else none

/-! ### The checks before release (R220, Table 7.8) -/

/-- A value a core's check of a generated key works on: the spec gives none. -/
def pkTestValue (x : OpIn) (n : Nat) : Bytes := Config.unstated (beNat x.drawn) n

/-- The input representative of an RSA private operation, none where there is none or the input is refused. -/
def rsaRepresentative (x : OpIn) : Option Nat :=
  let m := beNat x.input
  match pkFunc x.v with
  | 0 => some (beNat (pkcs1Encode (pkVar x.v) x.n x.input))
  | 1 => (pssEncode (pkVar x.v) (8 * x.n) x.input (x.drawn.take (hashLen (pkVar x.v)))).map beNat
  | _ => if m = 0 || (rsaPublicOf x.ka.key).1 ≤ m then none else some m

/-- Whether the public operation undoes the private one on a value. -/
def rsaRoundTrip (k : KeyMat) (bl : Blind) (m : Nat) : Bool :=
  let pub := rsaPublicOf k
  powMod (rsaPrivate k bl m) pub.2 pub.1 = m % pub.1

/-- Whether a generated key passes its check: an RSA key by an encryption and decryption, an EC or EdDSA key by a signature and its
verification, an FFDH or XDH key by its public value. -/
def pkNewOk (x : OpIn) (pub secret : Bytes) : Bool :=
  let bl := pkBlind x
  match pkScheme x.v with
  | 0 => rsaRoundTrip { cls := 0x10, usage := 0, derived := 0, hash := 0, material := secret } bl (beNat (pkTestValue x x.n))
  | 1 =>
    let p := ffdhPrime (pkVar x.v)
    1 < beNat pub && beNat pub < p - 1 && powMod (beNat pub) ((p - 1) / 2) p = 1
  | 2 =>
    let c := curveOf (pkVar x.v)
    let d := pkTestValue x 32
    ecdsaVerify c pub d (ecdsaSign c bl (beNat (secret.take c.f)) (scalarFrom c.n (pkTestValue x (scalarBytes c))) d)
  | 3 =>
    let e := if pkVar x.v = 0 then ed25519 else ed448
    let d := pkTestValue x 32
    edVerify e pub d (edSign e bl (secret.take e.f) d)
  | _ => !allZero pub

/-- Whether an operation's result passes its check. The checks of a verification, of a public RSA operation and of an agreement compare two
computations of one value and hold of every result computed here. -/
def pkChecked (x : OpIn) : Bool :=
  let m := x.ka.key.material
  if pkIsKeygen x.v then (pkGenerate x).all fun k => pkNewOk x k.1 k.2
  else match pkScheme x.v with
  | 0 => pkIsPublic x.v || (rsaRepresentative x).all (rsaRoundTrip x.ka.key (pkBlind x))
  | 2 =>
    let c := curveOf (pkVar x.v)
    pkFunc x.v ≠ 0 || ecdsaVerify c (m.drop c.f) x.input (pkRun x).dst
  | 3 =>
    let e := if pkVar x.v = 0 then ed25519 else ed448
    pkFunc x.v ≠ 0 || edVerify e (m.drop e.f) x.input (pkRun x).dst
  | _ => true

end Sys2Proof.Machine
end

