-- ==== Sys2Proof/Machine/Issue.lean ====
section
/-! DEFINITION. OP (03 R90, R92): the checks at the OP, what it reserves (01 R21, 04 R131 to R134), the grant of a unit (10 R283), and
the release or failure of a result. The completions of lanes, engines, digest units and cores are in Results.lean. -/

namespace Sys2Proof.Machine

/-! ### The RNG's own operations (09 R270, R271) -/

/-- KAT_CONDITIONER and KAT_DRBG; RANDOM and RANDOM_PR give the bytes drawn for them. -/
def rngRun (x : OpIn) : OpOut :=
  let p := x.param
  let eLen := byteAt 0 p
  let rLen := byteAt 2 p
  let add := slice 0xC0 (byteAt 3 p) p
  if x.v = 0x5010 then opOk (cmacKey 3 p x.input) []
  else if x.v = 0x5020 then
    if 32 ≤ eLen && eLen ≤ 64 && byteAt 1 p ≤ 32 && (rLen = 0 || (32 ≤ rLen && rLen ≤ 64)) && byteAt 3 p ≤ 32 then
      let kv := drbgInstantiate (slice 0x10 eLen p) (slice 0x50 16 p) (slice 0x60 (byteAt 1 p) p)
      let kv := if rLen = 0 then kv else drbgReseed kv (slice 0x80 rLen p) add
      let g := drbgGenerate kv add x.n
      opOk (drbgGenerate g.2 add x.n).1 []
    else opFail stInputRange
  else opResult x.drawn [] x.drawn

/-! ### What an operation reads -/

/-- The family of an operation code. -/
def opFamily (v : Nat) : Nat := v / 4096

/-- The key fields an operation reads. -/
def opPositions (v : Nat) (param : Bytes) : List Nat :=
  match opFamily v with
  | 1 => [0]
  | 2 => if v < 0x2100 then [0, 1] else if v = 0x2500 then [1, 2] else [0]
  | 3 => if 2 ≤ digMode v then [0] else []
  | 4 => pkPositions v param
  | _ => []

/-- The binding a key field of a code names. -/
def keyField (t : Take) (c : Bytes) (i : Nat) : Option Binding := boundKey t (opKeyPos c i)

/-- A key field as the operation reads it, empty where it does not. -/
def keyIn (t : Take) (c : Bytes) (reads : List Nat) (i : Nat) : KeyIn :=
  if reads.contains i then ((keyField t c i).map bindingKey).getD KeyIn.empty else KeyIn.empty

/-- The parameter block of an OP. -/
def opParamBlock (t : Take) (c : Bytes) : Bytes := stageRead t (opParam c) ((opSpec c).elim 0 (·.param))

/-- The operands of an OP, its input from stage. -/
def opInput (t : Take) (c : Bytes) (param input nonce drawn : Bytes) : OpIn :=
  let reads := opPositions (opCode c) param
  { v := opCode c, n := opLen c, input := input, param := param, ka := keyIn t c reads 0, kb := keyIn t c reads 1,
    kc := keyIn t c reads 2, drawn := drawn, nonce := nonce }

/-- The operands at the OP, before anything is reserved. -/
def opStart (t : Take) (c : Bytes) : OpIn := opInput t c (opParamBlock t c) (stageRead t (opSrc c) ((opSpec c).elim 0 (·.src))) [] []

/-- Whether every key the operation reads is sound (05 R171). -/
def opSound (x : OpIn) : Bool := x.ka.sound && x.kb.sound && x.kc.sound

/-- What an operation gives, past the checks at its OP. A derived TDES key that breaks R119 fails first. -/
def opRun (x : OpIn) : OpOut :=
  if !opSound x then opFail stInputRange
  else match opFamily x.v with
    | 1 => symRun x
    | 2 => payRun x
    | 3 => digRun x
    | 4 => pkRun x
    | _ => rngRun x

/-! ### Release and failure (R94, R95, R105) -/

/-- Outcomes that SOFT lets a program pass. -/
def softStatus (st : Status) : Bool := st = stVerifyFail || st = stTagMismatch || st = stPinMismatch

/-- Parameter write-backs. -/
def writeParams (base : Nat) (ps : List (Nat × Bytes)) (t : Take) : Take := ps.foldl (fun t p => stageWrite (base + p.1) p.2 t) t

/-- The OP ends with its result released, or with its failure. -/
def finishOp (t : Take) (c : Bytes) (o : OpOut) (s : State) : State :=
  if o.status = 0 then
    let t0 := t
    let t := writeParams (opParam c) o.params (stageWrite (opDst c) o.dst t)
    let t := { t with lastOk := true, op := none, result := if o.result.isSome then o.result else t.result }
    let t := match o.bind with
      | some b => bindKey (opKeyPos c b.1) b.2 t
      | none => t
    settleAllPins (leaveUnit t0 (setTake (nextCode t) s))
  else if softStatus o.status && opSoft c then
    settleAllPins (leaveUnit t (setTake (nextCode { t with lastOk := false, op := none }) s))
  else endTake { t with lastOk := false } o.status s

/-! ### Reservations (04 R131 to R134) -/

/-- The nonce of a slot's next local count (04 Table 4.8). -/
def nonceOf (s : State) (slot count : Nat) : Bytes :=
  toBe 4 (s.vault.member * 2 ^ 23 + slot % 2 ^ 17) ++ toBe 3 s.vault.epoch ++ toBe 5 count

/-- Whether one more use stays within a cap. -/
def capAllows (cap count : Nat) : Bool := cap = 0 || count < cap

/-- A use counted; past the field's width the spec states no count. -/
def nextCount (s : State) (n : Nat) : Nat := if n + 1 < 2 ^ 40 then n + 1 else leNat (Config.unstated s.free 5) % 2 ^ 40

/-- Count one use of the material a take bound; none where the cap forbids it (R134). -/
def countUse (slot gen : Nat) (s : State) : Option State :=
  let x := slotOf s slot
  if x.gen = gen then
    if capAllows x.useCap x.useCount then some (mapGroup slot (fun y => { y with useCount := nextCount s x.useCount }) s) else none
  else
    match s.keys.retained.find? fun r => r.slot = slot && r.gen = gen with
    | some r =>
      if capAllows r.useCap r.useCount then
        some { s with keys := { s.keys with retained := s.keys.retained.map fun q =>
          if q.slot = slot && q.gen = gen then { q with useCount := nextCount s q.useCount } else q } }
      else none
    | none => some s

/-- What a step of the OP comes to: it goes on, ends the take, or waits. -/
inductive OpStep where
  | go (t : Take) (s : State)
  | stop (st : Status) (s : State)
  | wait (s : State)

/-- The use of a resident slot that an encryption or wrap counts. -/
def reserveUse (t : Take) (c : Bytes) (s : State) : OpStep :=
  if opFamily (opCode c) = 1 && symEncrypts (opCode c) then
    match keyField t c 0 with
    | some (.resident slot gen _) =>
      if recorded t = some .use then .go (useRecord t) s
      else match countUse slot gen s with
        | some s => .go (reserve .use t) s
        | none => .stop stKeyExhausted s
    | _ => .go t s
  else .go t s

/-- Whether an OP is a GCM encryption. -/
def isGcmEnc (v : Nat) : Bool := opFamily v = 1 && symMode v = 3 && !symDec v

/-- A record write of a later epoch waits or is under way, whatever has become of the take that asked for it. -/
def wrapPending (s : State) : Bool :=
  s.vault.queued.waiters.contains .wrap ||
    s.vault.outstanding.any fun r => match r.why with
      | .writeRecord c => c.waiters.contains .wrap
      | _ => false

/-- Start the vault write of epoch + 1, unless it is under way (R132). -/
def startWrap (s : State) : State :=
  if wrapPending s then s
  else vaultChange { VaultChange.none with epoch := some (s.vault.epoch + 1), waiters := [.wrap] } s

/-- The nonce of a GCM encryption, with its use (R131 to R133, R136). A slot whose next local count is the largest waits for the
next epoch with nothing reserved. -/
def reserveNonce (t : Take) (c : Bytes) (s : State) : OpStep :=
  match keyField t c 0 with
  | some (.resident slot gen _) =>
    match recorded t, recorded (useRecord t) with
    | some .use, some (.nonce _) => .go (useRecord (useRecord t)) s
    | _, _ =>
      if s.vault.epoch = 0xFFFFFF then .stop stEpochExhausted s
      else match countUse slot gen s with
        | none => .stop stKeyExhausted s
        | some s' =>
          let n := (slotOf s slot).localCount
          if n = 0xFFFFFFFFFF then .wait (setTake { t with phase := .waitEpoch } (startWrap s))
          else
            let t := reserve (.nonce (nonceOf s slot n)) (reserve .use t)
            .go t (setSlot slot { slotOf s' slot with localCount := n + 1 } s')
  | _ => .go t s

/-- The nonce reserved just before the present place of the record. -/
def lastNonce (t : Take) : Bytes :=
  match t.record[t.cursor - 1]? with
  | some (.nonce b) => b
  | _ => []

/-- The random bytes an OP draws. -/
def opDraws (x : OpIn) : Nat :=
  match opFamily x.v with
  | 1 => if symDraws x.v then symBlock x.v else 0
  | 2 =>
    if x.v = 0x2000 then pinFillDraws x
    else if x.v = 0x2500 then exportDraws (byteAt 0 x.param) x.kb.key x.kc.key
    else 0
  | 4 => pkDraws x.v (pkKind x = .shielded)
  | 5 => if x.v ≤ 0x5001 then x.n else 0
  | _ => 0

/-! ### The unit (04 R122 to R126, R139; 07 R197, R198; 10 R283) -/

/-- The kind of unit an OP needs. -/
def opKind (x : OpIn) (o : OpSpec) : UnitKind := if opFamily x.v = 4 then pkKind x else o.kind

/-- An AEAD decryption, which needs an engine's hold memory. -/
def needsHold (v : Nat) : Bool := opFamily v = 1 && symMode v = 3 && symDec v

/-- Whether a take other than one holds an engine's hold memory. -/
def holdTaken (s : State) (id e : Nat) : Bool := s.takes.any fun u => u.id ≠ id && u.op.any fun o => o.hold = some e

/-- Whether an engine, idle or not, may serve a take's job. -/
def engineSuits (s : State) (t : Take) (e : Nat) : Bool :=
  let usable := fun i => healthy s 2 i && (tenantOf s t.tenant).sheet.engines.getLsbD i
  match t.op with
  | some o =>
    usable e && match o.hold with
      | some h => h = e || (!usable h && !holdTaken s t.id e)
      | none => !needsHold (opCode (codeAt t)) || !holdTaken s t.id e
  | none => false

/-- Whether a take waits for a unit and is not parked. -/
def waitsUnit (t : Take) : Bool := t.phase = .waitUnit && t.parked.isNone

/-- The takes that wait for a unit, the longest first. -/
def waiters (s : State) : List Take := s.units.jobs.filterMap fun id => (takeOf s id).filter waitsUnit

/-- Whether an idle unit of its kind may be given to a waiting take now: no take that has waited longer has a claim to it. Digest OPs are served
in the order of issue whatever their tenants (06 R179), the others in each tenant's order (04 R123, 07 R198). -/
def grantable (s : State) (t : Take) (k : UnitKind) (i : Nat) : Bool :=
  let before := (waiters s).takeWhile fun u => u.id ≠ t.id
  if k = .engine then
    healthy s 2 i && !unitBusy s 2 i && engineSuits s t i &&
    !before.any fun u => u.op.any fun o => o.kind = .engine && engineSuits s u i
  else mayGrant s (kindCode k) t.tenant i && !before.any fun u => (u.op.any fun o => o.kind = k) &&
    (u.tenant = t.tenant || (k = .digest && mayGrant s 3 u.tenant i))

/-- The charge of R199, made once for an OP. -/
def chargePk (t : Take) (c : Bytes) (o : OpRun) (s : State) : Take × State :=
  if recorded t = some .charge then (useRecord t, s)
  else
    let slotKey := match keyField t c 0 with
      | some (.resident _ _ _) => true
      | _ => false
    let n := pkMicros (opCode c) (opLen c) slotKey (o.kind = .shielded)
    (reserve .charge t, modTenant t.tenant (fun x => if x.round.pkRate = 0 then x else { x with pkLevel := x.pkLevel - (n * 65536 : Nat) }) s)

/-- On a TX7-L a standard core is wiped where its owner changes, and the tenant becomes its owner (07 R226, R227). -/
def ownCore (t : Take) (k : UnitKind) (i : Nat) (s : State) : State :=
  if k = .standard && s.chip.size = .large then
    let s := if tableGet 0 s.units.owners i = t.tenant + 1 then s else clearUnit 4 i s
    { s with units := { s.units with owners := tableSet 0 s.units.owners i (t.tenant + 1) } }
  else s

/-- What the key bus brings of a key: the cached states in place of an HMAC key, and the companion content of another beside it (08 R233). -/
def keyLoad (k : KeyMat) : List Bytes :=
  if k.material.isEmpty then []
  else match k.companion with
    | .none => [k.material]
    | .hmac inner outer => [inner, outer]
    | .table b => [k.material, b]
    | .rsa n b => [k.material, toBe (ceilDiv (n.log2 + 1) 8) n, b]

/-- What a unit loads for an OP: the keys it reads and those it derives, the PINs it decodes, a core's operands over what an earlier OP
left there, and the bytes that order its slots. -/
def unitLoad (k : UnitKind) (x : OpIn) (old : UnitRegs) : UnitRegs :=
  let core := k = .standard || k = .shielded
  let pins := if k = .lane && opFamily x.v = 2 && x.v < 0x2100 then pinLoad x else ([], [])
  let ops := x.input ++ x.param
  { keys := ([x.ka, x.kb, x.kc].flatMap fun k => keyLoad k.key) ++ (if opFamily x.v = 2 then payKeys x else []),
    pin := pins.1, ref := pins.2,
    memory := if core then ops ++ old.memory.drop ops.length else [],
    foley := if k = .shielded then x.drawn.drop (x.drawn.length - Config.foleyBytes x.v) else [],
    wipe := false }

/-- The operands of an OP under way, its input from stage. -/
def opUnderWay (t : Take) (c : Bytes) (o : OpRun) : OpIn :=
  opInput t c o.param (stageRead t (opSrc c) ((opSpec c).elim 0 (·.src))) o.nonce o.drawn

/-- A unit loads an OP. -/
def loadUnit (t : Take) (c : Bytes) (o : OpRun) (i : Nat) (s : State) : State :=
  let k := kindCode o.kind
  setRegs k i (unitLoad o.kind (opUnderWay t c o) (regsOf s k i)) s

/-- Where the segment after an input position ends. -/
def segmentEnd (n pos : Nat) : Nat := min n (pos + 4096)

/-- The reads of a host stream's input from one position to another. -/
def streamReads (o : OpRun) (a b : Nat) : List Burst :=
  (readBursts ((leNat (o.param.take 8) + a) % 2 ^ 64) (b - a) a)

/-- An engine begins the next segment of a job: its reads are issued if they have not been, then those of the segment after it
(04 R142). Where the domain of the next segment's input sleeps the job parks and leaves the engine (03 R104). -/
def engineGo (t : Take) (c : Bytes) (o : OpRun) (e : Nat) (s : State) : State :=
  let hold := if needsHold (opCode c) then some e else none
  let s := loadUnit t c o e (touchIsland 2 e s)
  let o := { o with unit := some e, hold := hold, saved := none }
  if !symHost (opCode c) then setTake { t with phase := .running, op := some o } s
  else
    let n := opLen c
    let here := segmentEnd n o.done
    let first := if o.asked < here then streamReads o o.asked here else []
    let r := issueList t none (t.todo ++ first) s
    let asked := max o.asked here
    if r.1.parked.isSome then
      setTake { r.1 with phase := .waitUnit, op := some { o with
        unit := none, asked := asked, hold := o.hold.filter fun _ => 0 < o.done,
        saved := if 0 < o.done then some e else none } } (clearUnit 2 e r.2)
    else
      let next := segmentEnd n here
      let r := issueList r.1 none (if asked < next then streamReads o asked next else []) r.2
      setTake { r.1 with phase := .running, parked := none, op := some { o with asked := max asked next } } r.2

/-- A waiting take is given a unit. -/
def startUnit (t : Take) (o : OpRun) (i : Nat) (s : State) : State :=
  let c := codeAt t
  let s := { s with units := { s.units with jobs := s.units.jobs.filter (· ≠ t.id) } }
  let s := touchIsland (kindCode o.kind) i (ownCore t o.kind i s)
  let t := { t with used := if t.used.contains (o.kind, i) then t.used else t.used ++ [(o.kind, i)] }
  if o.kind = .engine then engineGo t c { o with started := now s } i s
  else
    let r := if o.kind = .standard || o.kind = .shielded then chargePk t c o s else (t, s)
    setTake { r.1 with phase := .running, op := some { o with unit := some i, started := now s } } (loadUnit t c o i r.2)

/-- A take that waits for a unit and is offered one, whose island it may have to wait for (01 R11): no unit of its share left ends it, or on a re-execution turns it to the other
kind (04 R139). -/
def offerUnit (id i : Nat) (s : State) : State :=
  match takeOf s id with
  | some t =>
    match t.op, opSpec (codeAt t) with
    | some o, some spec =>
      if !waitsUnit t then s
      else if !shareRemains s (kindCode o.kind) t.tenant then
        match spec.other with
        | some k =>
          if 1 < t.runs && o.kind ≠ k && shareRemains s (kindCode k) t.tenant then setTake { t with op := some { o with kind := k } } s
          else endTake t stUnitUnavailable s
        | none => endTake t stUnitUnavailable s
      else if !grantable s t o.kind i then s
      else if unitReady s (kindCode o.kind) i then startUnit t o i s
      else touchIsland (kindCode o.kind) i s
    | _, _ => s
  | none => s

/-! ### The course of an OP -/

/-- An OP that has reserved what it needs waits for its unit; an operation of the RNG island runs without one. -/
def queueOp (t : Take) (c : Bytes) (x : OpIn) (o : OpSpec) (s : State) : State :=
  let k := opKind x o
  let op : OpRun := { kind := k, unit := none, started := now s, param := x.param, nonce := x.nonce, drawn := x.drawn, input := [],
                      asked := 0, finished := false, done := 0, released := 0, hold := none, saved := none, fenceAfter := false,
                      after := none }
  if k = .rng then
    if opCode c = 0x5000 then finishOp t c (rngRun x) s
    else setTake { t with phase := .running, op := some op } s
  else setTake { t with phase := .waitUnit, op := some op }
    { s with units := { s.units with jobs := s.units.jobs ++ [t.id] } }

/-- The OP once its random bytes are reserved: the checks of 05 R461 follow. -/
def afterDraw (t : Take) (c : Bytes) (nonce drawn : Bytes) (s : State) : State :=
  let x := { opStart t c with nonce := nonce, drawn := drawn }
  match (if opFamily x.v = 2 then payCheck x else none), opSpec c with
  | some st, _ => endTake t st s
  | none, some o => queueOp t c x o s
  | none, none => s

/-- The random bytes of an OP: those recorded, or fresh ones, or a wait for them (01 R21, 09 R265). -/
def drawOp (t : Take) (c : Bytes) (nonce : Bytes) (s : State) : State :=
  let n := opDraws (opStart t c)
  if n = 0 then afterDraw t c nonce [] s
  else match recorded t with
    | some (.random b) => afterDraw (useRecord t) c nonce b s
    | _ =>
      match askRandom (.take t.id) n (opCode c = 0x5001) s with
      | .error st => endTake t st s
      | .ok (some b, s) => afterDraw (reserve (.random b) t) c nonce b s
      | .ok (none, s) => setTake { t with phase := .waitRandom } s

/-- The OP from its reservations on. -/
def reserveOp (t : Take) (c : Bytes) (s : State) : State :=
  let step := if isGcmEnc (opCode c) then reserveNonce t c s else reserveUse t c s
  match step with
  | .go t s => drawOp t c (if isGcmEnc (opCode c) then lastNonce t else []) s
  | .stop st s => endTake t st s
  | .wait s => s

/-- What an OP finds before it reserves anything: an empty position (R90), a key or a parameter that fails before the unit starts
(04 R118, 06 R183, 07 R215). -/
def opRefusal (t : Take) (c : Bytes) (shielded : Bool) : Option Status :=
  let x := opStart t c
  let reads := opPositions x.v x.param
  if reads.any fun i => (keyField t c i).isNone then some stSlotEmpty
  else if opFamily x.v = 4 then pkCheck x shielded
  else
    let ok := (opSpec c).all fun o => o.keys.all fun k =>
      !reads.contains k.pos || ((keyField t c k.pos).map bindingKey).all fun b => k.atOp b.slot.isSome b.key
    if ok then none else some stUsageDenied

/-- OP as it starts, with a unit that is idle. -/
def runOp (unit : Nat) (t : Take) (c : Bytes) (s : State) : State :=
  match opRefusal t c (tenantOf s t.tenant).sheet.shielded with
  | some st => endTake t st s
  | none => offerUnit t.id unit (reserveOp t c s)

/-- The bytes a take waited for have been given to it. -/
def gotRandom (id : Nat) (b : Bytes) (s : State) : State :=
  match takeOf s id with
  | some t =>
    if t.phase ≠ .waitRandom then s
    else
      let c := codeAt t
      afterDraw (reserve (.random b) { t with phase := .ready }) c [] b s
  | none => s

/-- The random bytes of a take will not come. -/
def lostRandom (id : Nat) (st : Status) (s : State) : State :=
  match takeOf s id with
  | some t => if t.phase = .waitRandom then endTake t st s else s
  | none => s

/-- The takes that wait for the next epoch. -/
def wrapWaiters (s : State) : List Nat := (s.takes.filter fun t => t.phase = .waitEpoch).map (·.id)

/-- The epoch write of R132 has ended: the waiting reservations are made again, or end with FAULT_DETECTED. -/
def endWrap (ok : Bool) (s : State) : State :=
  (wrapWaiters s).foldl (fun s id =>
    match takeOf s id with
    | some t => if ok then reserveOp { t with phase := .ready } (codeAt t) s else endTake t stFaultDetected s
    | none => s) s

end Sys2Proof.Machine
end

