-- ==== Sys2Proof/Machine/Results.lean ====
section
/-! DEFINITION. OP and the ends of operations: lanes (04 R123, R137), wide engines with their segments, switches and parks (04 R115,
R124 to R129, R142, 03 R104), digest units (06 R186), public-key cores (07 R214, R221) and the RNG island (09 R272). -/

namespace Sys2Proof.Machine

/-! ### The take on a unit -/

/-- The take whose OP runs on a unit. -/
def runsOn (s : State) (k : UnitKind) (i : Nat) : Option Take :=
  s.takes.find? fun t => t.phase = .running && t.op.any fun o => o.kind = k && o.unit = some i

/-- The operands of an OP that a unit has run, with the PINs its sealed PIN register holds. -/
def opOnUnit (t : Take) (c : Bytes) (o : OpRun) (r : UnitRegs) : OpIn := { opUnderWay t c o with pin := r.pin, ref := r.ref }

/-- What a core's own checks come to, given what they found: a check of 07 Table 7.8 that the result itself fails is a failed one (R220). -/
def checkedAs (k : UnitKind) (x : OpIn) (out : OpOut) (found : UnitCheck) : UnitCheck :=
  if found = .passed && (k = .standard || k = .shielded) && out.status = 0 && !pkChecked x then .result else found

/-- A core holds its result in operand memory (07 R220). -/
def keepResult (k : UnitKind) (i : Nat) (out : OpOut) (s : State) : State :=
  if k = .standard || k = .shielded then
    let r := regsOf s (kindCode k) i
    setRegs (kindCode k) i { r with memory := r.memory ++ out.dst } s
  else s

/-- A unit has ended an OP: it releases what the checks found sound, or is fenced and its take runs again (01 R24, R25). An end of the take
that waited for the OP follows. -/
def unitEnds (k : UnitKind) (i : Nat) (found : UnitCheck) (s : State) : State :=
  match runsOn s k i with
  | none => s
  | some t =>
    match t.op with
    | none => s
    | some o =>
      let c := codeAt t
      let x := opOnUnit t c o (regsOf s (kindCode k) i)
      let out := opRun x
      let found := checkedAs k x out found
      if found ≠ .passed then
        let s := faultUnit (kindCode k) i (causeOf found) s
        match o.after with
        | some (.ends st) => endTake t st s
        | _ => stopTake t s
      else endHeld t.id o.after (finishOp t c out (keepResult k i out s))

/-- LANE_OP_COMPLETION. -/
def execLaneOpCompletion (lane : Nat) (found : UnitCheck) (s : State) : Outcome := .next (unitEnds .lane lane found s)

/-- DIGEST_OP_COMPLETION. -/
def execDigestOpCompletion (unit : Nat) (found : UnitCheck) (s : State) : Outcome := .next (unitEnds .digest unit found s)

/-- PK_OP_COMPLETION. -/
def execPkOpCompletion (shielded : Bool) (core : Nat) (found : UnitCheck) (s : State) : Outcome :=
  .next (unitEnds (if shielded then .shielded else .standard) core found s)

/-- RNG_OPERATION_COMPLETE. -/
def execRngOperationComplete (take : Nat) (s : State) : Outcome :=
  match takeOf s take with
  | some t =>
    match t.op with
    | some o =>
      if t.phase = .running && o.kind = .rng then .next (finishOp t (codeAt t) (opRun (opUnderWay t (codeAt t) o)) s) else .next s
    | none => .next s
  | none => .next s

/-! ### Engine segments -/

/-- The input bytes below a position. -/
def inputBelow (o : OpRun) (n : Nat) : Bytes := joined (o.input.filter fun p => p.1 < n)

/-- Whether the whole input of a host stream below a position has arrived. -/
def inputArrived (o : OpRun) (n : Nat) : Bool := (inputBelow o n).length = n

/-- HOST_DST. -/
def streamDst (o : OpRun) : Nat := leNat (slice 8 8 o.param)

/-- Whether a job's output goes to the host. -/
def toHost (v : Nat) : Bool := symHost v && !symIsMac v

/-- Output of a segment released: to stage, or as the writes of the host stream. -/
def releasePart (t : Take) (c : Bytes) (o : OpRun) (bs : Bytes) (s : State) : Take × State :=
  if toHost (opCode c) then issueList t none (writeBursts false ((streamDst o + o.released) % 2 ^ 64) bs ++ t.todo) s
  else (stageWrite (opDst c + o.released) bs t, s)

/-- A job leaves its engine and waits, the last of the queue. -/
def shelve (t : Take) (o : OpRun) (s : State) : State :=
  setTake { t with phase := .waitUnit, op := some { o with unit := none, saved := o.unit.orElse fun _ => o.saved } }
    (o.unit.elim id (clearUnit 2) { s with units := { s.units with jobs := s.units.jobs ++ [t.id] } })

/-- A job whose host access meets a sleeping domain is parked at the segment boundary (03 R104). -/
def parkJob (t : Take) (o : OpRun) (s : State) : State :=
  setTake { t with phase := .waitUnit, op := some { o with unit := none, saved := o.unit } } (o.unit.elim id (clearUnit 2) s)

/-- The waiting job an engine switches to at a boundary: the longest waiting that may use it and for which no other engine is idle. -/
def switchTo (s : State) (e : Nat) : Option Take :=
  (waiters s).find? fun u => (u.op.any fun o => o.kind = .engine) && engineSuits s u e &&
    !(List.range (engineCount s)).any fun j => j ≠ e && !unitBusy s 2 j && engineSuits s u j

/-- A boundary with more input to come (R124). -/
def boundary (t : Take) (c : Bytes) (o : OpRun) (e : Nat) (s : State) : State :=
  match switchTo s e with
  | none => engineGo t c o e s
  | some u =>
    let s := shelve t o s
    match u.op with
    | some p => startUnit u p e s
    | none => s

/-- The job has computed its last segment and its last host write has been issued. -/
def finishJob (t : Take) (c : Bytes) (out : OpOut) (s : State) : State := finishOp t c { out with dst := [] } s

/-- A segment has been computed: its output is released, and the job goes on, waits or ends. Output segment n goes no further than
input segment n, so that a drawn IV before the output overwrites no input not yet read (R115). -/
def segmentDone (t : Take) (c : Bytes) (o : OpRun) (e stop : Nat) (s : State) : State :=
  let x := opInput t c o.param (inputBelow o stop) o.nonce o.drawn
  if stop < opLen c then
    let bs := if opSound x then ((symPrefix x).take stop).drop o.released else []
    let r := releasePart t c o bs s
    let o := { o with done := stop, released := o.released + bs.length }
    if r.1.parked.isSome then parkJob r.1 o r.2 else boundary r.1 c o e r.2
  else
    let out := opRun x
    if out.status ≠ 0 then finishOp t c out s
    else
      let r := releasePart t c o (out.dst.drop o.released) s
      let o := { o with done := stop, released := out.dst.length, finished := true }
      if r.1.parked.isSome then parkJob r.1 o r.2 else finishJob r.1 c out r.2

/-- The takes that an engine's fence stops: the one that runs on it, the one that has its hold memory, and those whose saved context it
keeps and zeroes (16 R437). -/
def engineTakes (s : State) (e : Nat) : List Take :=
  s.takes.filter fun t => t.op.any fun o => o.kind = .engine && (o.unit = some e || o.hold = some e || o.saved = some e)

/-- An engine is fenced and the jobs it holds are stopped (R137, R139, R140). -/
def stopEngine (e cause event : Nat) (s : State) : State :=
  let ts := engineTakes s e
  ts.foldl (fun s t => stopTake t s) (fenceUnit 2 e cause event s)

/-- ENGINE_SEGMENT_END. -/
def execEngineSegmentEnd (engine : Nat) (found : UnitCheck) (s : State) : Outcome :=
  match runsOn s .engine engine with
  | none => .next s
  | some t =>
    match t.op with
    | none => .next s
    | some o =>
      let c := codeAt t
      let stop := segmentEnd (opLen c) o.done
      if symHost (opCode c) && !inputArrived o stop then .next (if reissueParked s t then parkJob { t with parked := some (now s) } o s else s)
      else if found ≠ .passed then .next (stopEngine engine (causeOf found) 0x80 s)
      else
        let o := if symHost (opCode c) then o
          else { o with input := o.input ++ [(o.done, stageRead t (opSrc c + o.done) (stop - o.done))] }
        .next (segmentDone t c o engine stop s)

/-! ### OP -/

/-- A parked host stream goes on once its domain is awake: its bursts are issued, and it ends or waits for an engine. -/
def resumeStream (t : Take) (o : OpRun) (s : State) : State :=
  let r := issueTodo t s
  if r.1.parked.isSome then setTake r.1 r.2
  else if o.finished then
    finishJob r.1 (codeAt t) (opRun (opInput t (codeAt t) o.param (inputBelow o o.done) o.nonce o.drawn)) r.2
  else shelve r.1 o r.2

/-- A row for an OP that has begun: a parked stream ends with its reel's abort or goes on (R104, R108); a waiting one is offered the
unit. -/
def goOnOp (t : Take) (unit : Nat) (s : State) : State :=
  if t.parked.isSome then
    if aborted s t then endTake t stReelAborted s
    else if reissueParked s t then s
    else match t.op with
      | some o => resumeStream t o s
      | none => s
  else offerUnit t.id unit s

/-- OP (R92). -/
def execOp (take : Nat) (found : SeqCheck) (unit : Nat) (s : State) : Outcome :=
  match takeOf s take with
  | none => .next s
  | some t =>
    if t.phase = .ready then .next (startCode take 0x07 found (runOp unit) s)
    else if t.phase = .waitUnit then .next (goOnOp t unit s)
    else .next s

end Sys2Proof.Machine
end

