-- ==== Sys2Proof/Machine/Tenants.lean ====
section
/-! DEFINITION. The CALLSHEET commands (10 R279 to R292) and dirty logging (10 R293 to R297). -/

namespace Sys2Proof.Machine

/-! ### CALLSHEET -/

/-- RESULT and REASON of a CALLSHEET command. -/
def csEnd (status : Status) (reason : Nat) (s : State) : State :=
  { s with sheets := { s.sheets with result := status, reason := reason } }

/-- Check 4 of 10 Table 10.8. -/
def csStateOk (s : State) (cmd f : Nat) : Bool :=
  let st := (tenantOf s f).state
  match cmd with
  | 1 => st = .free
  | 4 => st = .pausing || st = .paused
  | 5 => st = .paused
  | 7 => s.keys.importedSheet.isSome
  | _ => st ≠ .free

/-- Whether PACKAGE_EXPORT of a tenant is in progress, which refuses its RESUME (10 Table 10.12). -/
def exporting (s : State) (f : Nat) : Bool :=
  match s.keys.run with
  | some (.packageDraw g) | some (.packageOut g) | some (.packageWait g) => g = f
  | _ => false

/-- The bytes CREATE and CHANGE are checked with: on a junior, CHANGE takes only the local fields (11 R316). -/
def csData (s : State) (cmd f : Nat) : Bytes :=
  let t := tenantOf s f
  if cmd = 2 && s.twin.role = .junior then
    sheetBytes f { t with sheet := withLocal (sheetOf s.sheets.data) t.sheet }
  else s.sheets.data

/-- The first failed check of 10 Table 10.8 that applies to a command, with its order; 11 R312 and R316 on a junior. -/
def csCheck (s : State) (cmd f : Nat) : Option (Status × Nat) :=
  let m := s.modes.mode
  let junior := s.twin.role = .junior
  let b := csData s cmd f
  let x := sheetOf b
  let sheetCmd := cmd = 1 || cmd = 2
  if !(serves m || (cmd = 6 && (m = .sealed || m = .ceremony))) then some (stModeDenied, 1)
  else if junior && ((s.twin.link = .sync && cmd ≠ 6 && cmd ≠ 7) || cmd = 1 || cmd = 5) then some (stModeDenied, 1)
  else if !(1 ≤ cmd && cmd ≤ 7) then some (stOpcodeUnknown, 2)
  else if tenantCount s ≤ f then some (stOwnerMismatch, 3)
  else if !csStateOk s cmd f || (cmd = 4 && exporting s f) then some (stModeDenied, 4)
  else if sheetCmd && !sheetInRange s f b then some (stInputRange, 5)
  else if sheetCmd && !sheetAligned x then some (stDecodeError, 6)
  else if cmd = 2 && !changeAllowed s f x then some (stModeDenied, 7)
  else if sheetCmd && !rangeAllowed s f x then some (stOwnerMismatch, 8)
  else if cmd = 2 && !shieldKept s x then some (stUsageDenied, 9)
  else if sheetCmd && !poolsCover s f x then some (stUnitUnavailable, 10)
  else if cmd = 1 && !ownerKeyOk s f s.sheets.key then some (stPointInvalid, 11)
  else none

/-- Carry a tenant entry, on a senior only (11 R313, R316). -/
def carrySenior (kind f : Nat) (body : Bytes) (s : State) : State :=
  if s.twin.role = .senior then carry kind f body [] s else s

/-- CREATE (10 R281). -/
def csCreate (f : Nat) (s : State) : State :=
  let x := sheetOf s.sheets.data
  carrySenior 2 f (carriedBytes f x ++ s.sheets.key) (createTenant f .running x s.sheets.key s)

/-- CHANGE (10 R281, R287). -/
def csChange (f : Nat) (s : State) : State :=
  let x := sheetOf (csData s 2 f)
  carrySenior 3 f (carriedBytes f x) (settlePins f (modTenant f (replaceSheet x) s))

/-- PAUSE (10 R288): any tenant that is not FREE becomes PAUSING, one already PAUSED too. -/
def csPause (f : Nat) (s : State) : State := modTenant f (fun t => { t with state := .pausing }) s

/-- RESUME (10 R290). -/
def csResume (f : Nat) (s : State) : State := modTenant f (fun t => { t with state := .running }) s

/-- The lines of a bitmap that hold some of these pages. -/
def markLines (ps : List Nat) : List Nat := (ps.map (· / 512)).eraseDups

/-- The base of a tenant's active bitmap, or of the other one. -/
def bitmapBase (t : Tenant) (active : Bool) : Word :=
  if t.activeB = active then t.sheet.bitmapB else t.sheet.bitmapA

/-- Whether a request is an access to a line of a tenant's bitmap, the closed one or the active one. -/
def onLine (f : Nat) (old : Bool) (line : Nat) (r : Request) : Bool :=
  r.purpose = .bitmapRead f old line || r.purpose = .bitmapWrite f old line

/-- Start the read-modify-write of every bitmap line that holds one of these pages (10 R296). A line whose earlier read-modify-write is
not yet acknowledged waits for it, so that neither undoes the other. -/
def readLines (f : Nat) (old : Bool) (base : Word) (ps : List Nat) (s : State) : State :=
  (markLines ps).foldl (fun t l => if (allRequests t).any (onLine f old l) then t
    else issueRead (base + BitVec.ofNat 64 (64 * l)) 64 0x400 attrMeta (.bitmapRead f old l) t) s

/-- A request with its bitmap access counted to the closed period of a tenant. -/
def closedAccess (f : Nat) (r : Request) : Request :=
  match r.purpose with
  | .bitmapRead g false l => if g = f then { r with purpose := .bitmapRead f true l } else r
  | .bitmapWrite g false l => if g = f then { r with purpose := .bitmapWrite f true l } else r
  | _ => r

/-- The accesses under way to the bitmap that closes: they carry marks of its own period alone. -/
def closeAccesses (f : Nat) (s : State) : State :=
  let g := closedAccess f
  let x := s.fabric
  { s with fabric := { x with
      port0 := { x.port0 with reads := x.port0.reads.map g, writes := x.port0.writes.map g },
      port1 := { x.port1 with reads := x.port1.reads.map g, writes := x.port1.writes.map g },
      held := x.held.map fun h => { h with req := g h.req } } }

/-- Close the logging period of a tenant: INCOMPLETE moves to CLOSED_INCOMPLETE, the other bitmap becomes active, and the
held marks go to the closed one (10 R296). -/
def closePeriod (f : Nat) (s : State) : State :=
  let t := tenantOf s f
  let s := { s with sheets := { s.sheets with
    migClosed := t.incomplete, migIncomplete := false, migActiveB := !t.activeB,
    closedMarks := s.sheets.closedMarks ++ t.marks.map fun p => (f, p) } }
  let s := setTenant f { t with activeB := !t.activeB, incomplete := false, markStopped := false, marks := [] } s
  readLines f true (bitmapBase t true) t.marks (closeAccesses f s)

/-- Logging ends for a tenant. -/
def endLogging (t : Tenant) : Tenant := { t with logging := false, incomplete := false, markStopped := false, marks := [] }

/-- REMOVE, whose erases are carried to the twin, and what a partner's TENANT_REMOVE does, whose erases are not sent back (10 R291,
11 R313), but for the vault write of step 3. -/
def removeTenant (own : Bool) (f : Nat) (s : State) : State :=
  let t := tenantOf s f
  let s := dropObjects f s
  let s := if t.logging then closePeriod f s else s
  let s := (groupsIn s t.sheet.slotBase t.sheet.slots).foldl (fun u i => if own then eraseCarried none i u else eraseGroup none i u) s
  let s := setSecret f [] s
  let s := { s with keys := { s.keys with migrate := tableSet [] s.keys.migrate f [], imports := tableSet [] s.keys.imports f [] } }
  let s := (pinsOf s 4 f).foldl (fun u i => setPin i none u) s
  setTenant f Tenant.reset s

/-- REMOVE (10 R291): it ends when the vault has answered. -/
def csRemove (f : Nat) (s : State) : State :=
  let s := carrySenior 4 f [] (removeTenant true f s)
  floorWrite [.remove] { s with sheets := { s.sheets with busy := true } }

/-- READ (10 R279). -/
def csRead (f : Nat) (s : State) : State := 
  { s with sheets := { s.sheets with data := putAt 0 (toLe 2 (functionShown s f)) (sheetBytes f (tenantOf s f)) } }

/-- READ_IMPORTED (10 R292). -/
def csReadImported (s : State) : State :=
  match s.keys.importedSheet with
  | some p => { s with sheets := { s.sheets with data := p.2 }, keys := { s.keys with importedSheet := none } }
  | none => s

/-- The effect of a CALLSHEET command that passed its checks. -/
def csApply (cmd f : Nat) (s : State) : State :=
  match cmd with
  | 1 => csCreate f s
  | 2 => csChange f s
  | 3 => csPause f s
  | 4 => csResume f s
  | 5 => csRemove f s
  | 6 => csRead f s
  | _ => csReadImported s

/-- A CALLSHEET command (10 R279, R280). -/
def csCommand (cmd f : Nat) (s : State) : State :=
  if s.sheets.busy then { s with sheets := { s.sheets with lost := true } }
  else
    let s := { s with sheets := { s.sheets with cmd := BitVec.ofNat 64 (cmd + f * 65536) } }
    match csCheck s cmd f with
    | some e => csEnd e.1 e.2 s
    | none => csEnd 0 0 (csApply cmd f s)

/-- A 64-bit write of CS_CMD: both fields are KEY fields. -/
def csWrite (src : Source) (value : Word) (s : State) : State :=
  guarded src 0x03000 (value &&& 0x07FF00FF ≠ s.sheets.cmd) id (csCommand (bits 0 8 value) (bits 16 11 value)) s

/-- The value of CS_CMD or MIG_CMD for a command and a function. -/
def cmdValue (cmd : Nat) (f : Func) : Word := BitVec.ofNat 64 (cmd + f.toNat * 65536)

/-- A CALLSHEET command at the register port. -/
def callSheet (src : Source) (cmd : Nat) (f : Func) (s : State) : Outcome :=
  .next (mgrWrite src 0x03000 (cmdValue cmd f) (csWrite src (cmdValue cmd f)) s)

/-- CREATE. -/
def execCreate (src : Source) (tenant : Func) (s : State) : Outcome := callSheet src 1 tenant s
/-- CHANGE. -/
def execChange (src : Source) (tenant : Func) (s : State) : Outcome := callSheet src 2 tenant s
/-- PAUSE. -/
def execPause (src : Source) (tenant : Func) (s : State) : Outcome := callSheet src 3 tenant s
/-- RESUME. -/
def execResume (src : Source) (tenant : Func) (s : State) : Outcome := callSheet src 4 tenant s
/-- REMOVE. -/
def execRemove (src : Source) (tenant : Func) (s : State) : Outcome := callSheet src 5 tenant s
/-- READ. -/
def execRead (src : Source) (tenant : Func) (s : State) : Outcome := callSheet src 6 tenant s
/-- READ_IMPORTED. -/
def execReadImported (src : Source) (tenant : Func) (s : State) : Outcome := callSheet src 7 tenant s

/-! ### MIGRATION -/

/-- RESULT of a MIG_CMD command and what MIG_STATUS reports of its function. -/
def migEnd (status : Status) (f : Nat) (s : State) : State :=
  let t := tenantOf s f
  { s with sheets := { s.sheets with migResult := status, migLogging := t.logging, migActiveB := t.activeB,
                                     migIncomplete := t.incomplete } }

/-- START_LOG (10 R293). -/
def startLog (f : Nat) (s : State) : State :=
  let t := tenantOf s f
  if t.state = .free || t.logging then migEnd stModeDenied f s
  else if t.sheet.pages = 0 || t.sheet.bitmapA = 0 || t.sheet.bitmapB = 0 then migEnd stInputRange f s
  else migEnd 0 f (setTenant f { t with logging := true, activeB := false, incomplete := false, markStopped := false, marks := [] } s)

/-- Whether marks of a tenant's closed period are still to be written or acknowledged. -/
def closingOut (s : State) (f : Nat) : Bool :=
  let isOld := fun r : Request => match r.purpose with
    | .bitmapRead g old _ => old && g = f
    | .bitmapWrite g old _ => old && g = f
    | _ => false
  s.sheets.closedMarks.any (fun p => p.1 = f) || (allRequests s).any isOld

/-- End SWAP or STOP_LOG once the closed period is written (10 R296). -/
def settleClosing (s : State) : State :=
  match s.sheets.closing with
  | none => s
  | some (f, stop) =>
    if closingOut s f then s
    else
      let s := { s with sheets := { s.sheets with closing := none } }
      migEnd 0 f (if stop then modTenant f endLogging s else s)

/-- SWAP and STOP_LOG (10 R296). -/
def closeLog (stop : Bool) (f : Nat) (s : State) : State :=
  if !(tenantOf s f).logging then migEnd stModeDenied f s
  else settleClosing (closePeriod f { s with sheets := { s.sheets with closing := some (f, stop) } })

/-- The effect of a MIG_CMD command. -/
def migApply (cmd f : Nat) (s : State) : State :=
  match cmd with
  | 1 => startLog f s
  | 2 => closeLog false f s
  | 3 => closeLog true f s
  | 4 => migEnd 0 f s
  | _ => migEnd stOpcodeUnknown f s

/-- A 64-bit write of MIG_CMD (10 R293, R294). -/
def migWrite (value : Word) (s : State) : State :=
  let f := bits 16 11 value
  if s.sheets.closing.isSome then { s with sheets := { s.sheets with migLost := true } }
  else
    let s := { s with sheets := { s.sheets with migCmd := value &&& 0x07FF00FF } }
    if pairs s.modes.mode then migApply (bits 0 8 value) f s
    else { s with sheets := { s.sheets with migResult := stModeDenied } }

/-- A MIG_CMD command at the register port. -/
def migration (src : Source) (cmd : Nat) (f : Func) (s : State) : Outcome :=
  .next (mgrWrite src 0x09000 (cmdValue cmd f) (migWrite (cmdValue cmd f)) s)

/-- START_LOG. -/
def execStartLog (src : Source) (tenant : Func) (s : State) : Outcome := migration src 1 tenant s
/-- SWAP. -/
def execSwap (src : Source) (tenant : Func) (s : State) : Outcome := migration src 2 tenant s
/-- STOP_LOG. -/
def execStopLog (src : Source) (tenant : Func) (s : State) : Outcome := migration src 3 tenant s
/-- QUERY. -/
def execQuery (src : Source) (tenant : Func) (s : State) : Outcome := migration src 4 tenant s

end Sys2Proof.Machine
end

