-- ==== Sys2Proof/Machine/FabricRows.lean ====
section
/-! DEFINITION. The answers of the host fabric (14 R380 to R383, 03 R101, R102), the dailies' messages and timeouts (02 R53 to R57, R459),
the answering of aborted reels (02 R64), and the end of a pause (10 R289). -/

namespace Sys2Proof.Machine

/-! ### What an answer brings -/

/-- The tenant whose call sheet gives RETRY for a request: the function it carries, but for a bitmap access, which carries 0x400. A
write of a take keeps it after the take's daily (01 R22). -/
def requestTenant (r : Request) : Option Nat :=
  match r.purpose with
  | .bitmapRead f _ _ | .bitmapWrite f _ _ => some f
  | .eventMessage _ | .imageRead | .dropped => none
  | _ => some r.func

/-- How often a request may be reissued: RETRY; three times for an event message (13 R373). -/
def retryOf (s : State) (r : Request) : Nat :=
  match requestTenant r, r.purpose with
  | some f, _ => (tenantOf s f).sheet.retry
  | none, .eventMessage _ => 3
  | none, _ => 0

/-- Bytes placed among others by their position. -/
def placed (m : Map Bytes) (pos : Nat) (b : Bytes) : Map Bytes := tableSet [] m pos b

/-- The reads of an extended program (03 R69). -/
def issueExt (x : Slate) (b : Bytes) (s : State) : State :=
  ((List.range (ceilDiv (16 * slateExtCount b) 64)).flatMap fun k =>
    burstsOf (slateExtAddr b + 64 * k) (min 64 (16 * slateExtCount b - 64 * k)) (64 * k)).foldl
    (fun t r => issueRead (BitVec.ofNat 64 r.1) r.2.1 x.tenant attrMeta (.extRead x.id r.2.2) t) s

/-- Both halves of a slate have been read: LAST_SEQ, and the reads of an extended program. -/
def slateComplete (x : Slate) (s : State) : State :=
  let b := joined x.bytes
  let s := noteSeq x.tenant x.reel (slateSeq b) s
  if wantsExt b then issueExt x b (setSlate { x with stage := .extReading } s) else setSlate { x with stage := .read } s

/-- Bytes of a slate have arrived. -/
def slateBytes (id pos : Nat) (b : Bytes) (s : State) : State :=
  match slateOf s id with
  | some x =>
    if x.stage ≠ .reading then s
    else
      let x := { x with bytes := placed x.bytes pos b }
      if (joined x.bytes).length = 128 then slateComplete x s else setSlate x s
  | none => s

/-- Bytes of an extended program have arrived. -/
def extBytes (id pos : Nat) (b : Bytes) (s : State) : State :=
  match slateOf s id with
  | some x => if x.stage = .extReading then setSlate { x with ext := placed x.ext pos b } s else s
  | none => s

/-- Bytes a take asked for have arrived: for the MOVE under way, or for the OP under way. -/
def takeBytes (id pos : Nat) (b : Bytes) (s : State) : State :=
  match takeOf s id with
  | some t =>
    match t.op with
    | some o => setTake { t with reads := t.reads - 1, op := some { o with input := placed o.input pos b } } s
    | none =>
      if t.phase = .moving then settleIssue { t with reads := t.reads - 1, buffer := placed t.buffer pos b } s else s
  | none => s

/-- A page's bit set in a bitmap line (10 R295). -/
def setPage (line : Bytes) (page : Nat) : Bytes :=
  let i := page % 512
  line.set (i / 8) ((line.getD (i / 8) 0) ||| BitVec.twoPow 8 (i % 8))

/-- A line of a dirty bitmap has been read: the marks held for it are set and the line is written (10 R296). -/
def bitmapLine (f : Nat) (old : Bool) (line : Nat) (addr : Word) (b : Bytes) (s : State) : State :=
  let t := tenantOf s f
  let inLine := fun p : Nat => p / 512 = line
  let ps := if old then (s.sheets.closedMarks.filter fun p => p.1 = f && inLine p.2).map Prod.snd else t.marks.filter inLine
  let s := if old then { s with sheets := { s.sheets with closedMarks := s.sheets.closedMarks.filter fun p => !(p.1 = f && inLine p.2) } }
    else setTenant f { t with marks := t.marks.filter fun p => !inLine p } s
  issueWrite addr (ps.foldl setPage b) 0x400 attrMetaUnit (.bitmapWrite f old line) s

/-- A line of a dirty bitmap is written: marks of its closed period that have come to it since are written next. -/
def lineWritten (f : Nat) (old : Bool) (line : Nat) (addr : Word) (s : State) : State :=
  if old && s.sheets.closedMarks.any (fun p => p.1 = f && p.2 / 512 = line) then
    issueRead addr 64 0x400 attrMeta (.bitmapRead f true line) s
  else settleClosing s

/-- Bytes of a firmware image have arrived; the MP takes them up in its next microsecond (15 R428, log 31). -/
def imageBytes (b : Bytes) (s : State) : State :=
  match s.fw.run with
  | some (.reading addr got) => { s with fw := { s.fw with run := some (.reading addr (got ++ b)) } }
  | _ => s

/-- A read has been answered with data. -/
def readDone (r : Request) (b : Bytes) (s : State) : State :=
  match r.purpose with
  | .slateRead id pos => slateBytes id pos b s
  | .extRead id pos => extBytes id pos b s
  | .takeRead id pos => takeBytes id pos b s
  | .fetch f true i => setDailies f i { dailiesOf s f i with arrived := some b } s
  | .fetch f false i => setReel f i { reelOf s f i with arrived := some b } s
  | .bitmapRead f old line => bitmapLine f old line r.addr b s
  | .imageRead => imageBytes b s
  | .abortHeader id => match slateOf s id with
    | some x => setSlate { x with stage := .owedRead true, bytes := [(0, b)] } s
    | none => s
  | _ => s

/-- A write has been acknowledged. -/
def writeDone (r : Request) (s : State) : State :=
  match r.purpose with
  | .takeWrite id _ => match takeOf s id with
    | some t =>
      let t := { t with writes := t.writes - 1 }
      writesDone t (setTake t s)
    | none => s
  | .daily f _ d _ => settleHalting f d s
  | .bitmapWrite f old line => lineWritten f old line r.addr s
  | .commandWrite f isD i => commandDone f isD i r.data true s
  | _ => s

/-! ### What a failure brings -/

/-- A slate read has failed: at once where the reel's context is at hand, otherwise at its admission (02 R56). -/
def slateFails (id : Nat) (st : Status) (s : State) : State :=
  match slateOf s id with
  | some x =>
    if x.stage ≠ .reading then s
    else if (reelOf s x.tenant x.reel).ctx.isSome then failSlate x st s
    else fetchReel x.tenant x.reel (setSlate { x with stage := .failed st } s)
  | none => s

/-- The read of an extended program has failed. -/
def extFails (id : Nat) (st : Status) (s : State) : State :=
  match slateOf s id with
  | some x => if x.stage = .extReading then setSlate { x with stage := .extFailed st } s else s
  | none => s

/-- A write of a take has failed (03 R101): the take ends at its present code, or at END. -/
def takeWriteFails (id : Nat) (s : State) : State :=
  match takeOf s id with
  | some t =>
    let t := { t with writes := t.writes - 1 }
    match t.phase with
    | .ended st =>
      if st = 0 then haltReel t.tenant t.reel stBusError (setTake { t with phase := .ended stBusError, result := none } s)
      else setTake t s
    | _ => endWhenFree t stBusError s
  | none => s

/-- A context that could not be written back (02 R56, R57): its object halts, from the bytes of the write where it has left the cache. -/
def backFails (f : Nat) (isD : Bool) (i : Nat) (data : Bytes) (s : State) : State :=
  if isD then
    let s := match (dailiesOf s f i).ctx, dailiesOfBytes data with
      | none, some c => if (dailiesOf s f i).created then cacheDailies f i c s else s
      | _, _ => s
    haltDailies f i stBusError s
  else
    let s := match (reelOf s f i).ctx, reelOfBytes data with
      | none, some c => if (reelOf s f i).created then cacheReel f i c s else s
      | _, _ => s
    haltReel f i stBusError s

/-- A context that could not be read: as one that fails its check. -/
def fetchFails (f : Nat) (isD : Bool) (i : Nat) (s : State) : State :=
  let s := if isD then setDailies f i { dailiesOf s f i with arrived := none, fetching := false } s
    else setReel f i { reelOf s f i with arrived := none, fetching := false } s
  let ready := if isD then dailiesReady s f i else reelReady s f i
  drainWaiting f (if ready then s else failCtx f isD i s)

/-- A bitmap access has failed (10 R297). -/
def bitmapFails (f : Nat) (old : Bool) (line : Nat) (s : State) : State :=
  let s := modTenant f (fun t => if t.logging then { t with incomplete := true, markStopped := true, marks := [] } else t) s
  let s := if old then { s with sheets := { s.sheets with
      migClosed := true, closedMarks := s.sheets.closedMarks.filter fun p => !(p.1 = f && p.2 / 512 = line) } }
    else s
  settleClosing (raise 0xA9 s)

/-- An event message has been abandoned (13 R373). -/
def eventFails (v : Nat) (s : State) : State :=
  let s := { s with events := { s.events with
    lostCount := satInc s.events.lostCount, lostFlag := true, lostVector := BitVec.ofNat 8 v, blocked := v :: s.events.blocked } }
  raiseLog 0xE6 0x0060 v 0 0 s

/-- A read of a firmware image has failed (15 R428). -/
def imageFails (st : Status) (s : State) : State :=
  match s.fw.run with
  | some (.reading addr got) => { s with fw := { s.fw with run := some (.readFailed addr got st) } }
  | _ => s

/-- A request has failed after its last issue, or its data is poisoned. -/
def requestFails (r : Request) (st : Status) (s : State) : State :=
  match r.purpose with
  | .slateRead id _ => slateFails id st s
  | .extRead id _ => extFails id st s
  | .takeRead id _ => match takeOf s id with
    | some t => endTake t st s
    | none => s
  | .takeWrite id _ => takeWriteFails id s
  | .daily f reel d counts => settleHalting f d (loseDaily f reel d counts st s)
  | .dailiesMessage _ _ => raise 0xA5 s
  | .fetch f isD i => fetchFails f isD i s
  | .writeBack f isD i => backFails f isD i r.data s
  | .eventMessage v => eventFails v s
  | .bitmapRead f old line | .bitmapWrite f old line => bitmapFails f old line s
  | .imageRead => imageFails st s
  | .abortHeader id => match slateOf s id with
    | some x => setSlate { x with stage := .owedRead false } s
    | none => s
  | .commandWrite f isD i => commandDone f isD i r.data false s
  | .dropped => s

/-! ### Responses (R380, R382) -/

/-- The requests a port has outstanding in one direction. -/
def outstandingOn (s : State) (p write : Bool) : List Request := if write then (portOf s p).writes else (portOf s p).reads

/-- A request taken off its port. -/
def closeRequest (p write : Bool) (tag : Nat) (s : State) : State :=
  let x := portOf s p
  setPort p (if write then { x with writes := x.writes.filter fun r => r.tag ≠ tag } else { x with reads := x.reads.filter fun r => r.tag ≠ tag }) s

/-- The takes with a request among some. -/
def takesAmong (rs : List Request) : List Nat :=
  (rs.filterMap fun r => match r.purpose with
    | .takeRead id _ | .takeWrite id _ => some id
    | _ => none).eraseDups

/-- A take that had requests outstanding on a port that is fenced runs again (R382). -/
def portStops (rs : List Request) (s : State) (id : Nat) : State :=
  match takeOf s id with
  | some t =>
    let gone := (rs.filter (isWriteOf id)).length
    let t := { t with writes := t.writes - gone }
    match t.phase with
    | .ended st => if st = 0 then stopTake t s else setTake t s
    | .stopped => setTake t s
    | _ => stopWhenFree t s
  | none => s

/-- A fault of a port (R382; CAUSE 8, or 2 for a crossing): it is fenced, its takes run again, and its other requests count as failed. -/
def portFault (p : Bool) (cause : Nat) (s : State) : State :=
  let rs := (portOf s p).reads ++ (portOf s p).writes
  let s := recordFence 7 (b2n p) cause 0x86 (setPort p { fenced := true, reads := [], writes := [] } s)
  let s := if portServes s false || portServes s true then s else uncontained 0x87 7 (b2n p) s
  let s := (takesAmong rs).foldl (portStops rs) s
  rs.foldl (fun s r => match r.purpose with
    | .takeRead _ _ | .takeWrite _ _ => s
    | _ => requestFails r stBusError s) s

/-- After any answer: what was held back and can go now is issued, and the acknowledgements of sleeping domains follow. -/
def afterAnswer (s : State) : State := settleAck (pumpHeld s)

/-- A request that received an error: reissued, or failed. -/
def answerError (p write : Bool) (r : Request) (s : State) : State :=
  let want := match r.purpose with
    | .eventMessage _ => p
    | _ => addrPort r.addr
  if r.issues ≤ retryOf s r then issue write want { r with issues := r.issues + 1 } s else requestFails r stBusError s

/-- What a port passes on fails its parity where it arrives: the receiver discards it, and the port is fenced as its sender (01 R12). -/
def portCrossing (p : Bool) (s : State) : State := if (portOf s p).fenced then s else afterAnswer (portFault p 2 s)

/-- An answer with a response code of Table 14.3. -/
def answer (p write : Bool) (tag resp : Nat) (b : Bytes) (s : State) : State :=
  match (outstandingOn s p write).find? fun r => r.tag = tag with
  | none => if (portOf s p).fenced then s else afterAnswer (portFault p 8 s)
  | some r =>
    if !write && resp = 0 && b.length ≠ r.len then s
    else
      let s := closeRequest p write tag s
      afterAnswer (match resp with
        | 0 => if write then writeDone r s else readDone r b s
        | 1 => if write then answerError p true r s else requestFails r stBusPoison s
        | _ => answerError p write r s)

/-- The modes in which the fabric ports run. -/
def fabricRuns (m : Mode) : Bool := m ≠ .hold && m ≠ .reset && m ≠ .drowse

/-- Whether a port is there and runs. -/
def portRuns (s : State) (p : Bool) : Bool := fabricRuns s.modes.mode && (p = false || s.chip.fp1Present)

/-- FABRIC_READ_RESPONSE. -/
def execFabricReadResponse (port : Bool) (tag : BitVec 10) (data : Bytes) (resp : PortAnswer) (s : State) : Outcome :=
  .next (if !portRuns s port then s
    else if resp.crossing then portCrossing port s else answer port false tag.toNat resp.resp.toNat data s)

/-- FABRIC_WRITE_RESPONSE. -/
def execFabricWriteResponse (port : Bool) (tag : BitVec 10) (resp : PortAnswer) (s : State) : Outcome :=
  .next (if !portRuns s port then s
    else if resp.crossing then portCrossing port s else answer port true tag.toNat resp.resp.toNat [] s)

/-- FABRIC_PORT_RESET (R382): a fault where requests are outstanding. -/
def execFabricPortReset (port : Bool) (s : State) : Outcome :=
  let x := portOf s port
  if portRuns s port && !x.fenced && !(x.reads.isEmpty && x.writes.isEmpty) then .next (afterAnswer (portFault port 8 s)) else .next s

/-! ### Dailies that wait (02 R57) -/

/-- Whether a request held back waits on a sleeping domain past a limit. -/
def heldLate (s : State) (limit : Nat) (h : Held) : Bool := asleep s h.req.addr && h.since + limit < now s

/-- A daily that waited too long before its write: TAIL advances, the daily is lost, the take is over. -/
def loseWaiting (t : Take) (s : State) : State :=
  let s := modDailies t.tenant t.dailies (fun c =>
    { dailyStep (now32 s) c with pending := c.pending, modStart := c.modStart }) s
  retireTake t (haltDailies t.tenant t.dailies stAsleepTimeout s)

/-- The daily of a held request is lost. -/
def loseHeld (s : State) (h : Held) : State :=
  match h.req.purpose with
  | .daily f reel d counts => loseDaily f reel d counts stAsleepTimeout s
  | _ => s

/-- Whether an ended take's daily has waited past a limit. -/
def dailyLate (s : State) (f d limit : Nat) (t : Take) : Bool :=
  t.tenant = f && t.dailies = d && dailyAsleep s t && t.dailySince.any fun p => p + limit < now s

/-- DAILY_PARK_TIMEOUT (02 R57). -/
def execDailyParkTimeout (tenant : Func) (dailies : BitVec 20) (s : State) : Outcome :=
  let f := tenant.toNat
  let d := dailies.toNat
  let limit := (tenantOf s f).sheet.parkTimeout
  match s.takes.find? (dailyLate s f d limit) with
  | some t => .next (loseWaiting t s)
  | none =>
    let late := fun h : Held => isDailyTo f d h.req && heldLate s limit h
    match s.fabric.held.find? late with
    | some _ =>
      let gone := s.fabric.held.filter late
      let s := { s with fabric := { s.fabric with held := s.fabric.held.filter fun h => !late h } }
      .next (settleHalting f d (gone.foldl loseHeld s))
    | none => .next s

/-! ### Messages (02 R53, R54, R459) -/

/-- DAILIES_MESSAGE_WRITE (R53, R459). -/
def execDailiesMessageWrite (tenant : Func) (dailies : BitVec 20) (s : State) : Outcome :=
  let f := tenant.toNat
  let d := dailies.toNat
  let o := dailiesOf s f d
  if !o.msgDue || !keepsContexts s.modes.mode then .next s
  else match o.ctx with
    | none => .next (fetchDailies f d s)
    | some c =>
      if c.pending = 0 then .next (setDailies f d { o with msgDue := false, msgTimed := false, msgSince := none } s)
      else if dailyOut s f d then .next s
      else if asleep s c.msgAddr then .next (setDailies f d { o with msgSince := some (o.msgSince.getD (now s)) } s)
      else .next (sendMessage f d c s)

/-- MODERATION_TIMER_EXPIRY (R53): MOD_TIME 0 disables the timer. -/
def execModerationTimerExpiry (tenant : Func) (dailies : BitVec 20) (s : State) : Outcome :=
  let f := tenant.toNat
  let d := dailies.toNat
  let o := dailiesOf s f d
  match o.ctx with
  | some c =>
    if keepsContexts s.modes.mode && c.intEn && 1 ≤ c.pending && c.modTime ≠ 0 && c.modTime ≤ since32 s c.modStart then
      .next (setDailies f d { o with msgDue := true, msgTimed := true } s)
    else .next s
  | none => .next (if o.owes && keepsContexts s.modes.mode then fetchDailies f d s else s)

/-- Whether a request is a message of a dailies. -/
def isDailiesMessage (f d : Nat) (r : Request) : Bool := r.purpose = .dailiesMessage f d

/-- MESSAGE_PARK_TIMEOUT (R459): the message fails without being issued; so does a reissue that waits. -/
def execMessageParkTimeout (tenant : Func) (dailies : BitVec 20) (s : State) : Outcome :=
  let f := tenant.toNat
  let d := dailies.toNat
  let o := dailiesOf s f d
  let limit := (tenantOf s f).sheet.parkTimeout
  let late := fun h : Held => isDailiesMessage f d h.req && heldLate s limit h
  match o.ctx with
  | some c =>
    if o.msgDue && asleep s c.msgAddr && o.msgSince.any (fun p => p + limit < now s) then
      .next (raise 0xA5 (putDailies f d { c with pending := 0 } (setDailies f d { o with msgDue := false, msgTimed := false, msgSince := none } s)))
    else if s.fabric.held.any late then
      .next (raise 0xA5 { s with fabric := { s.fabric with held := s.fabric.held.filter fun h => !late h } })
    else .next s
  | none =>
    if s.fabric.held.any late then
      .next (raise 0xA5 { s with fabric := { s.fabric with held := s.fabric.held.filter fun h => !late h } })
    else .next (if o.msgSince.isSome && keepsContexts s.modes.mode then fetchDailies f d s else s)

/-! ### Aborted reels (02 R64) -/

/-- Whether unread slates of a tenant's aborted reels are answered now. -/
def answersAborted (s : State) (f : Nat) : Bool := pairs s.modes.mode && s.modes.pending.isNone && (tenantOf s f).state = .running

/-- The header read of an unread slate. -/
def readHeader (x : Slate) (c : ReelCtx) (s : State) : State :=
  issueRead (c.base + BitVec.ofNat 64 (128 * x.index)) 32 x.tenant attrMeta (.abortHeader x.id) (setSlate { x with stage := .owedReading } s)

/-- Whether a dailies is HALTED or halting: it takes no daily of an unread slate (R64). -/
def dailiesStopped (s : State) (f d : Nat) : Bool :=
  let o := dailiesOf s f d
  o.halting.isSome || o.ctx.any (·.halted)

/-- The next unread slate, with a credit. -/
def oweNext (f i : Nat) (c : ReelCtx) (s : State) : State :=
  if canCredit s f c.dailies then
    let x : Slate := { id := s.sched.nextId, tenant := f, reel := i, dailies := c.dailies, index := c.head, seq := 0, credit := true,
                       stage := .owed, bytes := [], ext := [] }
    let s := takeCredit f c.dailies (bumpId s)
    readHeader x c { s with slates := s.slates ++ [x] }
  else fetchDailies f c.dailies s

/-- The REEL_ABORTED daily of an unread slate. -/
def abortedDaily (x : Slate) (ok : Bool) : Daily :=
  let b := if ok then joined x.bytes else zeroBytes 32
  notRunDaily (slateSeq b) (slateTag b) (slateClapper b) (toLe 2 x.index ++ zeroBytes 6) stReelAborted

/-- An unread slate is answered: its daily, HEAD, ABORT_REMAIN, and event 0xA4 after the last. -/
def answerUnread (x : Slate) (ok : Bool) (s : State) : State :=
  let s := writeDaily x.tenant x.reel x.dailies (abortedDaily x ok) (dropSlate x.id s)
  let s := modReel x.tenant x.reel (fun c =>
    { moveHead (now32 s) ((c.head + 1) % 2 ^ c.log2) c with abortRemain := c.abortRemain - 1 }) s
  if (reelOf s x.tenant x.reel).ctx.any abortDone then raise 0xA4 s else s

/-- ABORTED_DAILY_WRITE (R64): while the dailies is HALTED the abort waits until RESET_DAILIES, even for a slate that holds a credit. -/
def execAbortedDailyWrite (tenant : Func) (reel : BitVec 20) (s : State) : Outcome :=
  let f := tenant.toNat
  let i := reel.toNat
  match (reelOf s f i).ctx with
  | none => .next (if answersAborted s f then fetchReel f i s else s)
  | some c =>
    if !answersAborted s f || c.state ≠ .aborted || c.abortRemain = 0 then .next s
    else match slatesOf s f i with
      | [] => .next (oweNext f i c s)
      | x :: _ =>
        match x.stage with
        | .owed => .next (readHeader x c s)
        | .owedRead ok => .next (if dailiesStopped s f x.dailies then s else answerUnread x ok s)
        | _ => .next s

/-! ### Quiet tenants (10 R289, 12 R328) -/

/-- The indices of a tenant's dailies. -/
def dailiesIndices (s : State) (f : Nat) : List Nat := (s.dailies.filter fun p => p.1 / 2 ^ 20 = f).map fun p => p.1 % 2 ^ 20

/-- Whether no slate read and no take of a tenant is in flight. -/
def tenantIdle (s : State) (f : Nat) : Bool := !(s.slates.any fun x => x.tenant = f && holdsSeq x) && !s.takes.any fun t => t.tenant = f

/-- Every pending message of a tenant becomes due, and every changed context is written back. -/
def flushTenant (f : Nat) (s : State) : State :=
  let s := (dailiesIndices s f).foldl (fun s d =>
    let o := dailiesOf s f d
    let s := if o.owes then fetchDailies f d s else s
    let s := if o.ctx.any fun c => c.intEn && 1 ≤ c.pending then setDailies f d { o with msgDue := true, msgTimed := true } s else s
    if o.changed.isSome then writeBack f true d s else s) s
  (reelsOf s f).foldl (fun s i => if (reelOf s f i).changed.isSome then writeBack f false i s else s) s

/-- Whether everything a tenant has issued is acknowledged and no message of it waits. -/
def tenantFlushed (s : State) (f : Nat) : Bool :=
  !(allRequests s).any (fun r => r.func = f) && ((dailiesIndices s f).all fun d =>
    let o := dailiesOf s f d
    !o.msgDue && !o.owes && o.changed.isNone && o.lostOwed = 0 && o.boundOwed = 0 && (o.ctx.isSome || o.halting.isNone)) &&
  (reelsOf s f).all fun i => (reelOf s f i).seqOwed.isNone && (reelOf s f i).lostOwed = 0

/-- A tenant is PAUSED; a partner's TENANT_REMOVE that waited for it takes effect (11 R316). -/
def tenantPaused (f : Nat) (s : State) : State :=
  let t := tenantOf s f
  let s := raise 0xA8 (setTenant f { t with state := .paused, removing := false } s)
  if t.removing then floorWrite [] (removeTenant false f s) else s

/-- PAUSE_COMPLETE (R289). -/
def execPauseComplete (tenant : Func) (s : State) : Outcome :=
  let f := tenant.toNat
  if (tenantOf s f).state ≠ .pausing || !keepsContexts s.modes.mode || !tenantIdle s f then .next s
  else
    let s := flushTenant f s
    .next (if tenantFlushed s f then tenantPaused f s else s)

end Sys2Proof.Machine
end

