-- ==== Sys2Proof/Machine/Direct.lean ====
section
/-! DEFINITION. The direct-feed port (06 R189 to R196). -/

namespace Sys2Proof.Machine

/-- FLAG_SRC of an accessor (06 Table 6.11). -/
def flagSrcOf (src : Source) : BitVec 2 := BitVec.ofNat 2 (srcCode src)

/-- The ALG codes the port accepts (06 Table 6.1). -/
def directAlg (alg : BitVec 4) : Bool := [2, 3, 4, 9, 0xA, 0xB].contains alg.toNat

/-- The port freed, its message gone; the MP may chain what waits. -/
def freeDirect (s : State) : State :=
  chainQueue { s with direct := { s.direct with
    owner := none, active := false, busy := false, finishing := false, message := [], msgAlg := 0, msgLen := 0 } }

/-- A start by START or by a silent first word (R190, R192). A start refused for BAD_ALG starts no message: it leaves DONE, WORDS and SEQ,
which R190 has a start clear and count, as they are (log 94). -/
def directStart (src : Source) (s : State) : State :=
  let d := s.direct
  if directAlg d.alg then
    { s with direct := { d with
        owner := some src, active := true, done := false, words := 0, seq := d.seq + 1, msgAlg := d.alg,
        msgLen := d.len.toNat, message := [], finishing := false, lastWrite := now s } }
  else freeDirect { s with direct := { d with badAlg := true, flagSrc := flagSrcOf src } }

/-- Whether the port is owned by the other accessor. -/
def directOther (src : Source) (s : State) : Bool := s.direct.active && s.direct.owner ≠ some src

/-- An access that the owner alone may make is refused (R194). -/
def directRefuse (src : Source) (s : State) : State :=
  { s with direct := { s.direct with ownedByOther := true, flagSrc := flagSrcOf src } }

/-- The word of a DD_DATA write appended; a whole block sets BUSY (R191). -/
def directAppend (value : Word) (s : State) : State :=
  let m := s.direct.message ++ toLe 8 value.toNat
  { s with direct := { s.direct with
      message := m, words := (s.direct.words + 1) % 2 ^ 38, lastWrite := now s,
      busy := m.length % hashBlock s.direct.msgAlg.toNat = 0 } }

/-- A DD_DATA write while the port is not busy (R191, R192, R194). -/
def directData (src : Source) (value : Word) (s : State) : State :=
  if directOther src s then directRefuse src s
  else if s.direct.active then directAppend value s
  else
    let s := directStart src s
    if s.direct.active then directAppend value s else s

/-- FINISH by the owner (R193). -/
def directFinish (s : State) : State :=
  if s.direct.words = ceilDiv s.direct.msgLen 8 then
    { s with direct := { s.direct with busy := true, finishing := true, lastWrite := now s } }
  else freeDirect { s with direct := { s.direct with digest := zeros 64, lengthMismatch := true, flagSrc := match s.direct.owner with
    | some o => flagSrcOf o
    | none => s.direct.flagSrc } }

/-- FINISH or CANCEL on a free port (R194). -/
def directNoMessage (src : Source) (s : State) : State :=
  { s with direct := { s.direct with noMessage := true, flagSrc := flagSrcOf src } }

/-- A DD_CTRL write while the port is not busy: ALG takes effect at once, then CMD (R190 to R194). A command refused to the other
accessor, and a FINISH or CANCEL on a free port, leave ALG too: they have no other effect (R194). -/
def directCtrl (src : Source) (value : Word) (s : State) : State :=
  let cmd := bits 0 2 value
  if cmd ≠ 0 && directOther src s then directRefuse src s
  else if 2 ≤ cmd && !s.direct.active then directNoMessage src s
  else
    let s := { s with direct := { s.direct with alg := BitVec.ofNat 4 (bits 4 4 value) } }
    let own := s.direct.active && s.direct.owner = some src
    match cmd with
    | 0 => if own then { s with direct := { s.direct with lastWrite := now s } } else s
    | 1 => directStart src s
    | 2 => directFinish s
    | _ => freeDirect s

/-- A write of DD_DATA or DD_CTRL; the port has held it while BUSY was set (R191). -/
def directWrite (src : Source) (isData : Bool) (value : Word) (s : State) : State :=
  if !directRuns s.modes.mode then s
  else if isData then directData src value s else directCtrl src value s

/-- The final blocks of a message are compressed: DD_DIGEST, DONE and DONE_SEQ (R193). -/
def directDigest (s : State) : State :=
  let d := s.direct
  freeDirect { s with direct := { d with
    digest := fit 64 (hashAlg d.msgAlg.toNat 0 (d.message.take d.msgLen)), done := true, doneSeq := d.seq } }

/-- A write of DD_LEN. -/
def directLen (value : Word) (s : State) : State :=
  if directRuns s.modes.mode then { s with direct := { s.direct with len := BitVec.ofNat 40 value.toNat } } else s

/-- A write of DD_STATUS: its W1C flags. -/
def directStatusWrite (value : Word) (s : State) : State :=
  if directRuns s.modes.mode then
    let d := s.direct
    { s with direct := { d with
        noMessage := d.noMessage && !bit 9 value, badAlg := d.badAlg && !bit 8 value, timedOut := d.timedOut && !bit 7 value,
        ownedByOther := d.ownedByOther && !bit 6 value, lengthMismatch := d.lengthMismatch && !bit 5 value } }
  else s

/-- DD_START. -/
def execDdStart (src : Source) (value : Word) (s : State) : Outcome :=
  if bits 0 2 value = 1 then .next (mgrWrite src 0x0F000 value (directWrite src false value) s) else .next s

/-- DD_DATA. -/
def execDdData (src : Source) (value : Word) (s : State) : Outcome :=
  .next (mgrWrite src 0x0F010 value (directWrite src true value) s)

/-- DD_FINISH. -/
def execDdFinish (src : Source) (value : Word) (s : State) : Outcome :=
  if bits 0 2 value = 2 then .next (mgrWrite src 0x0F000 value (directWrite src false value) s) else .next s

/-- DD_CANCEL. -/
def execDdCancel (src : Source) (value : Word) (s : State) : Outcome :=
  if bits 0 2 value = 3 then .next (mgrWrite src 0x0F000 value (directWrite src false value) s) else .next s

/-- DD_TIMEOUT (R193): the owner has written nothing for 1 ms. -/
def execDdTimeout (s : State) : Outcome :=
  if s.direct.active && !s.direct.busy && directRuns s.modes.mode && s.direct.lastWrite + 1000 ≤ now s then
    .next (freeDirect { s with direct := { s.direct with timedOut := true } })
  else .next s

end Sys2Proof.Machine
end

