-- ==== Sys2Proof/Machine/KeyStore.lean ====
section
/-! DEFINITION. The KUM mailbox (08 R234 to R248): key updates, sealed images, transfer packages, and the mask refresh. -/

namespace Sys2Proof.Machine

/-! ### Ends and refusals -/

/-- The mailbox's command ends with a status and REASON. -/
def kmEnd (status : Status) (reason : Nat) (s : State) : State :=
  { s with keys := { s.keys with run := none, result := status, reason := reason, input := [], output := [], outLen := 0 } }

/-- Set an output for KM_DATA. -/
def kmOutput (run : KmRun) (b : Bytes) (s : State) : State :=
  { s with keys := { s.keys with run := some run, output := b, outLen := b.length, input := [] } }

/-- The input of KM_LEN bytes. -/
def kmInput (s : State) : Bytes := s.keys.input.take s.keys.inLen

/-- The failed check of a command: its status and REASON. -/
abbrev Failed := Status × Nat

/-- Go on if a check holds. -/
def check (c : Bool) (st : Status) (reason : Nat) : Except Failed Unit := if c then .ok () else .error (st, reason)

/-! ### The fields of a KUM (08 Table 8.5) -/

/-- KIND. -/
def kumKind (b : Bytes) : Nat := byteAt 2 b
/-- OWNER. -/
def kumOwner (b : Bytes) : Nat := field 6 2 b
/-- COUNTER. -/
def kumCounter (b : Bytes) : Nat := field 8 8 b
/-- SLOT. -/
def kumSlot (b : Bytes) : Nat := field 0x10 4 b
/-- KEY_BYTES. -/
def kumKeyBytes (b : Bytes) : Nat := field 0x16 2 b
/-- USAGE. -/
def kumUsage (b : Bytes) : BitVec 32 := BitVec.ofNat 32 (field 0x18 4 b)
/-- DERIVED_MASK. -/
def kumDerived (b : Bytes) : BitVec 32 := BitVec.ofNat 32 (field 0x1C 4 b)
/-- PAYLOAD_LEN. -/
def kumPayloadLen (b : Bytes) : Nat := field 0x2C 4 b
/-- PAYLOAD. -/
def kumPayload (b : Bytes) : Bytes := slice 0x70 (kumPayloadLen b) b
/-- AUTH_ENTRY. -/
def kumAuth (b : Bytes) : Nat := byteAt 5 b

/-- MIGRATE_PERMIT or IMPORT_PERMIT. -/
def isPermit (kind : Nat) : Bool := kind = 5 || kind = 6

/-- WRITE or COMPONENT. -/
def isFill (kind : Nat) : Bool := kind = 1 || kind = 2

/-- Check 3 of 08 Table 8.7: the kinds, what Table 8.6 permits together, and the reserved fields. -/
def kumShapeOk (b : Bytes) : Bool :=
  let kind := kumKind b
  let tk := byteAt 3 b
  let pk := byteAt 4 b
  let len := kumPayloadLen b
  field 0 2 b = 1 && 1 ≤ kind && kind ≤ 6 && tk ≤ 1 && pk ≤ 4 &&
  (tk = 0 || kind = 1 || kind = 3 || kind = 4) &&
  (match pk with
    | 0 => (kind = 3 || kind = 4) && len = 0
    | 1 => isFill kind && tk = 0
    | 2 => kind = 1 && tk = 1
    | 3 => kind = 1
    | _ => if kind = 1 then isPublic (byteAt 0x14 b) && len = kumKeyBytes b else isPermit kind && len = 96) &&
  field 0x2A 2 b = 0 && kumSlot b < 2 ^ 17 && (!isPermit kind || kumSlot b = 0) && (isFill kind || byteAt 0x14 b = 0) &&
  (tk = 1 || allZero (slice 0x60 16 b))

/-- Check 4: TARGET names this core. -/
def kumTargetOk (s : State) (b : Bytes) : Bool :=
  if byteAt 3 b = 0 then slice 0x30 48 b = idkHash s
  else byteAt (0x30 + s.vault.member / 8) b / 2 ^ (s.vault.member % 8) % 2 = 1

/-- Check 5: COUNTER meets R236. -/
def kumCounterOk (s : State) (b : Bytes) : Bool :=
  if byteAt 3 b = 0 then kumCounter b = s.keys.updateNext else s.keys.updateNext ≤ kumCounter b

/-- R238: the first write of the root update authority. -/
def rootWrite (s : State) (b : Bytes) : Bool :=
  (slotOf s 0).state = .empty && kumKind b = 1 && kumSlot b = 0 && s.modes.mode = .ceremony && byteAt 3 b = 0 && byteAt 4 b = 4

/-- Check 6: the authority entry, or R238. -/
def kumAuthOk (s : State) (b : Bytes) : Bool :=
  let x := slotOf s (2 * kumAuth b)
  rootWrite s b ||
  (kumAuth b ≤ 15 && x.state = .active && uses x.usage (if kumKind b = 2 then 26 else 25) &&
    (x.scope = 0x7FF || x.scope = kumOwner b) &&
    (isPermit (kumKind b) || 0x20 ≤ kumSlot b || kumAuth b = 0 || (slotOf s 0).state = .empty))

/-- Check 7: the signature, under the entry's key or the key carried. -/
def kumSigOk (s : State) (b : Bytes) : Bool :=
  let pub := if rootWrite s b then kumPayload b else groupMaterial s (2 * kumAuth b)
  let n := 0x70 + kumPayloadLen b
  ecdsaVerify p384 pub (sha384 (b.take n)) (slice n 96 b)

/-- The slots a KUM acts on, counted from SLOT (R240). -/
def kumSpan (s : State) (b : Bytes) : Nat :=
  if isFill (kumKind b) then max 1 (slotsFor (kumKeyBytes b)) else (slotOf s (kumSlot b)).size + 1

/-- Check 8: OWNER and the group's place. -/
def kumOwnerOk (s : State) (b : Bytes) : Bool :=
  let o := kumOwner b
  let t := (tenantOf s o).sheet
  let isTenant := o < tenantCount s && (tenantOf s o).state ≠ .free
  if isPermit (kumKind b) then isTenant
  else if o = 0x400 then kumSlot b + kumSpan s b ≤ 0x21
  else isTenant && t.slotBase ≤ kumSlot b && kumSlot b + kumSpan s b ≤ t.slotBase + t.slots

/-- Whether a second COMPONENT matches the pending one (R239). -/
def componentMatches (x : Slot) (b : Bytes) : Bool :=
  x.cls = byteAt 0x14 b && x.hash = byteAt 0x15 b && x.keyBytes = kumKeyBytes b && x.usage = kumUsage b &&
  x.derived = kumDerived b && x.useCap = field 0x20 5 b && x.owner = kumOwner b && x.custodian ≠ some (kumAuth b)

/-- Check 9: SLOT begins a group or is EMPTY, its STATE permits the KIND, and the further slots are free. -/
def kumStateOk (s : State) (b : Bytes) : Bool :=
  let x := slotOf s (kumSlot b)
  let stateOk := match kumKind b with
    | 1 => x.state = .empty || x.state = .faulted || (x.state = .active && !x.dual)
    | 2 => x.state = .empty || (x.state = .pending && componentMatches x b)
    | 3 => x.state = .active
    | _ => x.state ≠ .empty
  isPermit (kumKind b) ||
  (!x.cont && stateOk && (!isFill (kumKind b) || (List.range (kumSpan s b)).all fun k =>
    (slotOf s (kumSlot b + k)).state = .empty || (x.state ≠ .empty && k ≤ x.size)))

/-- Check 10: CLASS, KEY_BYTES, HASH, USAGE and DERIVED_MASK. -/
def kumAttrOk (s : State) (b : Bytes) : Bool :=
  let x := slotOf s (kumSlot b)
  let cls := byteAt 0x14 b
  match kumKind b with
  | 3 => subUsage (kumUsage b) x.usage && subUsage (kumDerived b) x.derived &&
      usageOk x.cls (kumUsage b) (kumDerived b) (some (kumSlot b))
  | 4 | 5 | 6 => true
  | _ => keyBytesOk cls (kumKeyBytes b) && hashOk cls (byteAt 0x15 b) &&
      usageOk cls (kumUsage b) (kumDerived b) (some (kumSlot b))

/-- Check 11: SHIELDED only for an owner of shielded class. -/
def kumShieldOk (s : State) (b : Bytes) : Bool :=
  !(kumKind b ≤ 3 && uses (kumUsage b) 24) || (kumOwner b < 0x400 && (tenantOf s (kumOwner b)).sheet.shielded)

/-- Checks 12 and 13: the clear material of the payload. -/
def kumUnwrap (s : State) (b : Bytes) : Except Failed Bytes :=
  let p := kumPayload b
  let tag : Failed := (stTagMismatch, 0x0C)
  match byteAt 4 b with
  | 0 => .ok []
  | 1 =>
    let z := s.ao.idk.bind fun d => ecdh p384 d (p.take 96)
    let info := ascii "TX7-KUM" ++ toLe 8 (kumCounter b) ++ toLe 4 (kumSlot b)
    match z.bind fun z => kwpOpen (aesDec (kdfSingle z info 32)) (p.drop 96) with
    | some m => .ok m
    | none => .error tag
  | 2 =>
    let x := slotOf s 0x20
    if x.state = .active && uses x.usage 27 then
      match kwpOpen (aesDec (groupMaterial s 0x20)) p with
      | some m => .ok m
      | none => .error tag
    else .error tag
  | 3 =>
    match nativeOpen s (kumOwner b) p with
    | .ok k =>
      if k.cls = byteAt 0x14 b && k.material.length = kumKeyBytes b && subUsage (kumUsage b) k.usage then .ok k.material
      else .error (stBlobInvalid, 0x0D)
    | .error _ => .error (stBlobInvalid, 0x0D)
  | _ => .ok p

/-- The material a fill leaves in the slot: a second component is combined with the first (R239). -/
def kumCombined (s : State) (b m : Bytes) : Bytes :=
  if kumKind b = 2 && (slotOf s (kumSlot b)).state = .pending then xorBytes (groupMaterial s (kumSlot b)) m else m

/-- Whether a KUM stores a first component. -/
def kumFirstComponent (s : State) (b : Bytes) : Bool := kumKind b = 2 && (slotOf s (kumSlot b)).state = .empty

/-- Check 14: the material. A first component alone is no key, so it is not checked. -/
def kumMaterialOk (s : State) (b m : Bytes) : Bool :=
  if isPermit (kumKind b) then (pointOf p384 m).isSome
  else if isFill (kumKind b) then
    m.length = kumKeyBytes b && (kumFirstComponent s b || materialOk (byteAt 0x14 b) (kumCombined s b m))
  else true

/-- Check 15: the KCV of the key, or of the component, for an AES or TDES class. -/
def kumKcvOk (b m : Bytes) : Bool :=
  let cls := byteAt 0x14 b
  !(isFill (kumKind b) && cls ≤ 5) || kcvOf cls m = slice 0x25 3 b

/-- The attribute record a fill writes (Table 8.8, R239). -/
def kumEntry (s : State) (b material : Bytes) : Slot :=
  let cls := byteAt 0x14 b
  let first := kumFirstComponent s b
  { Slot.reset with
    owner := kumOwner b, cls := cls, usage := kumUsage b, derived := kumDerived b, hash := byteAt 0x15 b,
    state := if first then .pending else .active, dual := kumKind b = 2 && !first, keyBytes := kumKeyBytes b,
    writtenBy := BitVec.ofNat 64 (kumCounter b), useCap := field 0x20 5 b,
    kcv := if cls ≤ 5 then kcvOf cls material else zeroBytes 3,
    scope := if kumSlot b < 0x20 then field 0x28 2 b % 2048 else 0,
    custodian := if first then some (kumAuth b) else none }

/-- Checks 1 to 5 of 08 Table 8.7, and 11 R312 on a junior in sync. -/
def kumEarly (s : State) (b : Bytes) : Except Failed Unit := do
  check (!(s.twin.link = .sync && s.twin.role = .junior)) stModeDenied 0x13
  check (if kumKind b = 2 then s.modes.mode = .ceremony else pairs s.modes.mode) stModeDenied 0x01
  check (s.keys.inLen = 0x70 + kumPayloadLen b + 96 && s.keys.inLen ≤ 6144) stBlobLength 0x02
  check (kumShapeOk b) stBlobInvalid 0x03
  check (kumTargetOk s b) stOwnerMismatch 0x04
  check (kumCounterOk s b) stBlobInvalid 0x05

/-- Checks 6 to 15. -/
def kumLate (s : State) (b : Bytes) : Except Failed Checked := do
  check (kumAuthOk s b) stUsageDenied 0x06
  check (kumSigOk s b) stVerifyFail 0x07
  check (kumOwnerOk s b) stOwnerMismatch 0x08
  check (kumStateOk s b) stUsageDenied 0x09
  check (kumAttrOk s b) stInputRange 0x0A
  check (kumShieldOk s b) stUsageDenied 0x0B
  let m ← kumUnwrap s b
  check (kumMaterialOk s b m) stInputRange 0x0E
  check (kumKcvOk b m) stCheckFail 0x0F
  let full := kumCombined s b m
  .ok { kind := kumKind b, counter := kumCounter b, slot := if isPermit (kumKind b) then kumOwner b else kumSlot b,
        entry := kumEntry s b full, material := full, auth := kumAuth b, roster := byteAt 3 b = 1, waiting := false }

/-- A refused KUM (R237): status, REASON, event 0x61 and an entry. -/
def kumRefuse (b : Bytes) (e : Failed) (s : State) : State :=
  kmEnd e.1 e.2 (raiseLog 0x61 0x0020 (kumSlot b) (keyValue e.1 e.2 (kumKind b)) (kumCounter b) s)

/-- The slots a KUM reads: its authority entry, its group, its KEK or the fleet transport key. -/
def kumReads (b : Bytes) : List Nat :=
  [2 * kumAuth b, kumSlot b] ++
  (match byteAt 4 b with | 2 => [0x20] | 3 => [field 0x70 4 b] | _ => [])

/-- A TAG failure ends the reading command (R232). -/
def tagFaultEnd (i : Nat) (s : State) : State := kmEnd stFaultDetected 0 (faultGroup i s)

/-- Whether a KUM that has passed its checks writes UPDATE_FLOOR (R240). -/
def kumFloors (s : State) (c : Checked) : Bool := c.kind = 4 || (c.kind = 1 && (slotOf s c.slot).dual)

/-- Start the vault write a checked KUM waits for (R236, R240), or none. -/
def kumVault (c : Checked) (s : State) : State :=
  let next := (c.counter + 1) % 2 ^ 64
  let floor := if kumFloors s c then some next else none
  let ceiling := ceilingFor s next
  if floor.isNone && ceiling.isNone then { s with keys := { s.keys with run := some (.checked c) } }
  else vaultChange { epoch := none, ceiling := ceiling, floor := floor, member := none, waiters := [.kum] }
    { s with keys := { s.keys with run := some (.checked { c with waiting := true }) } }

/-- KUM (R237). One of payload kind 1 needs a shielded core (R235). -/
def execKum (tagFault : Option (BitVec 17)) (s : State) : Outcome :=
  let b := fit (max 0x70 s.keys.inLen) (kmInput s)
  if s.keys.run ≠ some .kum || !kmComplete s then .next s
  else match kumEarly s b with
    | .error e => .next (kumRefuse b e s)
    | .ok _ =>
      match tagFault.filter fun i => groupAt s i.toNat && (kumReads b).contains i.toNat with
      | some i => .next (tagFaultEnd i.toNat s)
      | none =>
        let go := fun t : State => match kumLate t b with
          | .error e => kumRefuse b e t
          | .ok c => kumVault c t
        .next (if byteAt 4 b = 1 then onShielded go id s else go s)

/-! ### The commit (R240, Table 8.8) -/

/-- The store after the commit of a checked KUM. -/
def kumStore (c : Checked) (s : State) : State :=
  let writer := BitVec.ofNat 64 c.counter
  match c.kind with
  | 1 | 2 => writeGroup c.slot c.entry c.material s
  | 3 => mapGroup c.slot (fun x => { x with
      usage := c.entry.usage, derived := c.entry.derived, useCap := c.entry.useCap, writtenBy := writer }) s
  | 4 => eraseGroup (some writer) c.slot s
  | 5 => { s with keys := { s.keys with migrate := tableSet [] s.keys.migrate c.slot c.material } }
  | _ => { s with keys := { s.keys with imports := tableSet [] s.keys.imports c.slot c.material } }

/-- The SLOT entry a commit carries to the twin, that of a first component too (11 R313). -/
def kumCarry (c : Checked) (before s : State) : State :=
  let slots := groupSlots before c.slot ++ groupSlots s c.slot
  match c.kind with
  | 1 | 2 => carry 1 c.slot (slotEntryBody s 1 c.slot) slots s
  | 3 => carry 1 c.slot (slotEntryBody s 2 c.slot) slots s
  | 4 => carry 1 c.slot (slotEntryBody before 3 c.slot) slots s
  | _ => s

/-- Whether a commit supersedes content a take has bound and no retention entry is free (R233). -/
def kumHeldUp (s : State) (c : Checked) : Bool :=
  (isFill c.kind || c.kind = 4) && needsRetention s c.slot && !retentionFree s

/-- Whether a roster KUM leaves every slot's content as it is: the partner's copy of it came first (11 R320, Table 11.11). -/
def kumRepeats (c : Checked) (before s : State) : Bool :=
  c.roster && (c.kind = 1 || c.kind = 3) &&
  (groupSlots before c.slot ++ groupSlots s c.slot).all fun i => sameContent (slotOf before i) (slotOf s i)

/-- UPDATE_NEXT after a committed KUM (R236). -/
def kumCounted (c : Checked) (s : State) : State := { s with keys := { s.keys with updateNext := (c.counter + 1) % 2 ^ 64 } }

/-- KUM_COMMIT (R240). A roster KUM whose content is there already has no effect but on UPDATE_NEXT, which it passes so that it cannot
be sent again later (log 99). -/
def execKumCommit (s : State) : Outcome :=
  match s.keys.run with
  | some (.checked c) =>
    let t := kumStore c s
    if c.waiting then .next s
    else if kumRepeats c s t then .next (kmEnd 0 0 (kumCounted c s))
    else if kumHeldUp s c then .next s
    else .next (kmEnd 0 0 (raise 0x60 (kumCounted c (kumCarry c s t))))
  | _ => .next s

/-! ### Sealed images (R245, R246) -/

/-- The slots of an image: all that are ACTIVE, the rest EMPTY, PENDING or FAULTED. -/
def imageSlots (s : State) : List (Nat × Slot) := s.keys.slots.filter fun p => p.2.state = .active

/-- The plaintext records of an image. -/
def imageRecords (s : State) : Bytes :=
  (imageSlots s).flatMap (fun p => slotRecord p.1 p.2) ++
  s.keys.secrets.flatMap fun p => toLe 2 p.1 ++ zeroBytes 6 ++ fit 48 p.2

/-- Bytes 0x00 to 0x5F of an image. -/
def imageHeader (s : State) : Bytes :=
  ascii "T7SI" ++ toLe 2 1 ++ zeroBytes 2 ++ toLe 4 s.vault.epoch ++ toLe 4 (imageSlots s).length ++ toLe 8 s.ao.exportNo ++
  toLe 8 s.keys.updateNext ++ idkHash s ++ toLe 4 s.keys.secrets.length ++ zeroBytes 12

/-- The nonce of an export number. -/
def imageNonce (n : Nat) : Bytes := zeroBytes 4 ++ toBe 8 n

/-- The sealed image of the present store (08 Table 8.15). -/
def sealedImage (s : State) : Bytes :=
  let key := sealKey (s.ao.drk.getD (zeroBytes 32)) s.vault.epoch
  let h := imageHeader s
  let c := gcmEnc (aesEnc key) (imageNonce s.ao.exportNo) h (imageRecords s)
  h ++ c.1 ++ c.2

/-- IMAGE_EXPORT, in its modes. -/
def imageExport (tagFault : Option (BitVec 17)) (s : State) : State :=
  match tagFault.filter fun i => groupAt s i.toNat && (slotOf s i.toNat).state = .active with
  | some i => tagFaultEnd i.toNat s
  | none => kmOutput .imageOut (sealedImage s) { s with ao := { s.ao with exportNo := (s.ao.exportNo + 1) % 2 ^ 64 } }

/-- The slot records of an image or package, as number and slot. -/
def recordsOf (n : Nat) (b : Bytes) : List (Nat × Slot) :=
  (List.range n).map fun k => (field (112 * k) 4 b, slotFrom (slice (112 * k + 8) 48 b) (slice (112 * k + 56) 56 b))

/-- The material of the group that begins at one of some records. -/
def recordMaterial (rs : List (Nat × Slot)) (p : Nat × Slot) : Bytes :=
  ((List.range (p.2.size + 1)).flatMap fun k =>
    match rs.find? fun q => q.1 = p.1 + k with
    | some q => fit 56 q.2.share
    | none => zeroBytes 56).take p.2.keyBytes

/-- Check 7 of R246. -/
def recordsValid (s : State) (rs : List (Nat × Slot)) : Bool :=
  rs.all fun p => p.1 < slotCount s && (p.2.cont || materialOk p.2.cls (recordMaterial rs p))

/-- The checks of R246 in order; the records and the tenants' secrets of an accepted image. -/
def imageCheck (s : State) (b : Bytes) : Except Failed (List (Nat × Slot) × List (Nat × Bytes)) := do
  let n := field 0x0C 4 b
  let t := field 0x50 4 b
  check (b.take 6 = ascii "T7SI" ++ [1, 0]) stBlobInvalid 0x03
  check (b.length = 0x60 + 112 * n + 56 * t + 16) stBlobLength 0x02
  check (slice 0x20 48 b = idkHash s) stOwnerMismatch 0x04
  check (field 8 4 b ≤ s.vault.epoch) stBlobInvalid 0x05
  check (s.vault.floor ≤ field 0x18 8 b) stBlobInvalid 0x11
  let key := sealKey (s.ao.drk.getD (zeroBytes 32)) (field 8 4 b)
  match gcmDec (aesEnc key) (imageNonce (field 0x10 8 b)) (b.take 0x60) (slice 0x60 (112 * n + 56 * t) b)
      (b.drop (b.length - 16)) with
  | none => .error (stTagMismatch, 0x0C)
  | some p =>
    let rs := recordsOf n p
    check (recordsValid s rs) stInputRange 0x0E
    .ok (rs, (List.range t).map fun k => (field (112 * n + 56 * k) 2 p, slice (112 * n + 56 * k + 8) 48 p))

/-- The key store an accepted image leaves: every LOCAL_COUNT is zero, and every companion area is computed (R246). -/
def restoreStore (rs : List (Nat × Slot)) (secrets : List (Nat × Bytes)) (s : State) : State :=
  (rs.map Prod.fst).foldl (fun t i => withCompanion i t) { s with keys := { s.keys with
      slots := rs.foldl (fun m p => tableSet Slot.reset m p.1 { p.2 with localCount := 0 }) [],
      secrets := secrets.foldl (fun m p => tableSet [] m p.1 p.2) [],
      retained := [], migrate := [], imports := [], importedSheet := none } }

/-- IMAGE_RESTORE (R246); the core leaves SEALED (12 R337). -/
def execImageRestore (s : State) : Outcome :=
  if s.keys.run ≠ some .imageRestore || !kmComplete s then .next s
  else if s.modes.mode ≠ .sealed then .next (kmEnd stModeDenied 0 s)
  else match imageCheck s (kmInput s) with
    | .error e => .next (raise 0x67 (kmEnd e.1 e.2 s))
    | .ok r => .next (enterServing 0 (raise 0x66 (kmEnd 0 0 (restoreStore r.1 r.2 s))))

/-! ### Transfer packages (R247) -/

/-- A package up to its tag, and its tag's ciphertext, from the ephemeral scalar. -/
def packageBody (s : State) (f eph : Nat) (dest : Bytes) : Bytes :=
  let t := tenantOf s f
  let rs := (rangeSlots t).filter fun i => (slotOf s i).state = .active
  let plain := rs.flatMap (fun i => slotRecord (i - t.sheet.slotBase) (slotOf s i)) ++
    toLe 2 f ++ zeroBytes 6 ++ fit 48 (secretOf s f) ++ sheetBytes f t
  let h := ascii "T7TP" ++ toLe 2 1 ++ toLe 2 f ++ toLe 4 rs.length ++ zeroBytes 4 ++ idkHash s ++ sha384 dest ++ ecPublic p384 eph
  let key := kdfSingle ((ecdh p384 eph dest).getD (zeroBytes 48)) (ascii "TX7-PKG") 32
  let c := gcmEnc (aesEnc key) (zeroBytes 12) h plain
  h ++ c.1 ++ c.2

/-- The signed package, from the bytes drawn for the ephemeral key and the signature. -/
def packageBytes (s : State) (f : Nat) (drawn : Bytes) : Bytes :=
  let n := scalarBytes p384
  let b := packageBody s f (scalarFrom p384.n (drawn.take n)) (tableGet [] s.keys.migrate f)
  b ++ idkSign s (drawn.drop n) b

/-- PACKAGE_EXPORT once its random bytes are there, on a shielded core. -/
def packageSealed (f : Nat) (drawn : Bytes) (s : State) : State :=
  if s.keys.run = some (.packageDraw f) then kmOutput (.packageOut f) (packageBytes s f drawn) s else s

/-- The random bytes of PACKAGE_EXPORT are there. -/
def packageReady (f : Nat) (drawn : Bytes) (s : State) : State := underIdk (.package f drawn) (packageSealed f drawn) s

/-- PACKAGE_EXPORT, in its modes. -/
def packageExport (tagFault : Option (BitVec 17)) (s : State) : State :=
  let f := bits 0 11 s.keys.inArg
  let t := tenantOf s f
  if tableGet [] s.keys.migrate f = [] then kmEnd stUsageDenied 0x06 s
  else if t.state ≠ .paused || s.takes.any (fun x => x.tenant = f) then kmEnd stTenantPaused 0x12 s
  else match tagFault.filter fun i => groupAt s i.toNat && (rangeSlots t).contains i.toNat with
    | some i => tagFaultEnd i.toNat s
    | none =>
      match askRandom .package (2 * scalarBytes p384) false { s with keys := { s.keys with run := some (.packageDraw f) } } with
      | .error st => kmEnd st 0 s
      | .ok (some d, u) => packageReady f d u
      | .ok (none, u) => u

/-- The last word of a package has been read: the tenant's slots are erased and the floor written (R247). -/
def packageRead (f : Nat) (s : State) : State :=
  let t := tenantOf s f
  let s := (groupsIn s t.sheet.slotBase t.sheet.slots).foldl (fun u i => eraseCarried none i u) s
  floorWrite [.package] { s with keys := { s.keys with
    run := some (.packageWait f), migrate := tableSet [] s.keys.migrate f [] } }

/-- The function of an IMPORT_PERMIT whose source key verifies a package. -/
def importTarget (s : State) (b : Bytes) : Option Nat :=
  let n := b.length - 96
  (s.keys.imports.find? fun p => ecdsaVerify p384 p.2 (sha384 (b.take n)) (b.drop n)).map Prod.fst

/-- Whether a destination range is empty and large enough. -/
def importFits (s : State) (f n : Nat) (plain : Bytes) : Bool :=
  let t := tenantOf s f
  t.state = .paused && (groupsIn s t.sheet.slotBase t.sheet.slots).isEmpty &&
  (recordsOf n plain).all fun p => p.1 < t.sheet.slots

/-- The checks of PACKAGE_IMPORT in order (R247), the shape of Table 8.16 first: the destination and the plaintext. -/
def packageCheck (s : State) (b : Bytes) : Except Failed (Nat × Nat × Bytes) := do
  let n := field 8 4 b
  let len := 112 * n + 56 + 128
  check (b.take 6 = ascii "T7TP" ++ [1, 0]) stBlobInvalid 0x03
  check (b.length = 0xD0 + len + 112) stBlobLength 0x02
  match importTarget s b with
  | none => .error (stVerifyFail, 0x07)
  | some f =>
    check (slice 0x40 48 b = idkHash s) stOwnerMismatch 0x04
    let z := s.ao.idk.bind fun d => ecdh p384 d (slice 0x70 96 b)
    let plain := z.bind fun z => gcmDec (aesEnc (kdfSingle z (ascii "TX7-PKG") 32)) (zeroBytes 12) (b.take 0xD0)
      (slice 0xD0 len b) (slice (0xD0 + len) 16 b)
    let t := tenantOf s f
    check (t.state = .paused && (groupsIn s t.sheet.slotBase t.sheet.slots).isEmpty &&
      plain.all (importFits s f n)) stOwnerMismatch 0x08
    match plain with
    | none => .error (stTagMismatch, 0x0C)
    | some p => .ok (f, n, p)

/-- Install a package's records, secret and call sheet for a destination tenant (R247, 10 R292). -/
def installPackage (f n : Nat) (p : Bytes) (s : State) : State :=
  let base := (tenantOf s f).sheet.slotBase
  let rs := recordsOf n p
  let s := rs.foldl (fun t q =>
    let old := slotOf t (base + q.1)
    setSlot (base + q.1) { q.2 with owner := f, localCount := old.localCount, gen := old.gen + 1 } t) s
  let s := (rs.filter fun q => !q.2.cont).foldl (fun t q =>
    let t := withCompanion (base + q.1) t
    carry 1 (base + q.1) (slotEntryBody t 1 (base + q.1)) (groupSlots t (base + q.1)) t) s
  let secret := slice (112 * n + 8) 48 p
  let s := setSecret f secret s
  let s := carry 5 f secret [] s
  raiseAll [0x69, 0xAB] { s with keys := { s.keys with
    importedSheet := some (f, slice (112 * n + 56) 128 p), imports := tableSet [] s.keys.imports f [] } }

/-- PACKAGE_IMPORT as its checks come out. -/
def packageImport (s : State) : State :=
  match packageCheck s (kmInput s) with
  | .error e => kmEnd e.1 e.2 s
  | .ok r => kmEnd 0 0 (installPackage r.1 r.2.1 r.2.2 s)

/-- PACKAGE_IMPORT (R247), on a shielded core. -/
def execPackageImport (s : State) : Outcome :=
  if s.keys.run ≠ some .packageImport || !kmComplete s then .next s
  else if !serves s.modes.mode then .next (kmEnd stModeDenied 0 s)
  else .next (onShielded packageImport id s)

/-! ### The mailbox (R244) -/

/-- Whether a mode admits SLOT_QUERY and READ_CERT. -/
def queryMode (m : Mode) : Bool := m ≠ .hold && m ≠ .struck && m ≠ .retired

/-- Latch an input command. -/
def kmStart (run : KmRun) (s : State) : State := { s with keys := { s.keys with run := some run, input := [] } }

/-- Whether an operation under the IDK is a package's. -/
def isPackage : IdkJob → Bool
  | .package _ _ => true
  | _ => false

/-- A package that waits for random bytes or for a core waits no longer. -/
def packageWithdraw (s : State) : State :=
  { s with
    units := { s.units with idk := s.units.idk.filter fun j => !isPackage j },
    rng := { s.rng with waiting := s.rng.waiting.filter fun r => r.who ≠ .package } }

/-- A command of KM_CTRL, with KM_LEN and KM_ARG latched (Table 8.13). -/
def kmCommand (cmd : Nat) (tagFault : Option (BitVec 17)) (s : State) : State :=
  let m := s.modes.mode
  let within := fun (ok : Bool) (f : State → State) => if ok then f s else kmEnd stModeDenied 0 s
  match cmd with
  | 1 => kmStart .kum s
  | 2 => within (serves m) (imageExport tagFault)
  | 3 => within (m = .sealed) (kmStart .imageRestore)
  | 4 => within (queryMode m) fun s =>
      let i := bits 0 17 s.keys.inArg
      if i < slotCount s then kmOutput .output (recordOf true (slotOf s i)) s else kmEnd stOwnerMismatch 0 s
  | 5 => within (serves m) fun s => floorWrite [.floor] { s with keys := { s.keys with run := some .floorWait } }
  | 6 => within (serves m) (packageExport tagFault)
  | 7 => within (serves m) (kmStart .packageImport)
  | 8 => within (queryMode m) fun s => kmOutput .output (Config.idkCertificate s.chip.idkPublic) s
  | 0x0F => kmEnd 0 0 (packageWithdraw s)
  | _ => kmEnd stOpcodeUnknown 0 s

/-- A 64-bit write of KM_CTRL. -/
def kmCtrlWrite (value : Word) (tagFault : Option (BitVec 17)) (s : State) : State :=
  let cmd := bits 0 8 value
  if s.keys.run.isSome && cmd ≠ 0x0F then { s with keys := { s.keys with lost := true } }
  else kmCommand cmd tagFault { s with keys := { s.keys with
    cmd := BitVec.ofNat 8 cmd, inLen := s.keys.len.toNat, inArg := s.keys.arg, reason := 0, result := 0 } }

/-- A KM_CTRL command at the register port. -/
def kmCtrl (src : Source) (cmd : Nat) (tagFault : Option (BitVec 17)) (s : State) : Outcome :=
  .next (mgrWrite src 0x06000 (BitVec.ofNat 64 cmd) (kmCtrlWrite (BitVec.ofNat 64 cmd) tagFault) s)

/-- IMAGE_EXPORT. -/
def execImageExport (src : Source) (tagFault : Option (BitVec 17)) (s : State) : Outcome := kmCtrl src 2 tagFault s
/-- SLOT_QUERY. -/
def execSlotQuery (src : Source) (s : State) : Outcome := kmCtrl src 4 none s
/-- FLOOR. -/
def execFloor (src : Source) (s : State) : Outcome := kmCtrl src 5 none s
/-- PACKAGE_EXPORT. -/
def execPackageExport (src : Source) (tagFault : Option (BitVec 17)) (s : State) : Outcome := kmCtrl src 6 tagFault s
/-- READ_CERT. -/
def execReadCert (src : Source) (s : State) : Outcome := kmCtrl src 8 none s
/-- ABORT. -/
def execAbort (src : Source) (s : State) : Outcome := kmCtrl src 0x0F none s

/-- Whether the command in progress takes input. -/
def kmTakesInput (s : State) : Bool :=
  s.keys.run = some .kum || s.keys.run = some .imageRestore || s.keys.run = some .packageImport

/-- A 64-bit write of KM_DATA: it appends a word of input. -/
def kmDataWrite (value : Word) (s : State) : State :=
  if kmTakesInput s && !kmComplete s then
    { s with keys := { s.keys with input := s.keys.input ++ toLe 8 value.toNat } }
  else s

/-- KM_DATA_WRITE. -/
def execKmDataWrite (src : Source) (value : Word) (s : State) : Outcome :=
  .next (mgrWrite src 0x06010 value (kmDataWrite value) s)

/-- The output has been read to its end. -/
def kmOutputEnd (s : State) : State :=
  match s.keys.run with
  | some .imageOut => raise 0x65 (kmEnd 0 0 s)
  | some (.packageOut f) => packageRead f s
  | some .output => kmEnd 0 0 s
  | _ => s

/-- A read of KM_DATA: the next output word, zero where none is pending. -/
def kmDataRead (s : State) : Word × State :=
  if s.keys.output.isEmpty then (0, s)
  else
    let s' := { s with keys := { s.keys with output := s.keys.output.drop 8 } }
    (wordAt 0 (fit 8 s.keys.output), if s'.keys.output.isEmpty then kmOutputEnd s' else s')

/-- Whether the register port answers a read of the Manager window in the present mode (12 Table 12.3); in RESET and RETIRED
it answers only named registers. -/
def mgrReadable (s : State) : Bool :=
  let m := s.modes.mode
  m ≠ .hold && m ≠ .reset && m ≠ .retired && m ≠ .drowse

/-! ### Cells (R232) -/

/-- The modes in which the key-store island runs; in DROWSE it runs for a refresh pass only (12 R342). -/
def storeRuns (m : Mode) : Bool :=
  m = .selftest || m = .sealed || pairs m || m = .maintenance || m = .factory

/-- MASK_REFRESH: every mask is replaced; the material is unchanged. -/
def execMaskRefresh (s : State) : Outcome :=
  if !storeRuns s.modes.mode then .next s
  else .next { s with keys := { s.keys with refreshes := s.keys.refreshes + 1 } }

end Sys2Proof.Machine
end

