-- ==== Sys2Proof/Machine/Logbook.lean ====
section
/-! DEFINITION. The logbook's registers and CHECKPOINT (15 R424, R425), and how an access command ends (15 R430). -/

namespace Sys2Proof.Machine

/-- The log entry of an access command (15 Table 15.5). -/
def logAccess (cmd : Nat) (st : Status) (s : State) : State := logPlain 0x0080 cmd st.toNat s.ao.chalNo s

/-- An access command ends. -/
def acEnd (st : Status) (s : State) : State := { s with access := { s.access with run := none, result := st, input := [], salt := none } }

/-- A command ends with its entry. -/
def acFinish (cmd : Nat) (st : Status) (s : State) : State := logAccess cmd st (acEnd st s)

/-- A 64-bit write of LB_SEL: it loads LB_ENTRY, or sets MISS (R425). -/
def lbSelSet (value : Word) (s : State) : State :=
  match s.log.entries.find? fun p => p.1 = value.toNat with
  | some p => { s with log := { s.log with sel := value, entry := p.2 } }
  | none => { s with log := { s.log with sel := value, entry := zeroBytes 64, miss := true } }

/-- LB_SEL_WRITE. -/
def execLbSelWrite (src : Source) (value : Word) (s : State) : Outcome := .next (mgrWrite src 0x07018 value (lbSelSet value) s)

/-- A 64-bit write of LB_ACK (R424). -/
def lbAckSet (value : Word) (s : State) : State := { s with log := { s.log with ack := value } }

/-- LB_ACK_WRITE. -/
def execLbAckWrite (src : Source) (value : Word) (s : State) : Outcome := .next (mgrWrite src 0x07010 value (lbAckSet value) s)

/-- Whether an operation under the IDK is a checkpoint's. -/
def isCheckpoint : IdkJob → Bool
  | .checkpoint _ => true
  | _ => false

/-- LB_STATUS.BUSY: a checkpoint waits for its per-signature value or for a shielded core. -/
def checkpointBusy (s : State) : Bool := (s.rng.waiting.any fun r => r.who = .checkpoint) || s.units.idk.any isCheckpoint

/-- The 128-byte statement a checkpoint signs (R425). -/
def checkpointMessage (s : State) : Bytes :=
  ascii "T7CP" ++ zeroBytes 4 ++ idkHash s ++ toLe 8 s.log.head ++ fit 16 s.log.chain ++ toLe 8 (now s) ++ toLe 4 s.vault.epoch ++
  zeroBytes 36

/-- RESULT of a checkpoint. -/
def checkpointEnd (st : Status) (s : State) : State := { s with log := { s.log with result := st } }

/-- The checkpoint signed with its per-signature value: LB_SIG, event 0xEF, and the CHECKPOINT entry. -/
def checkpointSigned (drawn : Bytes) (s : State) : State :=
  let seq := s.log.head
  let sig := idkSign s drawn (checkpointMessage s)
  raiseLog 0xEF 0x0090 seq 0 0 (checkpointEnd 0 { s with log := { s.log with sig := sig } })

/-- The checkpoint has its per-signature value. -/
def checkpointReady (drawn : Bytes) (s : State) : State := underIdk (.checkpoint drawn) (checkpointSigned drawn) s

/-- The modes that permit CHECKPOINT. -/
def checkpointMode (m : Mode) : Bool := m = .sealed || pairs m

/-- CHECKPOINT (R425). -/
def checkpointStart (s : State) : State :=
  if !checkpointMode s.modes.mode then checkpointEnd stModeDenied s
  else match askRandom .checkpoint (scalarBytes p384) false s with
    | .error st => checkpointEnd st s
    | .ok (some d, u) => checkpointReady d u
    | .ok (none, u) => u

/-- A 64-bit write of LB_CMD: CMD is a KEY field that reads 0. A value other than CHECKPOINT starts nothing, and neither does a command
written while one is in progress. -/
def lbCmdWrite (src : Source) (value : Word) (s : State) : State :=
  guarded src 0x07028 (bits 0 8 value ≠ 0) id
    (fun s => if bits 0 8 value = 1 && !checkpointBusy s then checkpointStart s else s) s

/-- CHECKPOINT. -/
def execCheckpoint (src : Source) (s : State) : Outcome := .next (mgrWrite src 0x07028 1 (lbCmdWrite src 1) s)

end Sys2Proof.Machine
end

