-- ==== Sys2Proof/Machine/Twins.lean ====
section
/-! DEFINITION. Twins: pairing, frames, sync, continuity records and partner loss (11). -/

namespace Sys2Proof.Machine

/-! ### Ports and configuration -/

/-- Whether DUP asks for a second link path. -/
def dupLinks (s : State) : Bool := s.twin.dup.getLsbD 1

/-- Whether DUP asks for two power feeds. -/
def dupFeeds (s : State) : Bool := s.twin.dup.getLsbD 0

/-- AUX_IS_LINK: the AUX pair serves as port B (R305). -/
def auxIsLink (s : State) : Bool := dupLinks s && pairs s.modes.mode

/-- PORT_B_UP. -/
def portBUp (s : State) : Bool := auxIsLink s && s.twin.upB

/-- Whether a port that carries the link is up. -/
def linkUp (s : State) : Bool := s.twin.upA || portBUp s

/-- PERIOD as it acts (Table 11.1). -/
def linkPeriod (s : State) : Nat := min 10000 (max 10 s.twin.period.toNat)

/-- MISS_LIMIT × PERIOD. -/
def silenceLimit (s : State) : Nat := max 2 s.twin.missLimit.toNat * linkPeriod s

/-- Whether an attempt or a session is under way. -/
def linked (s : State) : Bool := s.twin.link = .handshake || s.twin.link = .sync || s.twin.link = .paired

/-- The session changed. -/
def modSession (g : Session → Session) (s : State) : State := { s with twin := { s.twin with session := g s.twin.session } }

/-! ### Frames (R307, R308) -/

/-- Bytes 0x00 to 0x17 of a frame. -/
def frameHead (type flags len seq ack : Nat) : Bytes :=
  [1] ++ toLe 1 type ++ toLe 1 flags ++ [0] ++ toLe 2 len ++ zeroBytes 2 ++ toLe 8 seq ++ toLe 8 ack

/-- The frame key of a direction. -/
def frameKey (keys : Bytes) (high : Bool) : Bytes := if high then slice 32 32 keys else keys.take 32

/-- The nonce of a frame. -/
def frameNonce (high : Bool) (seq : Nat) : Bytes := [if high then 1 else 0, 0, 0, 0] ++ toBe 8 seq

/-- A sealed frame. -/
def sealFrame (keys : Bytes) (high : Bool) (type flags seq ack : Nat) (payload : Bytes) : Bytes :=
  let h := frameHead type flags payload.length seq ack
  let c := gcmEnc (aesEnc (frameKey keys high)) (frameNonce high seq) h payload
  h ++ c.1 ++ c.2

/-- Present a frame at the ports that carry the link. -/
def present (frame : Bytes) (s : State) : State := { s with twin := { s.twin with lastSent := frame } }

/-- What a sent frame stands for: the end of a record, or of the senior's sync part. -/
def noteSent (type flags seq : Nat) (payload : Bytes) (x : Session) (senior : Bool) : Session :=
  if flags % 2 = 0 then x
  else if type = 3 then { x with recordSeqs := x.recordSeqs ++ [(seq, field 0 8 payload)] }
  else if type = 4 && senior then { x with lastSync := some seq }
  else x

/-- Send one frame: sealed under the keys of the session and kept until it is acknowledged, or queued while 256 are kept. -/
def sendFrame (type flags : Nat) (payload : Bytes) (s : State) : State :=
  let x := s.twin.session
  match x.keys with
  | none => s
  | some keys =>
    if 256 ≤ x.unacked.length then modSession (fun x => { x with toSend := x.toSend ++ [(type, flags, payload)] }) s
    else
      let seq := x.sendSeq + 1
      let frame := sealFrame keys (!x.lower) type (flags + flagAt 1 x.gap) seq x.recvSeq payload
      let senior := s.twin.role = .senior
      present frame (modSession (fun x => noteSent type flags seq payload
        { x with sendSeq := seq, gap := false, unacked := x.unacked ++ [(seq, frame)] } senior) s)

/-- Send what waited for an acknowledgement. -/
def flushFrames (s : State) : State :=
  let waiting := s.twin.session.toSend
  waiting.foldl (fun t w => sendFrame w.1 w.2.1 w.2.2 t) (modSession (fun x => { x with toSend := [] }) s)

/-- A frame rejected: counted, with event 0xC8 (R308, 14 R400). -/
def rejectFrame (s : State) : State := raise 0xC8 { s with twin := { s.twin with rejected := satInc s.twin.rejected } }

/-- Whether a frame has the shape of Table 11.4. -/
def frameOk (b : Bytes) : Bool :=
  b.length ≤ 4136 && 0x28 ≤ b.length && b.length = 0x28 + field 4 2 b && byteAt 0 b = 1 &&
  1 ≤ byteAt 1 b && byteAt 1 b ≤ 5 && byteAt 2 b < 4 && byteAt 3 b = 0 && field 6 2 b = 0

/-- Whether a frame can arrive at a port now: the port is up, in a mode in which the M-link pairs. -/
def portHears (port : Bool) (s : State) : Bool := pairs s.modes.mode && (if port then portBUp s else s.twin.upA)

/-! ### Partner loss (R317 to R319) -/

/-- The session gone: SOLO, and WAIT or OFF; a key generation no longer waits for random bytes. -/
def endSession (s : State) : State :=
  { s with rng := { s.rng with waiting := s.rng.waiting.filter fun r => r.who ≠ .ephemeral }, twin := { s.twin with
      role := .solo, link := if s.twin.enable then .wait else .off, session := Session.reset, changes := [], slotRecord := [],
      tx := 0, commit := 0, applied := 0, rx := 0, retryAt := none } }

/-- A TWIN entry of the logbook (15 Table 15.5). -/
def logTwin (event value extra : Nat) (s : State) : State := raiseLog event 0x0050 s.twin.peerMember value extra s

/-- The partner declared lost (R317); on a junior in sync by silence or a NOTICE the cause is 0x3 (R311). -/
def losePartner (cause : Nat) (s : State) : State :=
  let cause := if s.twin.link = .sync && s.twin.role = .junior && cause ≠ 4 then 3 else cause
  let s := endSession { s with twin := { s.twin with lossCause := cause, losses := satInc s.twin.losses } }
  logTwin 0xC1 cause 0 s

/-- A NOTICE sent, and this core SOLO (R319); a core with no session only leaves its attempt. -/
def leaveWithNotice (cause : Nat) (s : State) : State :=
  if linked s then endSession (if linkUp s then sendFrame 5 0 (toLe 1 cause ++ zeroBytes 7) s else s) else s

/-! ### Pairing (R309, R310) -/

/-- An attempt refused. -/
def refusePairing (code : Nat) (s : State) : State :=
  let s := endSession s
  logTwin 0xC3 code 0 { s with twin := { s.twin with refuse := code, retryAt := some (now s + 10000) } }

/-- The key generation of an attempt gets no random bytes: another attempt follows 10 ms later, as after a refusal (log 97). -/
def failAttempt (s : State) : State :=
  let s := endSession s
  { s with twin := { s.twin with retryAt := some (now s + 10000) } }

/-- An attempt begins with the generation of an ephemeral key, whose random bytes are asked for. -/
def beginAttempt (s : State) : State :=
  let s := endSession s
  let s := { s with twin := { s.twin with link := .handshake } }
  match askRandom .ephemeral (scalarBytes p384) false s with
  | .error _ => failAttempt s
  | .ok (some b, s) => modSession (fun x => { x with drawn := some b }) s
  | .ok (none, s) => s

/-- Step 1 of Table 11.5. -/
def startAttempt (s : State) : State := if (slotOf s 0x20).state = .active then beginAttempt s else refusePairing 1 s

/-- Whether this core can start an attempt. -/
def mayPair (s : State) : Bool := s.twin.link = .wait && linkUp s && s.twin.zs.isSome && pairs s.modes.mode

/-- PAIRING_START. -/
def execPairingStart (s : State) : Outcome := if mayPair s && s.twin.retryAt.isNone then .next (startAttempt s) else .next s

/-- HELLO_RETRY: 10 ms after a refusal a fresh attempt begins. -/
def execHelloRetry (s : State) : Outcome :=
  match s.twin.retryAt with
  | some t =>
    if now s < t then .next s
    else if mayPair s then .next (startAttempt s)
    else .next { s with twin := { s.twin with retryAt := none } }
  | none => .next s

/-- The HELLO payload of this core (Table 11.7). -/
def helloPayload (s : State) (eph : Nat) : Bytes :=
  toLe 1 (configCode s) ++ toLe 1 (b2n s.twin.pref) ++ toLe 2 s.vault.member ++ toLe 1 (modeCode s.modes.mode) ++ zeroBytes 3 ++
  idkHash s ++ ecPublic p384 eph ++ toLe 4 s.vault.epoch ++ toLe 4 (if s.twin.runSince = 0 then 0 else (now s - s.twin.runSince) / 1000)

/-- A HELLO frame. -/
def helloFrame (payload : Bytes) : Bytes := frameHead 1 0 160 0 0 ++ payload ++ zeroBytes 16

/-- The ephemeral key pair, and the HELLO that carries its public part. -/
def ephemeralReady (drawn : Bytes) (s : State) : State :=
  let eph := scalarFrom p384.n drawn
  let p := helloPayload s eph
  present (helloFrame p) (modSession (fun x => { x with drawn := none, eph := some eph, hello := some p, helloAt := now s }) s)

/-- EPHEMERAL_KEYGEN_COMPLETE: a shielded core has generated the key, and the HELLO goes; until its random bytes come the KEYGEN goes on. -/
def execEphemeralKeygenComplete (s : State) : Outcome :=
  match s.twin.session.drawn with
  | some b => if s.twin.link ≠ .handshake || s.twin.session.hello.isSome then .next s else .next (onShielded (ephemeralReady b) id s)
  | none => .next s

/-- The first failed check of a partner's HELLO (Table 11.6, step 3). -/
def helloCheck (s : State) (version : Nat) (p : Bytes) : Option Nat :=
  if s.twin.zs.isNone || slice 8 48 p ≠ s.twin.peerHash then some 2
  else if field 2 2 p = s.vault.member then some 3
  else if byteAt 0 p ≠ configCode s then some 4
  else if version ≠ 1 || !(5 ≤ byteAt 4 p && byteAt 4 p ≤ 7) then some 5
  else none

/-- Whether a frame has the shape of a HELLO, its VERSION apart. -/
def helloShape (b : Bytes) : Bool :=
  b.length = 200 && byteAt 1 b = 1 && byteAt 2 b < 4 && byteAt 3 b = 0 && field 4 2 b = 160 && field 6 2 b = 0 &&
  field 8 8 b = 0 && allZero (b.drop 184)

/-- HELLO (R309 step 3). -/
def execHello (port : Bool) (frame : Bytes) (bad : Bool) (s : State) : Outcome :=
  let p := slice 0x18 160 frame
  if !portHears port s then .next s
  else if bad || !helloShape frame then .next (rejectFrame s)
  else if s.twin.link ≠ .handshake || s.twin.session.peerHello.isSome then .next s
  else match helloCheck s (byteAt 0 frame) p with
    | some code => .next (refusePairing code s)
    | none => .next (modSession (fun x => { x with peerHello := some p, lower := s.vault.member < field 2 2 p }) s)

/-- The senior's member index by R310, from the HELLO of this core and the other. -/
def seniorMember (own peer : Bytes) : Nat :=
  let a := field 2 2 own
  let b := field 2 2 peer
  let ra := field 0x9C 4 own
  let rb := field 0x9C 4 peer
  if byteAt 1 own = 1 && byteAt 1 peer ≠ 1 then a
  else if byteAt 1 peer = 1 && byteAt 1 own ≠ 1 then b
  else if rb < ra then a
  else if ra < rb then b
  else min a b

/-- The 64-byte CONFIRM payload. -/
def confirmPayload (transcript own peer : Bytes) : Bytes := transcript ++ toLe 2 (seniorMember own peer) ++ zeroBytes 14

/-- The frame keys of both directions. -/
def linkKeys (fleet zs ze transcript : Bytes) : Bytes := kdfCounter fleet (ascii "TX7 LINK") (sha384 (zs ++ ze ++ transcript)) 64

/-- R309 step 4. A partner's ephemeral key that is no point yields no frame keys. -/
def linkEcdh (s : State) : State :=
  let x := s.twin.session
  match s.twin.link, x.eph, x.hello, x.peerHello, s.twin.zs with
  | .handshake, some eph, some own, some peer, some zs =>
    match ecdh p384 eph (slice 0x38 96 peer) with
    | none => modSession (fun x => { x with eph := none }) s
    | some ze =>
      let transcript := sha384 (if x.lower then own ++ peer else peer ++ own)
      let keys := linkKeys (groupMaterial s 0x20) zs ze transcript
      let s := modSession (fun x => { x with eph := none, transcript := transcript, keys := some keys }) s
      sendFrame 2 0 (confirmPayload transcript own peer) s
  | _, _, _, _, _ => s

/-- LINK_ECDH_COMPLETE: on a shielded core (Table 11.5). -/
def execLinkEcdhComplete (s : State) : Outcome := .next (onShielded linkEcdh id s)

/-- CONFIRM_TIMEOUT (Table 11.6 0x6): 10 ms after the HELLO. -/
def execConfirmTimeout (s : State) : Outcome :=
  if s.twin.link = .handshake && s.twin.session.hello.isSome && s.twin.session.helloAt + 10000 ≤ now s then .next (refusePairing 6 s)
  else .next s

/-! ### Receiving sealed frames (R308) -/

/-- The effect of an acknowledgement: frames dropped, ML_PEER_APPLIED moved, a senior's sync ended, waiting frames sent. -/
def takeAck (ack : Nat) (s : State) : State :=
  let x := s.twin.session
  let done := x.recordSeqs.filter fun p => p.1 ≤ ack
  let s := { s with twin := { s.twin with applied := done.foldl (fun a p => max a p.2) s.twin.applied } }
  let s := modSession (fun x => { x with
    unacked := x.unacked.filter fun p => ack < p.1, recordSeqs := x.recordSeqs.filter fun p => ack < p.1 }) s
  let s := if s.twin.link = .sync && s.twin.role = .senior && x.lastSync.any (fun q => q ≤ ack)
    then raise 0xC0 { s with twin := { s.twin with link := .paired, closedAt := now s } } else s
  flushFrames s

/-- Resend every frame not acknowledged; the last is the one last presented. -/
def resend (s : State) : State := s.twin.session.unacked.foldl (fun t p => present p.2 t) s

/-- A frame discarded for its SEQ: a gap is reported in the next frame sent. -/
def noteGap (s : State) : State := modSession (fun x => { x with gap := true }) s

/-- A frame accepted: SEQ, the time, its ACK and GAP. -/
def acceptFrame (b : Bytes) (s : State) : State :=
  let s := { s with twin := { s.twin with heardAt := now s } }
  let s := takeAck (field 0x10 8 b) (modSession (fun x => { x with recvSeq := field 8 8 b }) s)
  if byteAt 2 b / 2 % 2 = 1 then resend s else s

/-- A sealed frame as it arrives: discarded, rejected, or opened and in sequence, when `f` gets the state and the payload. -/
def withFrame (type : Nat) (port : Bool) (b : Bytes) (bad : Bool) (f : Bytes → State → State) (s : State) : State :=
  if !portHears port s then s
  else if bad || !frameOk b then rejectFrame s
  else if byteAt 1 b ≠ type then s
  else
    let x := s.twin.session
    match x.keys with
    | none => s
    | some keys =>
      let seq := field 8 8 b
      match gcmDec (aesEnc (frameKey keys x.lower)) (frameNonce x.lower seq) (b.take 0x18) (slice 0x18 (field 4 2 b) b)
          (b.drop (b.length - 16)) with
      | none => rejectFrame s
      | some p =>
        if seq ≤ x.recvSeq then s
        else if x.recvSeq + 1 < seq then noteGap s
        else f p s

/-! ### Records and entries (R311 to R316) -/

/-- The record header (Table 11.8). -/
def recordHead (s : State) (number base n : Nat) : Bytes :=
  toLe 8 number ++ toLe 8 base ++ toLe 4 s.vault.epoch ++ toLe 2 n ++ zeroBytes 2 ++ toLe 8 s.keys.updateNext

/-- Entries in groups that fit a payload, in order. -/
def packEntries (es : List Entry) : List (List Entry) :=
  es.foldl (fun gs e =>
    match gs.getLast? with
    | some g => if g.flatten.length + e.length ≤ 4064 then gs.dropLast ++ [g ++ [e]] else gs ++ [[e]]
    | none => [[e]]) []

/-- Send a record or a sync part in frames, LAST on the final one where asked; no entries make one frame. -/
def sendEntries (type number base : Nat) (last : Bool) (es : List Entry) (s : State) : State :=
  let gs := if es.isEmpty then [[]] else packEntries es
  (gs.zipIdx).foldl (fun t g =>
    sendFrame type (flagAt 0 (last && g.2 + 1 = gs.length)) (recordHead s number base g.1.length ++ g.1.flatten) t) s

/-- The entries of a frame payload after its header; fuel bounds them. -/
def entriesAux : Nat → Bytes → List Entry
  | 0, _ => []
  | n + 1, b =>
    let len := field 2 2 b
    if b.length < 16 || len < 16 || b.length < len then [] else b.take len :: entriesAux n (b.drop len)

/-- The entries of a frame payload. -/
def entriesOf (p : Bytes) : List Entry := entriesAux (field 0x14 2 p) (p.drop 32)

/-- The body of an IDENT entry. -/
def identBody (s : State) : Bytes := toLe 3 s.vault.epoch ++ [0] ++ toLe 2 s.vault.member ++ zeroBytes 2

/-- An entry of a sync part. -/
def syncEntry (s : State) (kind object : Nat) (body : Bytes) : Entry := entryHead s kind (16 + body.length) object ++ body

/-- A bitmap of n bytes: bit i set where the test holds. -/
def bitmap (n : Nat) (f : Nat → Bool) : Bytes :=
  (List.range n).map fun i => BitVec.ofNat 8 ((List.range 8).foldl (fun a j => a + flagAt j (f (8 * i + j))) 0)

/-- Whether bit i of a bitmap is set. -/
def inBitmap (b : Bytes) (i : Nat) : Bool := byteAt (i / 8) b / 2 ^ (i % 8) % 2 = 1

/-- The junior's part of sync: INVENTORY over every slot, and TENANTS (R311 step 1). -/
def juniorEntries (s : State) : List Entry :=
  ((List.range (ceilDiv (slotCount s) 16384)).map fun k =>
    syncEntry s 7 (16384 * k) (bitmap 2048 fun i => (slotOf s (16384 * k + i)).state ≠ .empty)) ++
  [syncEntry s 8 0 (bitmap 128 fun f => (tenantOf s f).state ≠ .free)]

/-- Whether the junior's inventory has an object set: a slot (kind 7) or a tenant (kind 8). -/
def juniorHas (inv : List Entry) (kind i : Nat) : Bool :=
  inv.any fun e => byteAt 0 e = kind && field 4 4 e ≤ i && inBitmap (e.drop 16) (i - field 4 4 e)

/-- The senior's part of sync (R311 step 2). -/
def seniorEntries (s : State) (inv : List Entry) : List Entry :=
  ((groupsIn s 0 (slotCount s)).map fun i => syncEntry s 1 i (slotEntryBody s 1 i)) ++
  (((List.range (slotCount s)).filter fun i => (slotOf s i).state = .empty && juniorHas inv 7 i).map fun i =>
    syncEntry s 1 i (slotEntryBody s 3 i)) ++
  ((liveTenants s).flatMap fun f => syncEntry s 2 f (carriedBytes f (tenantOf s f).sheet ++ fit 96 (tenantOf s f).ownerKey) ::
    (if secretOf s f = [] then [] else [syncEntry s 5 f (fit 48 (secretOf s f))])) ++
  (((List.range (tenantCount s)).filter fun f => (tenantOf s f).state = .free && juniorHas inv 8 f).map fun f => syncEntry s 4 f []) ++
  [syncEntry s 6 0 (identBody s)]

/-- The slots an entry's records cover. -/
def entrySlots (e : Entry) : List Nat := (List.range (byteAt 0x11 e % 32 + 1)).map (field 4 4 e + ·)

/-- The slot records of a SLOT entry. -/
def entryRecords (e : Entry) : List (Nat × Slot) := recordsOf ((e.length - 24) / 112) (e.drop 24)

/-- Whether a SLOT entry equals the receiver's content of its group. -/
def entrySame (s : State) (e : Entry) : Bool :=
  if byteAt 0x10 e = 3 then (entrySlots e).all fun i => (slotOf s i).state = .empty
  else (entryRecords e).all fun p => sameContent (slotOf s p.1) p.2

/-- The first slots of the groups that meet some slots and begin elsewhere. -/
def meeting (s : State) (first : Nat) (js : List Nat) : List Nat :=
  (groupsIn s 0 (slotCount s)).filter fun i => i ≠ first && (groupSlots s i).any js.contains

/-- A WRITE entry's records stored: USE_COUNT 0, each slot's own LOCAL_COUNT kept, what it overlaps or leaves over erased. -/
def storeRecords (first : Nat) (rs : List (Nat × Slot)) (s : State) : State :=
  let js := rs.map Prod.fst
  let s := (meeting s first js).foldl (fun t i => eraseGroup none i t) s
  let s := if groupAt s first then eraseGroup none first s else s
  withCompanion first (rs.foldl (fun t p => setSlot p.1 { p.2 with
    useCount := 0, localCount := (slotOf t p.1).localCount, gen := (slotOf t p.1).gen + 1 } t) s)

/-- A SLOT entry committed as a KUM of its OP would (R314): event 0x60, and a floor write where R240 asks one. -/
def commitEntry (e : Entry) (s : State) : State :=
  let i := field 4 4 e
  let dual := (slotOf s i).dual && (slotOf s i).state ≠ .empty
  let op := byteAt 0x10 e
  let t := match op with
    | 1 => storeRecords i (entryRecords e) s
    | 2 => match (entryRecords e).head? with
      | some p => mapGroup i (fun x => { x with
          usage := p.2.usage, derived := p.2.derived, useCap := p.2.useCap, writtenBy := p.2.writtenBy }) s
      | none => s
    | _ => if groupAt s i then eraseGroup none i s else s
  let t := raise 0x60 t
  if op = 3 || (op = 1 && dual) then floorWrite [] t else t

/-- Whether a SLOT entry conflicts with a local change of the session (R315). -/
def conflicts (s : State) (e : Entry) : Bool := (entrySlots e).any fun i => field 8 8 e < tableGet 0 s.twin.slotRecord i

/-- Whether an entry supersedes content a take has bound and no retention entry is free (08 R233). -/
def entryHeldUp (s : State) (e : Entry) : Bool :=
  byteAt 0 e = 1 && byteAt 0x10 e ≠ 2 && !entrySame s e && !retentionFree s &&
  (field 4 4 e :: meeting s (field 4 4 e) (entrySlots e)).any (needsRetention s)

/-- The senior's content after a conflicting entry: an AMEND changes some attributes only, so where this twin's own change has left
something else, the records the entry carries are stored whole (R315, log 99). -/
def seniorContent (e : Entry) (s : State) : State :=
  if byteAt 0x10 e = 2 && !entrySame s e then storeRecords (field 4 4 e) (entryRecords e) s else s

/-- A SLOT entry in a record (R314, R315). -/
def slotEntry (e : Entry) (s : State) : State :=
  if entrySame s e then s
  else if !conflicts s e then commitEntry e s
  else if s.twin.role = .senior then s
  else
    let s := seniorContent e (commitEntry e s)
    logTwin 0xC7 0 (field 4 4 e) { s with twin := { s.twin with conflicts := satInc s.twin.conflicts } }

/-- A TENANT_CREATE entry on a junior (R316). -/
def createEntry (f : Nat) (e : Entry) (s : State) : State :=
  let x := sheetOf (slice 0x10 128 e)
  let key := slice 0x90 96 e
  let t := tenantOf s f
  if t.state = .free then createTenant f .paused x key s
  else settlePins f (deriveSecret f key (setTenant f { replaceSheet (withLocal t.sheet x) t with ownerKey := key } s))

/-- A TENANT_REMOVE entry on a junior (R316): at once where the tenant is PAUSED, else when it becomes so. -/
def removeEntry (f : Nat) (s : State) : State :=
  match (tenantOf s f).state with
  | .free => s
  | .paused => floorWrite [] (removeTenant false f s)
  | _ => modTenant f (fun t => { t with removing := true }) (csPause f s)

/-- A tenant entry on a junior (R316). -/
def tenantEntry (e : Entry) (s : State) : State :=
  let f := field 4 4 e
  match byteAt 0 e with
  | 2 => createEntry f e s
  | 3 => if (tenantOf s f).state = .free then s
    else settlePins f (modTenant f (fun t => replaceSheet (withLocal t.sheet (sheetOf (slice 0x10 128 e))) t) s)
  | 4 => removeEntry f s
  | _ => if secretOf s f = [] then setSecret f (slice 0x10 48 e) s else s

/-- An IDENT entry (R314). -/
def identEntry (e : Entry) (s : State) : State :=
  let epoch := field 0x10 3 e
  let s := { s with twin := { s.twin with peerEpoch := epoch, peerMember := field 0x14 2 e % 512 } }
  if epoch = 0xFFFFFF then raise 0xC9 s else s

/-- Whether an entry is of a tenant. -/
def isTenantEntry (e : Entry) : Bool := 2 ≤ byteAt 0 e && byteAt 0 e ≤ 5 && field 4 4 e < 0x400

/-- An entry of a record applied (R314 to R316). -/
def recordEntry (s : State) (e : Entry) : State :=
  if byteAt 0 e = 1 then slotEntry e s
  else if isTenantEntry e && s.twin.role = .junior then tenantEntry e s
  else if byteAt 0 e = 6 then identEntry e s
  else s

/-- An object that sync changed on a junior (R312). -/
def syncChanged (object : Nat) (s : State) : State :=
  logTwin 0xC5 0 object { s with twin := { s.twin with replaced := satInc s.twin.replaced } }

/-- The slots whose content differs between two states. -/
def changedSlots (before s : State) : List Nat :=
  let old := before.keys.slots.map Prod.fst
  (old ++ (s.keys.slots.map Prod.fst).filter fun i => !old.contains i).filter fun i => !sameContent (slotOf before i) (slotOf s i)

/-- Each slot an entry of the sync has changed named and counted. -/
def noteSlots (before s : State) : State := (changedSlots before s).foldl (fun t i => syncChanged i t) s

/-- An entry of the senior's sync part applied on the junior, with no conflict test (R311, R312). -/
def syncedEntry (s : State) (e : Entry) : State :=
  let f := field 4 4 e
  if byteAt 0 e = 1 then (if entrySame s e then s else noteSlots s (commitEntry e s))
  else if isTenantEntry e then
    let t := noteSlots s (tenantEntry e s)
    if tenantOf t f = tenantOf s f then t else syncChanged f t
  else if byteAt 0 e = 6 then identEntry e s
  else s

/-- A received part kept until the record's last frame. -/
def keepParts (es : List Entry) (s : State) : State := modSession (fun x => { x with inParts := x.inParts ++ es }) s

/-- A whole record's effect, or nothing: held up, its last frame is not accepted and is asked for again (08 R233). -/
def wholeRecord (b p : Bytes) (apply : List Entry → State → State) (s : State) : State :=
  let es := s.twin.session.inParts ++ entriesOf p
  if es.any (entryHeldUp s) then noteGap { s with twin := { s.twin with heardAt := now s } }
  else apply es (modSession (fun x => { x with inParts := [] }) (acceptFrame b s))

/-- RECORD (R314). -/
def execRecord (port : Bool) (frame : Bytes) (bad : Bool) (s : State) : Outcome :=
  .next (withFrame 3 port frame bad (fun p s =>
    if byteAt 2 frame % 2 = 0 then keepParts (entriesOf p) (acceptFrame frame s)
    else wholeRecord frame p (fun es s =>
      if s.twin.link = .paired then
        let s := es.foldl recordEntry s
        { s with twin := { s.twin with rx := field 0 8 p } }
      else s) s) s)

/-- A junior's entries of a SYNC frame applied; LAST makes it PAIRED. -/
def juniorSync (last : Bool) (es : List Entry) (s : State) : State :=
  let s := es.foldl syncedEntry s
  if last && s.twin.link = .sync then raise 0xC0 { s with twin := { s.twin with link := .paired, closedAt := now s } } else s

/-- A senior's receipt of the junior's part: at LAST it sends its own. -/
def seniorSync (last : Bool) (es : List Entry) (s : State) : State :=
  let inv := s.twin.session.inventory ++ es
  let s := modSession (fun x => { x with inventory := inv }) s
  if last then sendEntries 4 0 0 true (seniorEntries s inv) s else s

/-- SYNC (R311). -/
def execSync (port : Bool) (frame : Bytes) (bad : Bool) (s : State) : Outcome :=
  let last := byteAt 2 frame % 2 = 1
  .next (withFrame 4 port frame bad (fun p s =>
    if s.twin.link = .sync && s.twin.role = .junior then wholeRecord frame p (juniorSync last) s
    else
      let s := acceptFrame frame s
      if s.twin.link = .sync then seniorSync last (entriesOf p) s else s) s)

/-- The roles fixed and sync begun (R309 step 5, R310, R311). -/
def beginSync (own peer : Bytes) (s : State) : State :=
  let senior := seniorMember own peer = field 2 2 own
  let s := { s with twin := { s.twin with
    role := if senior then .senior else .junior, link := .sync, peerMember := field 2 2 peer % 512, peerEpoch := field 0x98 3 peer,
    heardAt := now s, closedAt := now s, replaced := if senior then s.twin.replaced else 0 } }
  let s := raise 0xC4 s
  if senior then s else sendEntries 4 0 0 true (juniorEntries s) s

/-- CONFIRM_FRAME (R309 step 5). -/
def execConfirmFrame (port : Bool) (frame : Bytes) (bad : Bool) (s : State) : Outcome :=
  .next (withFrame 2 port frame bad (fun p s =>
    let x := s.twin.session
    let s' := acceptFrame frame s
    match s.twin.link, x.hello, x.peerHello with
    | .handshake, some own, some peer =>
      if now s ≤ x.helloAt + 10000 && p = confirmPayload x.transcript own peer then beginSync own peer s' else refusePairing 6 s'
    | _, _, _ => s') s)

/-- NOTICE (R317). -/
def execNotice (port : Bool) (frame : Bytes) (bad : Bool) (s : State) : Outcome :=
  .next (withFrame 5 port frame bad (fun _ s => losePartner 2 (acceptFrame frame s)) s)

/-- PARTNER_SILENCE (R317). -/
def execPartnerSilence (s : State) : Outcome :=
  if (s.twin.link = .sync || s.twin.link = .paired) && s.twin.heardAt + silenceLimit s ≤ now s then .next (losePartner 1 s)
  else .next s

/-- A record closed and sent (R313). -/
def closeRecord (s : State) : State :=
  let n := s.twin.tx + 1
  let es := s.twin.changes
  sendEntries 3 n s.twin.rx true es { s with twin := { s.twin with tx := n, changes := [], closedAt := now s } }

/-- RECORD_CLOSE (R313). Before PAIRED the frame that R308 asks for every PERIOD is a SYNC frame without entries, or in HANDSHAKE the HELLO
and the CONFIRM again. -/
def execRecordClose (s : State) : Outcome :=
  if now s < s.twin.closedAt + linkPeriod s then .next s
  else
    let again := { s with twin := { s.twin with closedAt := now s } }
    match s.twin.link with
    | .paired => .next (closeRecord s)
    | .sync => .next (sendEntries 4 0 0 false [] again)
    | .handshake => match s.twin.session.hello with
      | some p => .next (resend (present (helloFrame p) again))
      | none => .next s
    | _ => .next s

/-! ### Registers, ports and feeds -/

/-- The partner's member index while a session or an attempt knows it. -/
def partnerMember (s : State) : Option Nat :=
  match s.twin.link with
  | .sync | .paired => some s.twin.peerMember
  | .handshake => s.twin.session.peerHello.map fun p => field 2 2 p
  | _ => none

/-- Whether a write of MEMBER is waiting. -/
def memberPending (s : State) : Bool :=
  s.vault.queued.member.isSome || match s.vault.outstanding with
    | some r => (match r.why with | .writeRecord c => c.member.isSome | _ => false)
    | none => false

/-- A write of MEMBER (R303). -/
def memberWrite (m : Nat) (s : State) : State :=
  if m = s.vault.member && !memberPending s then s
  else if partnerMember s = some m then raise 0xCB s
  else vaultChange { VaultChange.none with member := some m } s

/-- Event 0xC2 where port B has come up or gone down between two states. -/
def noteB (before s : State) : State := if portBUp before = portBUp s then s else raise 0xC2 s

/-- A write of DUP (R305): with link paths, a console session ends and port B starts. -/
def dupWrite (d : BitVec 2) (s : State) : State :=
  let t := { s with twin := { s.twin with dup := d } }
  noteB s (if auxIsLink t && !auxIsLink s then { t with access := { t.access with diag := none } } else t)

/-- A write of ENABLE (R309, R319). -/
def enableWrite (on : Bool) (s : State) : State :=
  if on = s.twin.enable then s
  else if on then { s with twin := { s.twin with enable := true, link := .wait } }
  else endSession (let t := leaveWithNotice 1 s; { t with twin := { t.twin with enable := false } })

/-- TWIN_CFG as it reads. -/
def twinCfg (s : State) : Word :=
  BitVec.ofNat 64 (s.vault.member * 2 ^ 55 + s.twin.period.toNat * 2 ^ 32 + s.twin.missLimit.toNat * 2 ^ 24 + s.twin.dup.toNat * 2 ^ 4 +
    flagAt 2 s.twin.pref + flagAt 0 s.twin.enable)

/-- The bits of TWIN_CFG that are fields, all of them KEY. -/
def twinCfgMask : Word := 0xFF80FFFFFF000035

/-- A PERIOD written lower than the time since the last record closes a record at once (R313, 13 Table 13.1). -/
def closeOverdue (s : State) : State :=
  if s.twin.link = .paired && s.twin.closedAt + linkPeriod s < now s then closeRecord s else s

/-- TWIN_CFG written. -/
def twinCfgSet (value : Word) (s : State) : State :=
  let s := closeOverdue { s with twin := { s.twin with
    period := BitVec.ofNat 16 (bits 32 16 value), missLimit := BitVec.ofNat 8 (bits 24 8 value), pref := bit 2 value } }
  enableWrite (bit 0 value) (dupWrite (BitVec.ofNat 2 (bits 4 2 value)) (memberWrite (bits 55 9 value) s))

/-- A 64-bit write of TWIN_CFG. -/
def twinCfgWrite (src : Source) (value : Word) (s : State) : State :=
  guarded src 0x00040 (value &&& twinCfgMask ≠ twinCfg s) id (twinCfgSet value) s

/-- TWIN_CFG_WRITE. -/
def execTwinCfgWrite (src : Source) (value : Word) (s : State) : Outcome := .next (mgrWrite src 0x00040 value (twinCfgWrite src value) s)

/-- Z_s with the partner's key, where it is a point. -/
def staticSecret (s : State) : State :=
  { s with twin := { s.twin with zs := s.ao.idk.bind fun d => ecdh p384 d s.twin.peerKey } }

/-- The partner's key taken up (R304): its hash, and Z_s on a shielded core where it is a point. -/
def takePeerKey (s : State) : State :=
  let s := { s with twin := { s.twin with peerHash := sha384 s.twin.peerKey, zs := none } }
  if (pointOf p384 s.twin.peerKey).isSome then underIdk .peer staticSecret s else s

/-- ML_PEER_KEYi written; register 11 completes the key. A session under way is a partner loss. -/
def peerKeySet (i : Nat) (value : Word) (s : State) : State :=
  let s := { s with twin := { s.twin with peerKey := setWordAt i value s.twin.peerKey } }
  let s := if i = 11 then takePeerKey s else s
  if linked s then losePartner 4 s else s

/-- A 64-bit write of ML_PEER_KEYi. -/
def peerKeyWrite (src : Source) (i : Nat) (value : Word) (s : State) : State :=
  guarded src (BitVec.ofNat 20 (0x0A040 + 8 * i)) (wordAt i s.twin.peerKey ≠ value) id (peerKeySet i value) s

/-- ML_PEER_KEY_WRITE. -/
def execMlPeerKeyWrite (src : Source) (value : Word) (s : State) : Outcome :=
  .next (mgrWrite src 0x0A098 value (peerKeyWrite src 11 value) s)

/-- A member change has taken effect (R303, Table 11.11): event 0xCA; an attempt starts again, a session carries an IDENT entry. -/
def memberChanged (s : State) : State :=
  let s := raise 0xCA s
  if s.twin.link = .handshake then beginAttempt s
  else carry 6 0 (identBody s) [] s

/-- ML_PORT_UP_CHANGE (R305). -/
def execMlPortUpChange (port : Bool) (up : Bool) (s : State) : Outcome :=
  let t := { s with twin := if port then { s.twin with upB := up } else { s.twin with upA := up } }
  if !managementRuns s.modes.mode then .next t
  else if port then .next (noteB s t)
  else .next (if s.twin.upA = up then t else raise 0xC2 t)

/-- FEED_CHANGE (R306). -/
def execFeedChange (feedB : Bool) (level : FeedLevel) (s : State) : Outcome :=
  let old := if feedB then s.twin.feedB else s.twin.feedA
  let other := if feedB then s.twin.feedA else s.twin.feedB
  let t := { s with twin := if feedB then { s.twin with feedB := level } else { s.twin with feedA := level } }
  if !managementRuns s.modes.mode || !dupFeeds s then .next t
  else
    let t := if (old = .lost) = (level = .lost) then t else raise 0xC6 t
    .next (if other = .lost && old = .good && level ≠ .good then leaveWithNotice 3 t else t)

/-- What leaving OPERATIONAL, DEGRADED and CEREMONY does to the link: a NOTICE where the change is drained (R319), else silence. The mode
still is the old one; port B stops with the change. -/
def leavePairing (notice : Bool) (s : State) : State :=
  let s := if notice then leaveWithNotice 2 s else if linked s then endSession s else s
  if portBUp s then raise 0xC2 s else s

end Sys2Proof.Machine
end

