-- ==== Sys2Proof/Machine/Rng.lean ====
section
/-! DEFINITION. The RNG island (09): noise sources, health tests, conditioner, DRBG, the output buffer and its registers. -/

namespace Sys2Proof.Machine

/-! ### Sources (R254 to R259) -/

/-- A source. -/
def sourceOf (s : State) (i : Nat) : NoiseSource := s.rng.sources.getD i NoiseSource.reset

/-- The state with a source replaced. -/
def setSource (i : Nat) (x : NoiseSource) (s : State) : State := { s with rng := { s.rng with sources := s.rng.sources.set i x } }

/-- Whether a source is enabled. -/
def sourceOn (s : State) (i : Nat) : Bool := s.rng.enable.getLsbD i

/-- Whether a source is healthy: enabled and not FAILED (R259). -/
def sourceHealthy (s : State) (i : Nat) : Bool := sourceOn s i && (sourceOf s i).state ≠ .failed

/-- RNG_STATUS.HEALTHY. -/
def healthyCount (s : State) : Nat := ((List.range 16).filter (sourceHealthy s)).length

/-- Whether a source contributes. -/
def contributes (s : State) (i : Nat) : Bool := sourceOn s i && (sourceOf s i).state = .contrib

/-- The sources that contribute. -/
def contribCount (s : State) : Nat := ((List.range 16).filter (contributes s)).length

/-- The modes in which the RNG island runs (12 Table 12.3, 15 Table 15.3). -/
def rngRuns (m : Mode) : Bool := m = .selftest || m = .sealed || pairs m || m = .factory

/-- A source as it enters TRIM with a trim value. -/
def enterTrim (t : Nat) (trim : Nat) (x : NoiseSource) : NoiseSource :=
  { x with state := .trim, trim := trim, reason := 0, inBand := false, trimAt := t, trimFrom := t, windows := 0 }

/-- A source as it enters STARTUP: its windows begin afresh. -/
def enterStartup (t : Nat) (x : NoiseSource) : NoiseSource := { x with state := .startup, windowFrom := t, windows := 0, runLen := 0 }

/-! ### Requests and failure (R262, R265, R266) -/

/-- The bytes of a request have come. -/
def giveRandom (who : Asker) (b : Bytes) (s : State) : State :=
  match who with
  | .take id => gotRandom id b s
  | .package => match s.keys.run with
    | some (.packageDraw f) => packageReady f b s
    | _ => s
  | .checkpoint => checkpointReady b s
  | .password => if s.access.run = some .password then { s with access := { s.access with salt := some b } } else s
  | .ephemeral => modSession (fun x => { x with drawn := some b }) s

/-- A request ends with a status. -/
def refuseRandom (who : Asker) (st : Status) (s : State) : State :=
  match who with
  | .take id => lostRandom id st s
  | .package => match s.keys.run with
    | some (.packageDraw _) => kmEnd st 0 s
    | _ => s
  | .checkpoint => checkpointEnd st s
  | .password => if s.access.run = some .password then acFinish 1 st s else s
  | .ephemeral => failAttempt s

/-- Serve the requests that wait, in order, while the buffer holds all that the first asks for; one with prediction resistance waits
for its seed. -/
def serveList : Nat → State → State
  | 0, s => s
  | n + 1, s =>
    match s.rng.waiting with
    | [] => s
    | r :: rs =>
      if !rngServes s || r.pr || s.rng.buffer.length < r.bytes then s
      else
        let b := takeBuffer r.bytes { s with rng := { s.rng with waiting := rs } }
        serveList n (giveRandom r.who b.1 b.2)

/-- Serve what can be served. -/
def serveWaiting (s : State) : State := serveList s.rng.waiting.length s

/-- The RNG enters FAILED (R266). The entry's OBJECT names a source (15 Table 15.5), which a failure of the whole RNG does not have: it is free
(log 60). -/
def rngFail (cause : Nat) (s : State) : State :=
  if rngFailed s then s
  else
    let rs := s.rng.waiting
    let s := { s with rng := { s.rng with
      state := .failed, cause := cause, buffer := [], drbg := none, seed := none, bits := [], dueAt := none, waiting := [] } }
    let s := rs.foldl (fun s r => refuseRandom r.who stRngFailed s) s
    settleMode (raiseLog 0x42 0x0040 (leNat (fit 8 (Config.unstated s.free 8))) cause 0 (bumpFree s))

/-- FAILED follows a fall of HEALTHY below four. -/
def settleHealth (s : State) : State := if healthyCount s < 4 then rngFail 1 s else s

/-- A source fails (R258). -/
def sourceFail (i reason : Nat) (s : State) : State :=
  let x := sourceOf s i
  if x.state = .failed then s
  else settleHealth (raiseLog 0x40 0x0040 i reason 0 (setSource i { x with state := .failed, reason := reason, inBand := false } s))

/-! ### Start, restart (R265, R267) -/

/-- The island enters STARTING: every enabled source enters TRIM at 32, and the work in progress is discarded. -/
def rngStart (s : State) : State :=
  let s := { s with rng := { s.rng with
    sources := s.rng.sources.map (enterTrim (now s) 32), state := .starting, cause := 0, buffer := [], drbg := none, seed := none,
    bits := [], dueAt := none } }
  settleHealth s

/-- The modes in which RESTART is permitted. -/
def restartMode (m : Mode) : Bool := pairs m || m = .factory

/-- RESTART (R267). -/
def rngRestart (s : State) : State :=
  if restartMode s.modes.mode then settleMode (raise 0x44 (rngStart s)) else s

/-! ### The test pattern (R274) -/

/-- One step of the Fibonacci LFSR with taps 64, 63, 61 and 60: bit 64 leaves, and the feedback enters at bit 1. -/
def lfsrStep (w : Nat) : Nat :=
  (w * 2) % 2 ^ 64 + (w / 2 ^ 63 + w / 2 ^ 62 + w / 2 ^ 60 + w / 2 ^ 59) % 2

/-- So many steps. -/
def lfsrRun : Nat → Nat → Nat
  | 0, w => w
  | n + 1, w => lfsrRun n (lfsrStep w)

/-- The bits that leave in so many steps. -/
def lfsrBits : Nat → Nat → List Bool
  | 0, _ => []
  | n + 1, w => decide (2 ^ 63 ≤ w) :: lfsrBits n (lfsrStep w)

/-- The samples of a source under the test pattern, from sample a on. -/
def patternSamples (s : State) (i a n : Nat) : List Bool :=
  lfsrBits n (lfsrRun a (s.rng.patternSeed.rotateLeft (4 * i)).toNat)

/-- The first stage (R256) over raw samples: first-stage bits up to a number, with the samples used. -/
def firstStage (vn : Bool) : Nat → List Bool → List Bool × Nat
  | 0, _ => ([], 0)
  | n + 1, a :: b :: rest =>
    if vn && a = b then
      let r := firstStage vn (n + 1) rest
      (r.1, r.2 + 2)
    else
      let r := firstStage vn n rest
      ((if vn then a else xor a b) :: r.1, r.2 + 2)
  | _ + 1, _ => ([], 0)

/-- The present window of a source under the test pattern: its bytes and the µs it takes. -/
def patternWindow (s : State) (i : Nat) : Bytes × Nat :=
  let r := firstStage (s.rng.vonNeumann.getLsbD i) 1024 (patternSamples s i ((sourceOf s i).windowFrom - s.rng.patternAt) 16384)
  (bytesOfBits r.1, r.2)

/-- The ones among the last 1,024 samples of the present trim window under the test pattern. -/
def patternOnes (s : State) (i : Nat) : Nat :=
  let stop := (sourceOf s i).trimFrom + 1000 - s.rng.patternAt
  ((patternSamples s i (stop - 1024) (min stop 1024)).filter id).length

/-! ### Trim (R255, R259) -/

/-- The trim after a window. -/
def nextTrim (trim ones : Nat) : Nat := if 522 < ones then trim - 1 else if ones < 502 then trim + 1 else trim

/-- Whether a window is in band. -/
def bandOk (ones : Nat) : Bool := 481 ≤ ones && ones ≤ 543

/-- A source after a trim window: its tests resume with a fresh window once it is in band again. -/
def afterTrim (t ones : Nat) (x : NoiseSource) : NoiseSource :=
  let ok := bandOk ones
  let y := { x with trim := nextTrim x.trim ones, ones := ones, inBand := ok, trimFrom := x.trimFrom + 1000 }
  if x.state = .trim then (if ok then enterStartup t y else y)
  else if ok && !x.inBand then { y with windowFrom := t, runLen := 0 }
  else y

/-- TRIM_WINDOW_END (R255). -/
def execTrimWindowEnd (source : Fin 16) (ones : Nat) (s : State) : Outcome :=
  let x := sourceOf s source
  if !rngRuns s.modes.mode || !sourceHealthy s source || 1024 < ones || now s < x.trimFrom + 1000 then .next s
  else
    let y := afterTrim (now s) (if s.rng.pattern then patternOnes s source else ones) x
    let s := setSource source y s
    .next (if y.trim = 0 || 63 ≤ y.trim then sourceFail source 3 s else s)

/-- TRIM_TIMEOUT (R259). -/
def execTrimTimeout (source : Fin 16) (s : State) : Outcome :=
  let x := sourceOf s source
  if rngRuns s.modes.mode && sourceHealthy s source && x.state = .trim && x.trimAt + 40000 ≤ now s then .next (sourceFail source 4 s)
  else .next s

/-! ### Health tests (R257, R258) -/

/-- Whether the tests of a source run. -/
def testsRun (s : State) (i : Nat) : Bool :=
  let x := sourceOf s i
  rngRuns s.modes.mode && sourceHealthy s i && (x.state = .startup || x.state = .contrib) && x.inBand

/-- The repetition count over a source's next bits: the last bit, how many equal ones have come in succession, and whether there were 41. -/
def repetition (x : NoiseSource) (bs : List Bool) : Bool × Nat × Bool :=
  bs.foldl (fun a b =>
    let n := if b = a.1 then a.2.1 + 1 else 1
    (b, n, a.2.2 || decide (41 ≤ n))) (x.runBit, x.runLen, false)

/-- REPETITION_COUNT_FAILURE (R257). -/
def execRepetitionCountFailure (source : Fin 16) (s : State) : Outcome :=
  if testsRun s source && (!s.rng.pattern || (repetition (sourceOf s source) (bitsOfBytes (patternWindow s source).1)).2.2) then .next (sourceFail source 1 s)
  else .next s

/-- How often the first bit of a window occurs in it. -/
def recurrences (b : Bytes) : Nat :=
  let bs := bitsOfBytes b
  (bs.filter fun x => x = bs.headD false).length

/-- The bits of a window released to the conditioner; in XOR-pair mode bit k was produced 2k µs into it. -/
def releaseWindow (vn : Bool) (t : Nat) (b : Bytes) : List Released :=
  b.zipIdx.map fun p => { since := if vn then t else t + 16 * p.2, byte := p.1 }

/-- A window has ended: the source fails by either test, or its bits are discarded in STARTUP and released in CONTRIB. The repetition count, which
fails within the window, comes before the proportion, which fails with it. -/
def windowEnd (i : Nat) (b : Bytes) (next : Nat) (s : State) : State :=
  let x := sourceOf s i
  let r := repetition x (bitsOfBytes b)
  if r.2.2 then sourceFail i 1 s
  else if 793 ≤ recurrences b then sourceFail i 2 s
  else
    let s := setSource i { x with windowFrom := next, windows := x.windows + 1, runBit := r.1, runLen := r.2.1 } s
    if x.state = .contrib && !rngFailed s then
      { s with rng := { s.rng with bits := s.rng.bits ++ releaseWindow (s.rng.vonNeumann.getLsbD i) x.windowFrom b } }
    else s

/-- ADAPTIVE_PROPORTION_WINDOW_END (R257, R258). -/
def execAdaptiveProportionWindowEnd (source : Fin 16) (bits : Bytes) (s : State) : Outcome :=
  if !testsRun s source || bits.length ≠ 128 then .next s
  else if s.rng.pattern then
    let w := patternWindow s source
    let next := (sourceOf s source).windowFrom + w.2
    .next (if w.1.length = 128 && next ≤ now s then windowEnd source w.1 next s else s)
  else .next (windowEnd source bits (now s) s)

/-- STARTUP_COMPLETE (R259): four windows have passed. -/
def execStartupComplete (source : Fin 16) (s : State) : Outcome :=
  let x := sourceOf s source
  if testsRun s source && x.state = .startup && 4 ≤ x.windows then .next (setSource source { x with state := .contrib, windows := 0 } s)
  else .next s

/-! ### Seeds (R260, R261, R263, R270) -/

/-- The seed of 4,096 released bits: four CMACs of 1,024 bits. -/
def seedOf (s : State) (b : Bytes) : Bytes := (chunks 128 b).flatMap fun c => cmacKey 3 (s.chip.condKey.getD []) c

/-- Where its fuses are blank, FACTORY draws the conditioning key from the sources before the first seed (R260; which samples, and when, is
log 96). -/
def drawCondKey (s : State) : State :=
  if s.chip.condKey.isNone && s.modes.mode = .factory then
    bumpFree { s with chip := { s.chip with condKey := some (fit 32 (Config.rawSamples s.free 32)) } }
  else s

/-- FAIL_CAUSE of what a check found. -/
def rngCause : RngCheck → Nat
  | .passed => 0 | .drbgKat => 2 | .parity => 3 | .conditionerKat => 4

/-- Whether four sources have each released a full window (R265). -/
def fourRelease (s : State) : Bool := 4 ≤ ((List.range 16).filter fun i => contributes s i && 1 ≤ (sourceOf s i).windows).length

/-- The personalization string (R261). -/
def drbgPers (s : State) : Bytes := if s.ao.idk.isSome then idkHash s else []

/-- The first request of the queue where it asks for prediction resistance. -/
def headPr (s : State) : Option RandomReq := s.rng.waiting.head?.filter (·.pr)

/-- An instantiate or a reseed has been done. -/
def reseeded (kv : Bytes × Bytes) (s : State) : State :=
  { s with rng := { s.rng with
      drbg := some kv, reseeds := (s.rng.reseeds + 1) % 2 ^ 32, requests := 0, reseedAt := now s, dueAt := none,
      state := if s.rng.state = .stalled then .ready else s.rng.state } }

/-- A request with prediction resistance gets its bytes from the DRBG just reseeded. -/
def servePr (r : RandomReq) (s : State) : State :=
  match s.rng.drbg with
  | some kv =>
    let g := drbgGenerate kv [] r.bytes
    giveRandom r.who g.1 { s with rng := { s.rng with drbg := some g.2, requests := s.rng.requests + 1, waiting := s.rng.waiting.drop 1 } }
  | none => s

/-- A finished seed is used for the pending instantiate or reseed, or waits. -/
def useSeed (seed : Bytes) (pr : Option RandomReq) (s : State) : State :=
  if !fourRelease s then { s with rng := { s.rng with seed := some seed } }
  else match s.rng.drbg with
    | none =>
      if s.rng.state = .starting then reseeded (drbgInstantiate (seed.take 48) (seed.drop 48) (drbgPers s)) s
      else { s with rng := { s.rng with seed := some seed } }
    | some kv =>
      match pr with
      | some r => serveWaiting (servePr r (reseeded (drbgReseed kv seed []) s))
      | none =>
        if s.rng.dueAt.isSome then serveWaiting (reseeded (drbgReseed kv seed []) s)
        else { s with rng := { s.rng with seed := some seed } }

/-- SEED_READY (R260): 4,096 released bits are conditioned. While a request with prediction resistance is first in the queue, only bits
produced after its issue are taken for its seed. Without a conditioning key there is no seed. -/
def execSeedReady (found : RngCheck) (s : State) : Outcome :=
  let s := drawCondKey s
  if !rngRuns s.modes.mode || rngFailed s || contribCount s = 0 || s.chip.condKey.isNone then .next s
  else
    let fresh := match headPr s with
      | some r => s.rng.bits.filter fun b => r.asked ≤ b.since
      | none => []
    let pr := if 512 ≤ fresh.length then headPr s else none
    let bits := if 512 ≤ fresh.length then fresh else s.rng.bits
    if bits.length < 512 then .next s
    else if found ≠ .passed then .next (rngFail (rngCause found) s)
    else .next (useSeed (seedOf s ((bits.take 512).map (·.byte))) pr { s with rng := { s.rng with bits := bits.drop 512 } })

/-- DRBG_GENERATE (R261): 4,096 bytes into the output buffer; the buffer first filled ends STARTING (R265). What a check has found, at this or at
any other transfer (R263), fails the RNG whether or not the buffer has room (log 98). -/
def execDrbgGenerate (found : RngCheck) (s : State) : Outcome :=
  match s.rng.drbg with
  | none => .next s
  | some kv =>
    if !rngRuns s.modes.mode then .next s
    else if found ≠ .passed then .next (rngFail (rngCause found) s)
    else if 65536 < s.rng.buffer.length + 4096 then .next s
    else
      let g := drbgGenerate kv [] 4096
      let s := { s with rng := { s.rng with drbg := some g.2, requests := s.rng.requests + 1, buffer := s.rng.buffer ++ g.1 } }
      if s.rng.state = .starting && 65536 ≤ s.rng.buffer.length then
        .next (serveWaiting (raise 0x41 { s with rng := { s.rng with state := .ready } }))
      else .next (serveWaiting s)

/-! ### Reseeds and waits (R261, R264, R265) -/

/-- PERIOD as it acts, in µs. -/
def periodMicros (s : State) : Nat := 1000 * max 1 (min 1000 s.rng.period.toNat)

/-- A reseed falls due; fewer than four contributing sources raise 0x43. -/
def fallDue (s : State) : State :=
  let s := { s with rng := { s.rng with dueAt := some (now s) } }
  if contribCount s < 4 then raise 0x43 s else s

/-- Whether a reseed can fall due: the DRBG has been seeded and none is pending. -/
def mayFallDue (s : State) : Bool := s.rng.drbg.isSome && s.rng.dueAt.isNone && rngRuns s.modes.mode && s.rng.state ≠ .starting

/-- RESEED_DUE (R261). -/
def execReseedDue (s : State) : Outcome :=
  if mayFallDue s && (s.rng.reseedAt + periodMicros s ≤ now s || 2 ^ 20 ≤ s.rng.requests) then .next (fallDue s) else .next s

/-- RESEED_STALL (R264). -/
def execReseedStall (s : State) : Outcome :=
  match s.rng.dueAt with
  | some t =>
    if rngRuns s.modes.mode && s.rng.state = .ready && t + 100000 ≤ now s then .next { s with rng := { s.rng with state := .stalled } }
    else .next s
  | none => .next s

/-- RNG_REQUEST_TIMEOUT (R265). -/
def execRngRequestTimeout (who : Asker) (s : State) : Outcome :=
  if s.rng.waiting.any fun r => r.who = who && r.asked + 100000 ≤ now s then
    .next (serveWaiting (refuseRandom who stRngNotReady
      { s with rng := { s.rng with waiting := s.rng.waiting.filter fun r => r.who ≠ who } }))
  else .next s

/-! ### Registers (R273 to R275) -/

/-- The RESEED command: ignored unless READY or while a reseed is pending. -/
def rngReseedCmd (s : State) : State := if s.rng.state = .ready && s.rng.dueAt.isNone then fallDue s else s

/-- PATTERN written (R274). -/
def rngPatternSet (on : Bool) (s : State) : State :=
  if s.rng.pattern = on || s.modes.mode ≠ .factory then s
  else rngRestart { s with rng := { s.rng with pattern := on, patternAt := now s, patternSeed := s.rng.seedReg } }

/-- A 64-bit write of RNG_CTRL. -/
def rngCtrlWrite (src : Source) (value : Word) (s : State) : State :=
  guarded src 0x05000 (bit 2 value ≠ s.rng.pattern || bit 1 value)
    (fun s => if bit 0 value then rngReseedCmd s else s)
    (fun s =>
      let s := rngPatternSet (bit 2 value) s
      if bit 1 value then rngRestart s else s) s

/-- The value of RNG_CTRL that leaves PATTERN as it is and writes one other bit. -/
def rngCtrlValue (s : State) (i : Nat) : Word := BitVec.ofNat 64 (flagAt 2 s.rng.pattern + 2 ^ i)

/-- RESTART. -/
def execRestart (src : Source) (s : State) : Outcome :=
  .next (mgrWrite src 0x05000 (rngCtrlValue s 1) (rngCtrlWrite src (rngCtrlValue s 1)) s)

/-- RESEED. -/
def execReseed (src : Source) (s : State) : Outcome :=
  .next (mgrWrite src 0x05000 (rngCtrlValue s 0) (rngCtrlWrite src (rngCtrlValue s 0)) s)

/-- PATTERN. -/
def execPattern (src : Source) (on : Bool) (s : State) : Outcome :=
  .next (mgrWrite src 0x05000 (BitVec.ofNat 64 (flagAt 2 on)) (rngCtrlWrite src (BitVec.ofNat 64 (flagAt 2 on))) s)

/-- What a write of RNG_SRC_CFG does to one source (Table 9.6). -/
def cfgSource (t : Nat) (wasOn on flipped : Bool) (x : NoiseSource) : NoiseSource :=
  if x.state = .failed then x
  else if !on then { x with state := .trim, inBand := false, windows := 0 }
  else if !wasOn then enterTrim t x.trim x
  else if flipped && x.state ≠ .trim then enterStartup t x
  else x

/-- RNG_SRC_CFG written: its fields take effect source by source (Table 9.6). -/
def rngCfgSet (value : Word) (s : State) : State :=
  let en := BitVec.ofNat 16 value.toNat
  let vn := BitVec.ofNat 16 (value.toNat / 2 ^ 16)
  let xs := s.rng.sources.zipIdx.map fun p =>
    cfgSource (now s) (s.rng.enable.getLsbD p.2) (en.getLsbD p.2) (s.rng.vonNeumann.getLsbD p.2 != vn.getLsbD p.2) p.1
  let s := { s with rng := { s.rng with enable := en, vonNeumann := vn, sources := xs } }
  if rngRuns s.modes.mode then settleHealth s else s

/-- RNG_SRC_CFG as it reads. -/
def rngCfgValue (s : State) : Nat := s.rng.enable.toNat + s.rng.vonNeumann.toNat * 2 ^ 16

/-- A 64-bit write of RNG_SRC_CFG. -/
def rngCfgWrite (src : Source) (value : Word) (s : State) : State :=
  guarded src 0x05010 (bits 0 32 value ≠ rngCfgValue s) id (rngCfgSet value) s

/-- RNG_SRC_CFG_WRITE. -/
def execRngSrcCfgWrite (src : Source) (value : Word) (s : State) : Outcome :=
  .next (mgrWrite src 0x05010 value (rngCfgWrite src value) s)

/-- PERIOD written: below the time since the last reseed, the reseed falls due at once. -/
def rngPeriodSet (value : Word) (s : State) : State :=
  let s := { s with rng := { s.rng with period := BitVec.ofNat 16 value.toNat } }
  if mayFallDue s && s.rng.reseedAt + periodMicros s < now s then fallDue s else s

/-- A 64-bit write of RNG_RESEED. -/
def rngReseedReg (src : Source) (value : Word) (s : State) : State :=
  guarded src 0x05018 (bits 0 16 value ≠ s.rng.period.toNat) id (rngPeriodSet value) s

/-- RNG_RESEED_WRITE. -/
def execRngReseedWrite (src : Source) (value : Word) (s : State) : Outcome :=
  .next (mgrWrite src 0x05018 value (rngReseedReg src value) s)

/-! ### DROWSE (R268) and a strike (Table 9.6) -/

/-- The island stops in DROWSE: its sources lose their windows, everything else is kept. -/
def rngSleep (s : State) : State := { s with rng := { s.rng with bits := [], stoppedAt := some (now s) } }

/-- The island wakes: sources re-enter TRIM with their trims, and the time asleep counts for nothing. -/
def rngWake (s : State) : State :=
  let gone := now s - s.rng.stoppedAt.getD (now s)
  { s with rng := { s.rng with
      sources := s.rng.sources.map (fun x => if x.state = .failed then x else enterTrim (now s) x.trim x),
      reseedAt := s.rng.reseedAt + gone, dueAt := s.rng.dueAt.map (· + gone), stoppedAt := none } }

/-- The island's working state is cleared; its registers keep their values. -/
def rngClear (s : State) : State :=
  { s with rng := { s.rng with
      sources := s.rng.sources.map (fun _ => NoiseSource.reset), state := .starting, cause := 0, buffer := [], drbg := none, seed := none,
      bits := [], reseeds := 0, requests := 0, reseedAt := 0, dueAt := none, waiting := [], stoppedAt := none, pattern := false } }

end Sys2Proof.Machine
end

