-- ==== Sys2Proof/Machine/Strike.lean ====
section
/-! DEFINITION. The strike (15 R416 to R419), and the tamper records made in HOLD (12 R344). -/

namespace Sys2Proof.Machine

/-- A 16-bit always-on counter, saturating. -/
def sat16 (n : Nat) : Nat := min 0xFFFF (n + 1)

/-- Steps 1, 2 and 5 of 15 Table 15.3: the flag, the cause, the DRK and IDK, STRIKE_OUT, and what the zero checks found. -/
def strikeLatch (cause : BitVec 8) (zeroOk : Bool) (s : State) : State :=
  { s with ao := { s.ao with
      strikeFlag := true, lastCause := cause, strikes := sat16 s.ao.strikes, verified := zeroOk, drk := none, idk := none,
      strikeOut := some s.ao.time } }

/-- A request as a strike leaves it: its answer is discarded (R417). -/
def dropRequest (r : Request) : Request := { r with purpose := .dropped }

/-- A port as a strike leaves it. -/
def dropPort (p : Port) : Port := { p with reads := p.reads.map dropRequest, writes := p.writes.map dropRequest }

/-- A command in progress at the KUM mailbox, CALLSHEET, MIGRATION, the logbook, firmware or access block ends with STRUCK (R417). -/
def strikeCommands (s : State) : State :=
  let s := if s.keys.run.isSome then kmEnd stStruck 0 s else s
  let s := if s.sheets.busy then csEnd stStruck 0 s else s
  let s := if s.sheets.closing.isSome then { s with sheets := { s.sheets with migResult := stStruck } } else s
  let s := if checkpointBusy s then checkpointEnd stStruck s else s
  let s := if s.fw.run.isSome then { s with fw := { s.fw with run := none, result := stStruck } } else s
  if s.access.run.isSome then { s with access := { s.access with run := none, result := stStruck, input := [] } } else s

/-- Steps 3 and 4 of 15 Table 15.3: everything that is cleared, with the takes, contexts and tenants that end (R417). -/
def strikeClear (s : State) : State :=
  let k := s.keys
  rngClear { s with
    keys := { k with slots := [], retained := [], secrets := [], migrate := [], imports := [], importedSheet := none, tagKey := none, idkBlind := none,
                     input := [], output := [], outLen := 0, run := none },
    sheets := { s.sheets with busy := false, closing := none, closedMarks := [] },
    tenants := [], reels := [], dailies := [], slates := [], takes := [],
    units := { s.units with regs := [], owners := [], pins := [], jobs := [], idk := [] },
    fabric := { s.fabric with port0 := dropPort s.fabric.port0, port1 := dropPort s.fabric.port1, held := [] },
    events := { s.events with started := [] },
    direct := Direct.reset,
    twin := { s.twin with zs := none },
    access := { s.access with challenge := none, attempts := 0 } }

/-- The islands that stay in STRUCK and RETIRED: always-on, management and scheduler (12 Table 12.3). -/
def quietIslands (s : State) : State :=
  { s with gaffer := { s.gaffer with islands := (List.range 3).map fun i => (i, { islandAt s i with state := .running, queued := false }) } }

/-- RESULT of the MODE_REQ that a strike meets: its own request succeeds, another ends with STRUCK. -/
def strikeRequest (own : Bool) (s : State) : State :=
  let m := s.modes
  { s with modes := { m with
      result := if own then 0 else if m.busy then stStruck else m.result, busy := false, pending := none, armed := none,
      guardHeld := false, readsStopped := false, resetDue := false, items := [], authenticated := false } }

/-- The strike, to STRUCK or RETIRED: events 0x20 and 0x10, the MODE and STRIKE entries (15 Table 15.3). -/
def strike (cause : BitVec 8) (zeroOk own : Bool) (final : Mode) (s : State) : State :=
  let s := strikeCommands (strikeLatch cause zeroOk s)
  let s := strikeClear (leavePairing false s)
  let s := changeMode final 0 (strikeRequest own (quietIslands s))
  raiseLog 0x10 0x0011 cause.toNat s.ao.strikes (b2n zeroOk) s

/-- A record made in HOLD; the island keeps 16 (12 R344). -/
def holdRecord (event : BitVec 8) (object value : Word) (s : State) : State :=
  if s.ao.holdRecords.length < 16 then
    { s with ao := { s.ao with holdRecords := s.ao.holdRecords ++ [{ event := event, object := object, value := value }] } }
  else s

/-- A strike in HOLD (12 R344): the keys are cleared and the flag is set; the next start ends in STRUCK. -/
def strikeInHold (cause : BitVec 8) (s : State) : State :=
  let s := strikeLatch cause false s
  holdRecord 0x10 (BitVec.ofNat 64 cause.toNat) (BitVec.ofNat 64 s.ao.strikes) s

/-- A tamper entry and its event (15 R413); in HOLD a record. -/
def tamperNote (event : Nat) (object value : Word) (samples : Nat) (s : State) : State :=
  if s.modes.mode = .hold then holdRecord (BitVec.ofNat 8 event) object value s
  else raiseLog event 0x0010 object.toNat value.toNat samples s

/-- A STRIKE response (15 R415). -/
def strikeResponse (event : Nat) (object value : Word) (samples : Nat) (zeroOk : Bool) (s : State) : State :=
  let s := tamperNote event object value samples s
  match s.modes.mode with
  | .struck | .retired => s
  | .hold => strikeInHold (BitVec.ofNat 8 event) s
  | _ => strike (BitVec.ofNat 8 event) zeroOk false .struck s

/-- A WARN response (15 R413). -/
def warnResponse (event : Nat) (object value : Word) (samples : Nat) (s : State) : State :=
  tamperNote event object value samples
    { s with ao := { s.ao with warns := min 0xFFFFFFFF (s.ao.warns + 1) }, sens := { s.sens with warn := true } }

/-- STRIKE_OUT_FALL (15 Table 15.3 step 7): 10 µs after the strike. -/
def execStrikeOutFall (s : State) : Outcome :=
  match s.ao.strikeOut with
  | some t => if t + 10 ≤ s.ao.time then .next { s with ao := { s.ao with strikeOut := none } } else .next s
  | none => .next s

/-- STRIKE_CLEAR_REPEAT (15 R419): 1 ms after a zero check failed, steps 3 to 5 run again. -/
def execStrikeClearRepeat (zeroOk : Bool) (s : State) : Outcome :=
  if s.ao.strikeFlag && !s.ao.verified && (s.modes.mode = .struck || s.modes.mode = .retired) then
    let s := strikeClear { s with ao := { s.ao with verified := zeroOk } }
    .next (raiseLog 0x16 0x0011 s.ao.lastCause.toNat s.ao.strikes (b2n zeroOk) s)
  else .next s

end Sys2Proof.Machine
end

