-- ==== Sys2Proof/Machine/Modes.lean ====
section
/-! DEFINITION. Mode changes: entry to RESET, HOLD, CEREMONY, DROWSE and RETIRED, the requests of MODE_REQ, the drain, supplies and the
reset input (12 R325 to R331, R337 to R346; 14 R402, R403, R463). -/

namespace Sys2Proof.Machine

/-! ### Entry to RESET and HOLD -/

/-- What is left of the state where the switched islands lose theirs: a register's value is that of the entry to RESET, beside the
always-on island, the fuses, the sensors, the signals at the boundary, and the logbook (15 R423). -/
def afterReset (m : Mode) (kind : BitVec 3) (s : State) : State :=
  { State.reset with
    pending := s.pending, free := s.free, chip := s.chip, ao := s.ao, sens := { s.sens with warn := false }, tap := s.tap,
    modes := { Modes.reset with
      mode := m, prev := s.modes.prev, resetKind := kind, guardHeld := s.modes.guardHeld, coreOk := s.modes.coreOk,
      sramOk := s.modes.sramOk, rstLow := s.modes.rstLow },
    twin := { Twin.reset with
      upA := s.twin.upA, upB := s.twin.upB, feedA := s.twin.feedA, feedB := s.twin.feedB, lastSent := s.twin.lastSent },
    regs := { Regs.reset with accesses := s.regs.accesses },
    fabric := { Fabric.reset with sleepReq := s.fabric.sleepReq, sleepAck := s.fabric.sleepReq },
    vault := { Vault.reset with wcount := s.vault.wcount, warned90 := s.vault.warned90, warned100 := s.vault.warned100 },
    log := { Logbook.reset with entries := s.log.entries, queue := s.log.queue } }

/-- The reset kinds of START entries (15 Table 15.4). -/
def kindPowerOn : BitVec 3 := 1
/-- VDD_CORE and VDD_SRAM have returned. -/
def kindSupply : BitVec 3 := 2
/-- CORE_RST_N. -/
def kindInput : BitVec 3 := 3
/-- The MP watchdog. -/
def kindWatchdog : BitVec 3 := 4
/-- TARGET 0x2. -/
def kindRequested : BitVec 3 := 5
/-- A GUARD. -/
def kindGuard : BitVec 3 := 6

/-- Entry to RESET (12 Table 12.4), the partner told where the change is drained. -/
def enterReset (kind : BitVec 3) (notice : Bool) (s : State) : State :=
  raise 0x20 (afterReset .reset kind (changeMode .reset 0 (leavePairing notice s)))

/-- Entry to HOLD: the switched islands lose their state and the logbook its buffer; CORE_TIME stands (12 R344, 14 R463). -/
def enterHold (kind : BitVec 3) (notice : Bool) (s : State) : State :=
  let s := changeMode .hold 0 (leavePairing notice s)
  let t := afterReset .hold kind s
  { t with
    regs := { t.regs with coreTime := s.regs.coreTime },
    log := Logbook.reset,
    gaffer := { t.gaffer with islands := s.gaffer.islands } }

/-- HOLD is left when the supplies are good and the reset input is released (Table 12.4). -/
def leaveHold (s : State) : State :=
  if s.modes.mode = .hold && s.modes.coreOk && s.modes.sramOk && !s.modes.rstLow then enterReset s.modes.resetKind false s else s

/-- SUPPLY_LOSS (14 R403): HOLD at once. -/
def execSupplyLoss (sram : Bool) (s : State) : Outcome :=
  let s := { s with modes := if sram then { s.modes with sramOk := false } else { s.modes with coreOk := false } }
  if s.modes.mode = .hold then
    .next { s with modes := { s.modes with resetKind := if s.modes.resetKind = kindPowerOn then kindPowerOn else kindSupply } }
  else .next (enterHold kindSupply false s)

/-- SUPPLY_RETURN (12 R330): both supplies are within their limits again. -/
def execSupplyReturn (s : State) : Outcome :=
  if s.modes.coreOk && s.modes.sramOk then .next s
  else .next (leaveHold { s with modes := { s.modes with coreOk := true, sramOk := true } })

/-- POWER_ON (12 Table 12.5): VDD_AO rises from absent; the always-on island is initialised, and the core supplies are still to come. -/
def execPowerOn (s : State) : Outcome :=
  .next { State.reset with
    pending := s.pending, free := s.free, chip := s.chip, tap := s.tap,
    ao := { AlwaysOn.reset with drk := none, idk := none, epochShadow := none },
    modes := { Modes.reset with mode := .hold, coreOk := false, sramOk := false, resetKind := kindPowerOn, rstLow := s.modes.rstLow },
    twin := { Twin.reset with upA := s.twin.upA, upB := s.twin.upB, feedA := s.twin.feedA, feedB := s.twin.feedB },
    regs := { Regs.reset with accesses := s.regs.accesses },
    fabric := { Fabric.reset with sleepReq := s.fabric.sleepReq, sleepAck := s.fabric.sleepReq },
    vault := { Vault.reset with wcount := s.vault.wcount, warned90 := s.vault.warned90, warned100 := s.vault.warned100 } }

/-- CORE_RST_N taken as a full reset input: it is low until its release (14 R402). -/
def takeReset (s : State) : State :=
  let s := { s with modes := { s.modes with rstLow := true } }
  if s.modes.mode = .hold then s else enterReset kindInput false s

/-- RESET_INPUT (14 R402): below 10 ns ignored, from 10 ns to 100 ns either, longer taken. -/
def execResetInput (lowNs : Nat) (s : State) : Outcome :=
  if lowNs < 10 then .next s
  else if lowNs < 100 then .next (if Config.shortPulseResets s.free then takeReset (bumpFree s) else bumpFree s)
  else .next (takeReset s)

/-- RESET_RELEASE (14 R402). -/
def execResetRelease (s : State) : Outcome :=
  if s.modes.rstLow then .next (leaveHold { s with modes := { s.modes with rstLow := false } }) else .next s

/-- WATCHDOG_EXPIRY (15 R421): suspended in DROWSE, and no firmware runs in HOLD and RESET. -/
def execWatchdogExpiry (s : State) : Outcome :=
  if s.modes.mode = .hold || s.modes.mode = .reset || s.modes.mode = .drowse then .next s else .next (enterReset kindWatchdog false s)

/-! ### CEREMONY, DROWSE -/

/-- The pending components discarded on leaving CEREMONY (08 R239). -/
def discardPending (s : State) : State :=
  let ps := (groupsIn s 0 (slotCount s)).filter fun i => (slotOf s i).state = .pending
  if ps.isEmpty then s else raise 0x6B (ps.foldl (fun t i => eraseGroup none i t) s)

/-- Islands put in retention, the always-on island apart (R341). -/
def retainIslands (s : State) : State :=
  { s with gaffer := { s.gaffer with islands := (List.range (islandCount s)).map fun i =>
      (i, { islandAt s i with state := if i = 0 then .running else .retained, queued := false }) } }

/-- The outputs of the register port at 0, while its island has no power (14 R375). -/
def quietPort (s : State) : State := { s with regs := { s.regs with rspErr := false, rspData := 0, rspTag := 0 } }

/-- Entry to DROWSE after the drain (R341): the NOTICE, the RNG stopped, the islands retained; the console is lost with its port. -/
def enterDrowse (s : State) : State :=
  let s := changeMode .drowse 0 (leavePairing true s)
  let s := rngSleep { s with modes := { s.modes with refreshAt := now s }, access := { s.access with diag := none } }
  quietPort (retainIslands s)

/-- DROWSE_REFRESH_PASS (R342): every 10 ms. -/
def execDrowseRefreshPass (s : State) : Outcome :=
  if s.modes.mode = .drowse && s.modes.refreshAt + 10000 ≤ now s then
    .next { s with keys := { s.keys with refreshes := s.keys.refreshes + 1 }, modes := { s.modes with refreshAt := now s } }
  else .next s

/-! ### Requests (R328, R329, R345, R346) -/

/-- RESULT of a request that has ended. -/
def reqEnd (st : Status) (s : State) : State := { s with modes := { s.modes with result := st, busy := false, pending := none } }

/-- A request refused (R329). -/
def reqRefuse (st : Status) (s : State) : State := raise 0x21 (reqEnd st s)

/-- The modes a request may name. -/
def targetMode (target : Nat) : Option Mode :=
  match target with
  | 1 => some .hold | 2 => some .reset | 5 => some .ceremony | 6 => some .operational | 8 => some .drowse | 0xA => some .factory
  | 0xB => some .struck | 0xC => some .retired | _ => none

/-- Whether Table 12.4 permits a requested transition. -/
def permits (from_ target : Mode) : Bool :=
  match target with
  | .hold => serves from_ || from_ = .sealed || from_ = .ceremony
  | .reset => from_ ≠ .hold && from_ ≠ .retired
  | .ceremony => serves from_ || from_ = .sealed
  | .operational => from_ = .sealed || from_ = .ceremony
  | .drowse => serves from_
  | .factory => from_ = .maintenance
  | .struck => from_ ≠ .hold && from_ ≠ .struck && from_ ≠ .retired
  | .retired => from_ ≠ .hold && from_ ≠ .retired
  | _ => false

/-- Begin a drain (R328 step 1). -/
def beginDrain (m : Mode) (s : State) : State := raise 0x26 { s with modes := { s.modes with pending := some m } }

/-- The second RETIRED request (R346): the strike where a DRK is held, then the fuse and RETIRED. The cause a requested strike latches is
not stated. -/
def retire (zeroOk : Bool) (s : State) : State :=
  let cause := (Config.unstated s.free 1).headD 0
  let s := bumpFree s
  let fuse := fun s : State => { s with chip := { s.chip with retired := true } }
  if s.ao.drk.isSome then strike cause zeroOk true .retired (fuse s)
  else changeMode .retired 0 (strikeRequest true (quietIslands (fuse s)))

/-- A requested strike (R345). -/
def requestStrike (zeroOk : Bool) (s : State) : State :=
  strike ((Config.unstated s.free 1).headD 0) zeroOk true .struck (bumpFree s)

/-- A permitted request begins: what needs no drain is done at once. -/
def reqStart (m : Mode) (drain zeroOk : Bool) (s : State) : State :=
  match m with
  | .reset => if drain then beginDrain m s else enterReset kindRequested false s
  | .hold | .drowse => beginDrain m s
  | .ceremony => if s.modes.mode = .sealed then reqEnd 0 (changeMode .ceremony 0 s) else beginDrain m s
  | .operational => reqEnd 0 (enterServing 0 (discardPending s))
  | .factory => reqEnd 0 (rngStart (changeMode .factory 0 s))
  | .struck => requestStrike zeroOk s
  | _ => retire zeroOk s

/-- The first RETIRED request arms, the second within 1 ms retires (R346). -/
def reqRetired (zeroOk : Bool) (s : State) : State :=
  match s.modes.armed with
  | some t => if now s < t + 1000 then retire zeroOk s else { s with modes := { s.modes with armed := some (now s) } }
  | none => { s with modes := { s.modes with armed := some (now s) } }

/-- TARGET 0x6 in the cycle in which an IMAGE_RESTORE has succeeded: the core is in OPERATIONAL or DEGRADED with the restored store, and the
request ends with 0x0000 (12 Table 12.11). -/
def restoredRequest (drain : Bool) (s : State) : State :=
  reqEnd 0 { s with modes := { s.modes with target := 6, drain := drain } }

/-- A guarded write of TARGET (R329). -/
def modeRequest (target : Nat) (drain zeroOk : Bool) (s : State) : State :=
  let cancels := (target = 2 && !drain) || target = 0xB
  if s.modes.busy && !cancels then { s with modes := { s.modes with lost := true } }
  else
    let s := { s with modes := { s.modes with target := BitVec.ofNat 4 target, drain := drain } }
    match targetMode target with
    | none => reqRefuse stOpcodeUnknown s
    | some m =>
      if !permits s.modes.mode m then reqRefuse stModeDenied s
      else if m = .retired then reqRetired zeroOk s
      else reqStart m drain zeroOk { s with modes := { s.modes with busy := true, pending := none } }

/-- The part of a MODE_REQ write that is no KEY field: LOST, and ARMED, which any other write clears (R346). -/
def modeReqPlain (value : Word) (second : Bool) (s : State) : State :=
  { s with modes := { s.modes with lost := s.modes.lost && !bit 14 value, armed := if second then s.modes.armed else none } }

/-- A 64-bit write of MODE_REQ. -/
def modeReqWrite (src : Source) (value : Word) (zeroOk : Bool) (s : State) : State :=
  let target := bits 0 4 value
  guarded src 0x00028 (target ≠ s.modes.target.toNat || bit 4 value ≠ s.modes.drain)
    (modeReqPlain value (lockOpen src s && target = 0xC)) (modeRequest target (bit 4 value) zeroOk) s

/-- A MODE_REQ row: the write, where its value names the row's target. -/
def modeReq (src : Source) (value : Word) (ok zeroOk : Bool) (s : State) : Outcome :=
  if ok then .next (mgrWrite src 0x00028 value (modeReqWrite src value zeroOk) s) else .next s

/-- MODE_REQ_HOLD. -/
def execModeReqHold (src : Source) (value : Word) (s : State) : Outcome := modeReq src value (bits 0 4 value = 1) true s
/-- MODE_REQ_RESET. -/
def execModeReqReset (src : Source) (value : Word) (s : State) : Outcome := modeReq src value (bits 0 5 value = 0x12) true s
/-- MODE_REQ_RESET_NO_DRAIN. -/
def execModeReqResetNoDrain (src : Source) (value : Word) (s : State) : Outcome := modeReq src value (bits 0 5 value = 0x02) true s
/-- MODE_REQ_CEREMONY. -/
def execModeReqCeremony (src : Source) (value : Word) (s : State) : Outcome := modeReq src value (bits 0 4 value = 5) true s
/-- The write of TARGET 0x6 that meets a successful IMAGE_RESTORE. -/
def restoredWrite (src : Source) (value : Word) (s : State) : State :=
  guarded src 0x00028 (6 ≠ s.modes.target.toNat || bit 4 value ≠ s.modes.drain) (modeReqPlain value false) (restoredRequest (bit 4 value)) s

/-- MODE_REQ_OPERATIONAL. -/
def execModeReqOperational (src : Source) (value : ModeWord) (s : State) : Outcome :=
  let v := value.value
  if value.restored && serves s.modes.mode && !s.modes.busy && bits 0 4 v = 6 then .next (mgrWrite src 0x00028 v (restoredWrite src v) s)
  else modeReq src v (bits 0 4 v = 6) true s
/-- MODE_REQ_DROWSE. -/
def execModeReqDrowse (src : Source) (value : Word) (s : State) : Outcome := modeReq src value (bits 0 4 value = 8) true s
/-- MODE_REQ_FACTORY. -/
def execModeReqFactory (src : Source) (value : Word) (s : State) : Outcome := modeReq src value (bits 0 4 value = 0xA) true s
/-- MODE_REQ_STRUCK. -/
def execModeReqStruck (src : Source) (value : Word) (zeroOk : Bool) (s : State) : Outcome :=
  modeReq src value (bits 0 4 value = 0xB) zeroOk s
/-- MODE_REQ_RETIRED. -/
def execModeReqRetired (src : Source) (value : Word) (zeroOk : Bool) (s : State) : Outcome :=
  modeReq src value (bits 0 4 value = 0xC) zeroOk s

/-- ARMED_LAPSE (R346). -/
def execArmedLapse (s : State) : Outcome :=
  match s.modes.armed with
  | some t => if t + 1000 ≤ now s then .next { s with modes := { s.modes with armed := none } } else .next s
  | none => .next s

/-! ### The end of a drain (R328) -/

/-- Whether a slate is between its read and its admission. -/
def undecided (x : Slate) : Bool :=
  match x.stage with
  | .owed | .owedReading | .owedRead _ => false
  | _ => true

/-- Steps 2 and 3: every admitted take has its daily, and every slate read is decided; and no message waits on a sleeping domain
(02 R459). -/
def drainIdle (s : State) : Bool := s.takes.isEmpty && !s.slates.any undecided && !messageWaits s

/-- The marks of an active bitmap held internally go to host memory (10 R297). -/
def flushMarks (f : Nat) (s : State) : State :=
  let t := tenantOf s f
  let out := (allRequests s).any fun r => match r.purpose with
    | .bitmapRead g false _ => g = f
    | _ => false
  if t.marks.isEmpty || out then s else readLines f false (bitmapBase t true) t.marks s

/-- Step 4: messages and contexts of every tenant. -/
def flushAll (s : State) : State := (liveTenants s).foldl (fun t f => flushMarks f (flushTenant f t)) s

/-- Whether everything step 4 issues is acknowledged; an event message that waits on a sleeping domain is no part of it. -/
def allFlushed (s : State) : Bool :=
  let isEvent := fun h : Held => match h.req.purpose with | .eventMessage _ => true | _ => false
  (liveTenants s).all (fun f => tenantFlushed s f && (tenantOf s f).marks.isEmpty) &&
  s.fabric.port0.reads.isEmpty && s.fabric.port0.writes.isEmpty && s.fabric.port1.reads.isEmpty && s.fabric.port1.writes.isEmpty &&
  s.fabric.held.all isEvent

/-- Step 5: the target is entered. -/
def reachTarget (m : Mode) (s : State) : State :=
  let s := reqEnd 0 s
  match m with
  | .hold => enterHold kindInput true s
  | .reset => enterReset kindRequested true s
  | .ceremony => changeMode .ceremony 0 s
  | .drowse => enterDrowse s
  | _ => s

/-- DRAIN_COMPLETE (R328): for HOLD and DROWSE step 4 first, until its writes are acknowledged. -/
def execDrainComplete (s : State) : Outcome :=
  match s.modes.pending with
  | none => .next s
  | some m =>
    if !drainIdle s then .next s
    else if m = .hold || m = .drowse then
      let s := flushAll s
      .next (if allFlushed s then reachTarget m s else s)
    else .next (reachTarget m s)

end Sys2Proof.Machine
end

