-- ==== Sys2Proof/Machine/Power.lean ====
section
/-! DEFINITION. The gaffer (12 R347 to R350), the power-domain handshake (14 R388, R389) and the test port (14 R407, R408). -/

namespace Sys2Proof.Machine

/-! ### Islands -/

/-- Whether an island may be gated at all (01 Table 1.1) and holds nothing that forbids it (R350). -/
def islandIdle (s : State) (island : Nat) : Bool :=
  (unitKindOf s island).isSome && serves s.modes.mode && !(heldIslands s).contains island

/-- The island clock of a kind of unit in MHz (01 Table 1.1). -/
def islandMhz (kind : Nat) : Nat := match kind with | 2 => 1000 | 4 | 5 => 1600 | _ => 1200

/-- Whether an island has been without work for IDLE_CLK. -/
def clockIdle (s : State) (island : Nat) : Bool :=
  islandIdle s island && s.gaffer.idleClk ≠ 0 &&
  16 * s.gaffer.idleClk.toNat ≤ (now s - (islandAt s island).idleSince) * islandMhz ((unitKindOf s island).getD 0)

/-- Whether an island has been without work for IDLE_PWR. -/
def powerIdle (s : State) (island : Nat) : Bool :=
  islandIdle s island && s.gaffer.idlePwr ≠ 0 && (islandAt s island).idleSince + s.gaffer.idlePwr.toNat ≤ now s

/-- An island clock-gated. -/
def gateClock (island : Nat) (s : State) : State :=
  let x := islandAt s island
  if x.state = .running then setIsland island { x with state := .clockGated } s else s

/-- An island power-gated: a public-key core's operand memory is wiped, and an unpinned core has no owner (R348). -/
def gatePower (island : Nat) (s : State) : State :=
  let x := islandAt s island
  if x.state = .running || x.state = .clockGated then
    let s := setIsland island { x with state := .powerGated } s
    if unitKindOf s island = some 4 then (unitsIn s island).foldl (fun t i => wipeCore 4 i t) s else s
  else s

/-- CLOCK_GATE_IDLE (R348). -/
def execClockGateIdle (island : Nat) (s : State) : Outcome := if clockIdle s island then .next (gateClock island s) else .next s

/-- POWER_GATE_IDLE (R348). -/
def execPowerGateIdle (island : Nat) (s : State) : Outcome := if powerIdle s island then .next (gatePower island s) else .next s

/-- After a lowered limit every island already idle for longer is gated at once (R350). -/
def gateNow (pwr clk : Bool) (s : State) : State :=
  (List.range (islandCount s)).foldl (fun t i =>
    let t := if clk && clockIdle t i then gateClock i t else t
    if pwr && powerIdle t i then gatePower i t else t) s

/-- GF_CTRL written (R350). -/
def gfCtrlSet (value : Word) (s : State) : State :=
  let g := s.gaffer
  let pwr := BitVec.ofNat 16 (bits 16 16 value)
  let clk := BitVec.ofNat 8 (bits 8 8 value)
  gateNow (pwr < g.idlePwr) (clk < g.idleClk)
    { s with gaffer := { g with idlePwr := pwr, idleClk := clk, stagger := BitVec.ofNat 4 (bits 0 4 value) } }

/-- GF_CTRL as it reads. -/
def gfCtrl (s : State) : Word :=
  BitVec.ofNat 64 (s.gaffer.idlePwr.toNat * 2 ^ 16 + s.gaffer.idleClk.toNat * 2 ^ 8 + s.gaffer.stagger.toNat)

/-- A 64-bit write of GF_CTRL: every field is a KEY field. -/
def gfCtrlWrite (src : Source) (value : Word) (s : State) : State :=
  guarded src 0x04000 (value &&& 0xFFFFFF0F ≠ gfCtrl s) id (gfCtrlSet value) s

/-- GF_CTRL_WRITE. -/
def execGfCtrlWrite (src : Source) (value : Word) (s : State) : Outcome := .next (mgrWrite src 0x04000 value (gfCtrlWrite src value) s)

/-! ### Memory domains -/

/-- DOMAIN_SLEEP_REQ_RISE (14 R389): the domain is asleep; it is acknowledged once nothing to it is outstanding. -/
def execDomainSleepReqRise (d : Fin 16) (s : State) : Outcome :=
  .next (settleAck { s with fabric := { s.fabric with sleepReq := s.fabric.sleepReq ||| BitVec.twoPow 16 d.val } })

/-- DOMAIN_SLEEP_REQ_FALL (14 R389): what waited for the domain goes on, in DROWSE after the wake, and the acknowledgement falls; a dailies
message that waited is issued (02 R459). -/
def execDomainSleepReqFall (d : Fin 16) (s : State) : Outcome :=
  let s := { s with fabric := { s.fabric with sleepReq := s.fabric.sleepReq &&& ~~~(BitVec.twoPow 16 d.val) } }
  .next (settleAck (if s.modes.mode = .drowse then s else wakeMessages (pumpHeld s)))

/-! ### The test port -/

/-- The state with an instruction loaded. -/
def loadTap (i : TapInstr) (s : State) : State := { s with tap := { s.tap with instr := i } }

/-- The code of an instruction in the entry of its refusal. -/
def tapCode : TapInstr → Nat
  | .bypass => 0 | .idcode => 1 | .samplePreload => 2 | .extest => 3 | .clamp => 4 | .highz => 5 | .ababry => 6

/-- A refused instruction loads as BYPASS, with event 0x1E and an entry (R408). -/
def refuseTap (i : TapInstr) (s : State) : State := raiseLog 0x1E 0x0010 (Config.packed [tapCode i]) 0 0 (loadTap .bypass s)

/-- Whether a locked port accepts EXTEST, CLAMP and HIGHZ (R408). -/
def scanMode (m : Mode) : Bool := m = .struck || m = .maintenance || m = .factory || m = .retired

/-- Whether a locked port accepts the Ababry instructions (R408). -/
def ababryMode (m : Mode) : Bool := m = .maintenance || m = .factory || m = .retired

/-- An instruction that the field lock limits. -/
def limitedTap (i : TapInstr) (ok : Mode → Bool) (s : State) : State :=
  if s.chip.fieldLock && !ok s.modes.mode then refuseTap i s else loadTap i s

/-- BYPASS. -/
def execBypass (s : State) : Outcome := .next (loadTap .bypass s)

/-- The 32 bits of IDCODE (R407). -/
def idcodeValue (s : State) : BitVec 32 := BitVec.ofNat 32 (0x01 % 16 * 2 ^ 28 + 0x4807 * 2 ^ 12 + s.chip.tapMfr.toNat * 2 + 1)

/-- IDCODE. -/
def execIdcode (s : State) : Outcome := .next { s with tap := { instr := .idcode, captured := idcodeValue s } }

/-- SAMPLE/PRELOAD. -/
def execSamplePreload (s : State) : Outcome := .next (loadTap .samplePreload s)

/-- EXTEST. -/
def execExtest (s : State) : Outcome := .next (limitedTap .extest scanMode s)

/-- CLAMP. -/
def execClamp (s : State) : Outcome := .next (limitedTap .clamp scanMode s)

/-- HIGHZ. -/
def execHighz (s : State) : Outcome := .next (limitedTap .highz scanMode s)

/-- An instruction that reaches the scan chains clears the stage areas, the hold buffers and the operand memories first (R408). -/
def scanClear (s : State) : State :=
  { s with units := { s.units with regs := [], owners := s.units.pins }, takes := s.takes.map fun t => { t with stage := [] } }

/-- ABABRY_TEST_INSTRUCTION. -/
def execAbabryTestInstruction (s : State) : Outcome :=
  let t := limitedTap .ababry ababryMode s
  .next (if t.tap.instr = .ababry then scanClear t else t)

end Sys2Proof.Machine
end

