-- ==== Sys2Proof/Machine/UnitRows.lean ====
section
/-! DEFINITION. The UNIT_STATUS commands and the fault that leads to a reset (16 R443 to R445). -/

namespace Sys2Proof.Machine

/-- Whether a unit of kinds 0 to 7 exists (R445 check 3). -/
def unitExists (s : State) (kind index : Nat) : Bool :=
  if kind ≤ 5 then index < unitCount s kind
  else if kind = 6 then index = 0
  else index = 0 || (index = 1 && s.chip.fp1Present)

/-- Whether a unit of kinds 0 to 7 is fenced. -/
def anyFenced (s : State) (kind index : Nat) : Bool :=
  if kind ≤ 5 then unitFenced s kind index
  else if kind = 6 then rngFailed s
  else (portOf s (index = 1)).fenced

/-- The first failed check of a US_CMD command (R445). -/
def usCheck (s : State) (cmd kind index : Nat) : Option Status :=
  if !pairs s.modes.mode then some stModeDenied
  else if !(cmd = 1 || cmd = 2) || 7 < kind then some stOpcodeUnknown
  else if !unitExists s kind index then some stUnitUnavailable
  else if (cmd = 1 && 5 < kind) || (cmd = 2 && !anyFenced s kind index) then some stUsageDenied
  else none

/-- RESULT of a US_CMD command. -/
def usEnd (st : Status) (s : State) : State := { s with units := { s.units with result := st } }

/-- FENCE: a sequencer's take runs to its daily, a public-key OP to its end, other work stops at once (04 Table 4.10, 06 R186,
07 Table 7.10). -/
def fenceByCommand (kind i : Nat) (s : State) : State :=
  match kind with
  | 0 => match s.takes.find? fun t => t.seq = some i with
    | some t => setTake { t with fenceSeq := true } s
    | none => fenceUnit 0 i 7 0x81 s
  | 1 | 3 =>
    let s' := fenceUnit kind i 7 0x81 s
    match runsOn s (if kind = 1 then .lane else .digest) i with
    | some t => stopTake t s'
    | none => s'
  | 2 => stopEngine i 7 0x81 s
  | _ => match runsOn s (if kind = 4 then .standard else .shielded) i with
    | some t => setTake { t with op := t.op.map fun o => { o with fenceAfter := true } } s
    | none => fenceUnit kind i 7 0x81 s

/-- The end of an UNFENCE whose unit has passed. -/
def unfenced (s : State) : State :=
  raise 0x82 (usEnd 0 { s with units := { s.units with unfences := satInc s.units.unfences } })

/-- The end of an UNFENCE whose unit stays fenced. -/
def unfenceFails (s : State) : State := raise 0x83 (usEnd stFaultDetected s)

/-- A port back in service with a fresh tag space. -/
def openPort (p : Bool) (s : State) : State := pumpHeld (setPort p { fenced := false, reads := [], writes := [] } s)

/-- UNFENCE (R445), from what the unit's item of 12 Table 12.6 found. -/
def unfenceByCommand (kind i : Nat) (passed : Bool) (s : State) : State :=
  if !passed then unfenceFails s
  else if kind ≤ 5 then settleMode (settleAllPins (unfenced (setFenced kind i false s)))
  else if kind = 6 then
    let s := rngRestart s
    if rngFailed s then unfenceFails s else unfenced s
  else unfenced (openPort (i = 1) s)

/-- A US_CMD command (R445). -/
def usCommand (value : Word) (passed : Bool) (s : State) : State :=
  let cmd := bits 0 8 value
  let kind := bits 8 4 value
  let i := bits 16 10 value
  let s := { s with units := { s.units with cmd := value &&& 0x03FF0FFF } }
  match usCheck s cmd kind i with
  | some st => usEnd st s
  | none => if cmd = 1 then usEnd 0 (fenceByCommand kind i s) else unfenceByCommand kind i passed s

/-- A 64-bit write of US_CMD: every field is a KEY field. -/
def usWrite (src : Source) (value : Word) (passed : Bool) (s : State) : State :=
  guarded src 0x08000 (value &&& 0x03FF0FFF ≠ s.units.cmd) id (usCommand value passed) s

/-- The value of US_CMD for a command on a unit. -/
def usValue (cmd : Nat) (kind : BitVec 4) (index : BitVec 10) : Word := BitVec.ofNat 64 (cmd + kind.toNat * 2 ^ 8 + index.toNat * 2 ^ 16)

/-- FENCE. -/
def execFence (src : Source) (kind : BitVec 4) (index : BitVec 10) (s : State) : Outcome :=
  .next (mgrWrite src 0x08000 (usValue 1 kind index) (usWrite src (usValue 1 kind index) true) s)

/-- UNFENCE. -/
def execUnfence (src : Source) (kind : BitVec 4) (index : BitVec 10) (passed : Bool) (s : State) : Outcome :=
  .next (mgrWrite src 0x08000 (usValue 2 kind index) (usWrite src (usValue 2 kind index) passed) s)

/-- UNCONTAINABLE_FAULT (R443): a fault of the scheduler, key-store, management or always-on island. The MP's request of a RESET
follows in the next microsecond (Tick.lean). -/
def execUncontainableFault (s : State) : Outcome :=
  if s.modes.mode = .hold || s.modes.mode = .drowse then .next s else .next (uncontained 0x88 8 0 s)

end Sys2Proof.Machine
end

