-- ==== Sys2Proof/Machine/Tamper.lean ====
section
/-! DEFINITION. Mesh channels and sensors: their thresholds and responses, GUARD, and MESH_ENROL (15 R410 to R415). -/

namespace Sys2Proof.Machine

/-! ### Mesh channels (R410 to R412) -/

/-- FAULT of 15 Table 15.1. -/
def meshCode : MeshFault → Nat
  | .openLine => 1 | .shortPair => 2 | .shortRail => 3 | .pattern => 4 | .drift => 5

/-- The samples a classification holds for. -/
def meshSamples : MeshFault → Nat
  | .drift => 16
  | _ => 2

/-- BASELINE of a channel. -/
def baselineOf (s : State) (ch : Nat) : Nat := (s.ao.baseline.getD ch 0).toNat

/-- Whether a loop resistance departs from BASELINE by more than so many per cent; never while BASELINE is zero. -/
def drifts (s : State) (ch value pct : Nat) : Bool :=
  let b := baselineOf s ch
  b ≠ 0 && decide (b * (100 + pct) < 100 * value ∨ 100 * value + b * pct < 100 * b)

/-- MESH_DRIFT shows the channels that are beyond the warning drift: one whose last sample is not is no longer among them. -/
def settleDrift (s : State) : State :=
  let bits := (List.range 8).foldl (fun b i =>
    b + flagAt i (s.ao.meshDrift.getLsbD i && drifts s i (s.ao.resist.getD i 0).toNat 15)) 0
  { s with ao := { s.ao with meshDrift := BitVec.ofNat 8 bits } }

/-- RESIST of a channel: its last sample. -/
def setResist (ch : Nat) (value : BitVec 16) (s : State) : State :=
  settleDrift { s with ao := { s.ao with resist := s.ao.resist.set ch value } }

/-- FAULT of a channel: held until the next start. -/
def setMeshFault (ch code : Nat) (s : State) : State :=
  { s with ao := { s.ao with meshFault := s.ao.meshFault.set ch (BitVec.ofNat 4 code) } }

/-- MESH_FAULT (R411): the classification has held for its samples. -/
def execMeshFault (channel : Fin 8) (kind : MeshFault) (value : BitVec 16) (zeroOk : Bool) (s : State) : Outcome :=
  let s := setResist channel value s
  if s.ao.meshFault.getD channel 0 ≠ 0 then .next s
  else if kind = .drift && !drifts s channel value.toNat 30 then .next s
  else .next (strikeResponse channel channel.val (value.setWidth 64) (meshSamples kind) zeroOk (setMeshFault channel (meshCode kind) s))

/-- MESH_DRIFT_WARNING (R411): reported once while the channel stays beyond the warning drift. -/
def execMeshDriftWarning (channel : Fin 8) (value : BitVec 16) (s : State) : Outcome :=
  let s := setResist channel value s
  if !drifts s channel value.toNat 15 || s.ao.meshDrift.getLsbD channel then .next s
  else .next (warnResponse (8 + channel) channel.val (value.setWidth 64) 16
    { s with ao := { s.ao with meshDrift := s.ao.meshDrift ||| BitVec.twoPow 8 channel } })

/-- A 64-bit write of TP_CMD (R412): MESH_ENROL outside FACTORY is ignored. -/
def tpCmdWrite (src : Source) (value : Word) (s : State) : State :=
  guarded src 0x07128 (bits 0 8 value ≠ 0) id (fun s =>
    if bits 0 8 value = 1 && s.modes.mode = .factory then { s with ao := { s.ao with enrolling := true } } else s) s

/-- MESH_ENROL. -/
def execMeshEnrol (src : Source) (s : State) : Outcome := .next (mgrWrite src 0x07128 1 (tpCmdWrite src 1) s)

/-- MESH_ENROL_COMPLETE (R412): BASELINE becomes the mean of 1,024 samples. -/
def execMeshEnrolComplete (means : List (BitVec 16)) (s : State) : Outcome :=
  if s.ao.enrolling && means.length = 8 then .next (settleDrift { s with ao := { s.ao with baseline := means, enrolling := false } }) else .next s

/-! ### Sensors (R413 to R415) -/

/-- What a condition brings (15 Table 15.2). -/
inductive Response where
  | none
  | warn
  | guard
  | strike
deriving DecidableEq, Repr

/-- Outside a band. -/
def outside (low high v : Int) : Bool := v < low || high < v

/-- The response of Table 15.2 to a sensor's value. -/
def responseTo (x : Sensor) (v : Int) : Response :=
  match x with
  | .temperature _ => if outside (-640) 2080 v then .strike else if outside (-320) 1760 v then .warn else .none
  | .vddCore => if outside 690 830 v then .guard else .none
  | .vddSram => if outside 740 880 v then .guard else .none
  | .vddAo => if outside 680 950 v then .strike else if v < 740 then .warn else .none
  | .feed _ => if v < 540 then .warn else .none
  | .light => if 10000 < v then .strike else if 3000 < v then .warn else .none
  | .refclk => if outside (-5000) 5000 v then .guard else .none
  | .clockGlitch => if v < 80 then .guard else .none

/-- The highest of the four temperatures. -/
def highest (ts : List Int) : Int := ts.foldl max (ts.headD 0)

/-- What a sensor's condition is judged by: a temperature by the highest of the four. -/
def judged (x : Sensor) (v : Int) (s : State) : Int :=
  match x with
  | .temperature _ => highest s.sens.temps
  | _ => v

/-- The last value of a sensor. -/
def sensorValue (x : Sensor) (s : State) : Int :=
  match x with
  | .temperature i => s.sens.temps.getD i 0
  | .vddCore => s.sens.vddCore
  | .vddSram => s.sens.vddSram
  | .vddAo => s.sens.vddAo
  | .feed b => if b then s.sens.feedB else s.sens.feedA
  | .light => s.sens.light
  | .refclk => s.sens.refclk
  | .clockGlitch => 100

/-- A sensor's value, as the registers show it. -/
def setSensor (x : Sensor) (v : Int) (s : State) : State :=
  let n := s.sens
  { s with sens := match x with
    | .temperature i => { n with temps := n.temps.set i v }
    | .vddCore => { n with vddCore := v }
    | .vddSram => { n with vddSram := v }
    | .vddAo => { n with vddAo := v }
    | .feed b => if b then { n with feedB := v } else { n with feedA := v }
    | .light => { n with light := v }
    | .refclk => { n with refclk := v }
    | .clockGlitch => n }

/-- TEMP_WARN, FEED_WARN, AO_WARN and LIGHT_WARN follow the values. -/
def setWarnBits (s : State) : State :=
  let n := s.sens
  { s with sens := { n with
      tempWarn := responseTo (.temperature 0) (highest n.temps) ≠ .none, feedWarn := n.feedA < 540 || n.feedB < 540,
      aoWarn := n.vddAo < 740, lightWarn := 3000 < n.light } }

/-- A number of each sensor, for the OBJECT that Table 15.5 names without giving its coding (log 18). -/
def sensorIndex : Sensor → Nat
  | .temperature i => i
  | .vddCore => 4 | .vddSram => 5 | .vddAo => 6 | .feed b => 7 + b2n b | .light => 9 | .refclk => 10 | .clockGlitch => 11

/-- The warning event of a sensor. -/
def sensorEvent : Sensor → Nat
  | .temperature _ => 0x11
  | .light => 0x13
  | _ => 0x12

/-- OBJECT and filter samples of a sensor's entry. -/
def sensorObject (x : Sensor) : Word := BitVec.ofNat 64 (Config.packed [8, sensorIndex x])

/-- GUARD (R413): the tamper logic holds the core reset, without drain. -/
def guardResponse (s : State) : State :=
  if s.modes.mode = .hold || s.modes.guardHeld then s
  else enterReset kindGuard false { s with
    ao := { s.ao with guards := sat16 s.ao.guards }, modes := { s.modes with guardHeld := true } }

/-- The response to a condition: a warning where it has begun. -/
def sensorResponse (x : Sensor) (v : Int) (began zeroOk : Bool) (s : State) : State :=
  match responseTo x v with
  | .none => s
  | .warn => if began then warnResponse (sensorEvent x) (sensorObject x) (BitVec.ofInt 64 v) (Config.packed [9, sensorIndex x]) s else s
  | .guard => guardResponse s
  | .strike => strikeResponse (sensorEvent x) (sensorObject x) (BitVec.ofInt 64 v) (Config.packed [9, sensorIndex x]) zeroOk s

/-- SENSOR_CONDITION (R414): a value that has persisted for the filter time. -/
def execSensorCondition (sensor : Sensor) (value : Int) (zeroOk : Bool) (s : State) : Outcome :=
  let old := responseTo sensor (judged sensor (sensorValue sensor s) s)
  let s := setWarnBits (setSensor sensor value s)
  .next (sensorResponse sensor (judged sensor value s) (old ≠ .warn) zeroOk s)

/-- GUARD_RELEASE (R413): the condition has been absent for 1 ms. -/
def execGuardRelease (s : State) : Outcome :=
  if s.modes.guardHeld then .next { s with modes := { s.modes with guardHeld := false } } else .next s

end Sys2Proof.Machine
end

