-- ==== Sys2Proof/Machine/Boot.lean ====
section
/-! DEFINITION. The start: firmware authentication (15 R426, R427), the self-test and its end (12 R330 to R336). -/

namespace Sys2Proof.Machine

/-! ### Firmware images (15 R426) -/

/-- MAGIC, VERSION, BODY_LEN and the reserved fields of an image's header (15 Table 15.6). -/
def fwHeaderOk (b : Bytes) : Bool :=
  b.take 6 = ascii "T7FW" ++ [1, 0] && byteAt 6 b < 8 && byteAt 7 b < 2 && field 0x14 4 b = 0 && field 0x1C 4 b = 0 &&
  4096 ≤ field 0x18 4 b && field 0x18 4 b ≤ 1048576 && 0x110 ≤ b.length

/-- The length of an image with its header. -/
def fwLength (b : Bytes) : Nat := 0x110 + field 0x18 4 b

/-- The first failed check of R426 on a header, in the order of R428. -/
def fwHeaderCheck (s : State) (b : Bytes) : Option Status :=
  if !fwHeaderOk b then some stBlobInvalid
  else if byteAt 6 b / 2 ^ configCode s % 2 = 0 then some stUsageDenied
  else if sha384 (slice 0x50 96 b) ≠ s.chip.fwKeyHash then some stOwnerMismatch
  else if !ecdsaVerify p384 (slice 0x50 96 b) (sha384 (b.take 0xB0)) (slice 0xB0 96 b) then some stVerifyFail
  else none

/-- The checks of R426 on an image at an address, in the order of R428; the image that passes. -/
def fwCheck (s : State) (addr : Word) (floor : Nat) (img : FwRead) : Except Status Bytes :=
  if addr.toNat % 4096 ≠ 0 then .error stBlobInvalid
  else match img with
    | .busError => .error stBusError
    | .busPoison => .error stBusPoison
    | .image b =>
      match fwHeaderCheck s b with
      | some st => .error st
      | none =>
        if b.length < fwLength b then .error stBlobInvalid
        else if sha384 (slice 0x110 (field 0x18 4 b) b) ≠ slice 0x20 48 b then .error stTagMismatch
        else if field 0x10 4 b < floor then .error stBlobInvalid
        else .ok b

/-! ### Vault block 1 (15 Table 15.7) -/

/-- A block with its CHECK computed. -/
def sealBlock (b : Bytes) : Bytes := b.take 0x7C ++ toLe 4 (crc32c (b.take 0x7C)).toNat

/-- Whether a block is a firmware record that passes its check. -/
def block1Ok (b : Bytes) : Bool :=
  b.length = 128 && b.take 6 = ascii "T7FR" ++ [1, 0] && byteAt 6 b < 2 && byteAt 7 b < 2 && field 0x1C 4 b = 0 &&
  allZero (slice 0x70 12 b) && b = sealBlock b

/-- The record of a block 1 that has not passed its check: no slot address, FLOOR 0, no officer, no password (log 23). -/
def blankBlock1 : Bytes := sealBlock (ascii "T7FR" ++ [1, 0] ++ zeroBytes 122)

/-- Block 1 as the core holds it. -/
def block1Of (s : State) : Bytes := s.fw.block1.getD blankBlock1

/-- ACTIVE: slot B. -/
def b1ActiveB (b : Bytes) : Bool := byteAt 6 b = 1
/-- TRIAL. -/
def b1Trial (b : Bytes) : Bool := byteAt 7 b = 1
/-- The address of a slot. -/
def b1Addr (slotB : Bool) (b : Bytes) : Word := BitVec.ofNat 64 (field (if slotB then 0x10 else 0x08) 8 b)
/-- FLOOR (FW_FLOOR). -/
def b1Floor (b : Bytes) : Nat := field 0x18 4 b
/-- OFFICER_HASH. -/
def b1Officer (b : Bytes) : Bytes := slice 0x20 48 b
/-- DIAG_SALT. -/
def b1Salt (b : Bytes) : Bytes := slice 0x50 16 b
/-- DIAG_VERIFIER. -/
def b1Verifier (b : Bytes) : Bytes := slice 0x60 16 b

/-! ### The boot ROM (15 R427) -/

/-- A start with TRIAL 1 gives the trial image its one run. -/
def startsTrial (s : State) (b : Option Bytes) : Bool := b.any b1Trial && !s.ao.trialRun

/-- The trial image has had its run: the ACTIVE image runs, and TRIAL is to be cleared. -/
def fallsBack (s : State) (b : Option Bytes) : Bool := b.any b1Trial && s.ao.trialRun

/-- The candidates in order: a slot (true for B) or none, and its address. -/
def candidates (s : State) (b : Option Bytes) : List (Option Bool × Word) :=
  (match b with
    | none => []
    | some b =>
      let own := (some (b1ActiveB b), b1Addr (b1ActiveB b) b)
      let other := (some !(b1ActiveB b), b1Addr (!(b1ActiveB b)) b)
      if startsTrial s (some b) then [other, own] else [own, other]) ++
  [(none, s.chip.fwDefault)]

/-- The first valid candidate: its slot, its address and the image. -/
def bootChoice (s : State) (b : Option Bytes) (images : List FwRead) : Option (Option Bool × Word × Bytes) :=
  ((candidates s b).zip images).findSome? fun c =>
    match fwCheck s c.1.2 (b1Floor (b.getD blankBlock1)) c.2 with
    | .ok img => some (c.1.1, c.1.2, img)
    | .error _ => none

/-- The firmware registers of the image that runs; RUNNING_SLOT of an image at the default address is not stated. -/
def runImage (slot : Option Bool) (img : Bytes) (b : Option Bytes) (s : State) : State :=
  let open' := ((Config.unstated s.free 1).headD 0).getLsbD 0
  bumpFree { s with
    regs := { s.regs with fwVersion := BitVec.ofNat 64 (field 8 8 img) },
    fw := { s.fw with
      runningB := slot.getD open', secver := field 0x10 4 img, raiseFloor := byteAt 7 img = 1, block1 := b } }

/-! ### The entries of a start (15 R422, R423) -/

/-- GENESIS after a power-on, then START, which continues the chain, then the records made in HOLD; the entries that waited follow. -/
def startEntries (s : State) : State :=
  let q := s.log.queue
  let head := fun (code flags event object value extra : Nat) (s : State) =>
    chainEntry (entryBody (now s) code (entryMode s .selftest) flags event s.vault.epoch object value extra) s
  let s := { s with log := { s.log with queue := [] } }
  let s := if s.ao.lastEntry.isNone then head 1 0 0 (field 0 8 s.chip.deviceId) (field 8 8 s.chip.deviceId) 0 s else s
  let n := s.ao.lastEntry.getD (0, zeroBytes 16)
  let s := head 2 (s.modes.resetKind.toNat * 32) 0 n.1 (field 0 8 n.2) (field 8 8 n.2) s
  let rs := s.ao.holdRecords
  let s := rs.foldl (fun t r => chainEntry (entryBody 0 0x0010 (entryMode t .hold) 3 r.event.toNat t.vault.epoch r.object.toNat
    r.value.toNat (Config.packed [10, r.event.toNat])) (raise r.event.toNat t)) { s with ao := { s.ao with holdRecords := [] } }
  let s := { s with log := { s.log with queue := q } }
  if rs.isEmpty then s else raise 0x15 s

/-- The events that report the kind of the reset: a watchdog (R421) and a GUARD. -/
def kindEvents (s : State) : State :=
  if s.modes.resetKind = kindWatchdog then raise 0xF0 s else if s.modes.resetKind = kindGuard then raise 0x14 s else s

/-! ### The self-test (12 R332 to R336) -/

/-- The units of a kind as self-test items. -/
def unitItems (s : State) (kind : Nat) (f : Nat → TestItem) : List TestItem := (List.range (unitCount s kind)).map f

/-- The items of a start: the vault items where K_V is fused (14 R396), those of the keys where a DRK is held. -/
def startItems (s : State) : List TestItem :=
  (if s.chip.vaultKey.isSome then [.vault, .epochCeiling] else []) ++ (if s.ao.drk.isSome then [.drk, .idk, .keyStore] else []) ++
  [.registerFile] ++ unitItems s 0 .sequencer ++ unitItems s 1 .lane ++ unitItems s 2 .engine ++ unitItems s 3 .digest ++
  unitItems s 4 .standardCore ++ unitItems s 5 .shieldedCore ++ [.rng]

/-- The mesh starts afresh: a new seed, no fault held, no drift shown (15 R410, R411). -/
def meshStart (s : State) : State :=
  let seed := BitVec.ofNat 31 (leNat (Config.rawSamples s.free 4))
  bumpFree { s with ao := { s.ao with meshSeed := seed, meshFault := List.replicate 8 0, meshDrift := 0 } }

/-- Entry to SELFTEST. -/
def enterSelftest (s : State) : State :=
  let s := chainQueue (changeMode .selftest 0 (startEntries (meshStart s)))
  let s := rngStart (kindEvents { s with modes := { s.modes with items := startItems s, stFail := 0, fwRetryAt := none } })
  vaultSend .readRecord false 1 0 [] s

/-- A self-test failure (R335). -/
def stFailure (code : BitVec 8) (s : State) : State :=
  raiseLog 0x22 0x0003 (modeCode s.modes.mode) (modeCode s.modes.prev) 0
    { s with modes := { s.modes with stFail := code, items := [] } }

/-- Whether some sequencer, lane, digest unit and standard core passed. -/
def enoughPassed (s : State) : Bool := [0, 1, 3, 4].all fun k => (List.range (unitCount s k)).any (healthy s k)

/-- The end of a start in STRUCK (R336): the arrays have been cleared and checked; the logbook records only the START entry. -/
def startStruck (s : State) : State :=
  turnMode .struck (quietIslands (strikeClear { s with ao := { s.ao with strikeFlag := true, verified := true } }))

/-- The core leaves SELFTEST when every item has ended (R336). -/
def finishSelftest (s : State) : State :=
  if s.modes.mode ≠ .selftest || !s.modes.items.isEmpty || s.modes.stFail ≠ 0 then s
  else if !enoughPassed s then stFailure 6 s
  else if s.ao.strikeFlag || (s.ao.drk.isNone && s.chip.enrolled) then startStruck s
  else if s.ao.drk.isNone then changeMode .factory 0 s
  else changeMode .sealed 0 s

/-- An item has ended without a failure of Table 12.7. -/
def itemDone (i : TestItem) (s : State) : State :=
  finishSelftest { s with modes := { s.modes with items := s.modes.items.filter (· ≠ i) } }

/-- The kind and index of the unit an item tests. -/
def itemUnit : TestItem → Option (Nat × Nat)
  | .sequencer i => some (0, i) | .lane i => some (1, i) | .engine i => some (2, i) | .digest i => some (3, i)
  | .standardCore i => some (4, i) | .shieldedCore i => some (5, i)
  | _ => none

/-- The island an item needs (R332: "each as soon as its island runs"). -/
def itemIsland (s : State) (i : TestItem) : Nat :=
  match itemUnit i with
  | some u => islandOf s u.1 u.2
  | none => match i with
    | .idk => islandOf s 5 0 | .keyStore => 5 | .rng => 6 | .drk => 0 | _ => 1

/-- Whether an item can end here: the vault items end with the vault's answers; the IDK and key-store items follow the vault record, and the
IDK check the test of shielded core 0. -/
def itemReady (s : State) (i : TestItem) : Bool :=
  s.modes.mode = .selftest && s.modes.stFail = 0 && s.modes.items.contains i && (islandAt s (itemIsland s i)).state = .running &&
  (match i with
    | .vault | .epochCeiling => false
    | .keyStore => !s.modes.items.contains .vault
    | .idk => !s.modes.items.contains .vault && !s.modes.items.contains (.shieldedCore 0)
    | _ => true)

/-- The DRK check of Table 12.6. -/
def drkOk (s : State) : Bool := s.ao.drk.any fun k => kdfCounter k (ascii "TX7 DRK CHECK") [] 16 = s.chip.drkCheck

/-- The blinding values of the IDK check (R334). -/
def idkBlinding (s : State) : Blind :=
  let b := s.keys.idkBlind.getD []
  { multiple := beNat (b.take 8), weight := beNat (b.drop 8) }

/-- The IDK check of Table 12.6, blinded. -/
def idkOk (s : State) : Bool := s.ao.idk.any fun d => ecPublicWith p384 (idkBlinding s) d = s.chip.idkPublic

/-- An item that must pass: done, or a failure of Table 12.7. -/
def itemMust (i : TestItem) (ok : Bool) (code : BitVec 8) (s : State) : State := if ok then itemDone i s else stFailure code s

/-- SELFTEST_ITEM_COMPLETE (R332, R335). -/
def execSelftestItemComplete (item : TestItem) (passed : Bool) (s : State) : Outcome :=
  if !itemReady s item then .next s
  else match item with
    | .drk => .next (itemMust item (passed && drkOk s) 1 s)
    | .idk => .next (itemMust item (passed && idkOk s) 5 s)
    | .keyStore => .next (itemMust item passed 4 s)
    | .registerFile => .next (itemMust item passed 7 s)
    | .rng => .next (itemDone item (if passed then s else raise 0x23 (rngFail 4 s)))
    | _ => match itemUnit item with
      | some u => .next (itemDone item (if passed then s else raise 0x23 (fenceUnit u.1 u.2 6 0x80 s)))
      | none => .next s

/-! ### Commands of the boot ROM -/

/-- No candidate is valid: ST_FAIL 0x08, and another attempt after 1 s. -/
def bootFailed (s : State) : State :=
  let first := s.modes.stFail ≠ 8
  let s := { s with modes := { s.modes with stFail := 8, fwRetryAt := some (now s + 1000000) } }
  if first then raiseLog 0x22 0x0070 s.chip.fwDefault.toNat (Config.packed [stBlobInvalid.toNat, 0]) 0 s else s

/-- After the fallback: FALLBACK, event 0xED, its entry, and TRIAL 0 in block 1. -/
def fallBack (addr : Word) (b : Bytes) (s : State) : State :=
  let s := raiseLog 0xED 0x0070 addr.toNat (Config.packed [0, 0]) s.fw.secver { s with fw := { s.fw with fallback := true } }
  vaultBlock1 .trialOff (sealBlock (putAt 7 [0] b)) s

/-- Whether every switched island that is not fenced has started (12 Table 12.4). -/
def islandsStarted (s : State) : Bool :=
  (List.range (islandCount s)).all fun i => (islandAt s i).state = .running || islandFenced s i

/-- SELFTEST reports the fallback of the boot. -/
def reportBack (s : State) : State :=
  match s.fw.backAt with
  | some addr => fallBack addr (block1Of s) { s with fw := { s.fw with backAt := none } }
  | none => s

/-- The core enters SELFTEST once its firmware is authenticated and the last switched island has started (12 Table 12.4). -/
def startSelftest (s : State) : State :=
  if s.modes.mode = .reset && s.modes.authenticated && islandsStarted s
  then reportBack (enterSelftest { s with modes := { s.modes with authenticated := false } }) else s

/-- One attempt of R427; block 1 is read only where K_V is fused, and each read takes a vault nonce. -/
def bootAttempt (block1 : Option Bytes) (images : List FwRead) (s : State) : State :=
  let b := if s.chip.vaultKey.isSome then block1.filter block1Ok else none
  let s := if s.chip.vaultKey.isSome
    then { s with ao := { s.ao with nonceCounter := (s.ao.nonceCounter + 1) % 2 ^ 64 } } else s
  let back := fallsBack s b
  let choice := bootChoice s b images
  let s := if startsTrial s b then { s with ao := { s.ao with trialRun := true } } else s
  match choice with
  | none => bootFailed s
  | some c =>
    let s := runImage c.1 c.2.2 b s
    startSelftest { s with
      modes := { s.modes with authenticated := true, stFail := 0, fwRetryAt := none },
      fw := { s.fw with backAt := if back then some c.2.1 else none } }

/-- Whether the boot ROM runs: in RESET, its island and standard core 0 powered (R426). -/
def bootRuns (s : State) : Bool :=
  s.modes.mode = .reset && (islandAt s 1).state = .running && (islandAt s (islandOf s 4 0)).state = .running

/-- An island the gaffer has started runs; outside a start this is a wake, which WAKES counts (R347). -/
def islandRuns (island : Nat) (s : State) : State :=
  let x := islandAt s island
  setIsland island { x with
    state := .running, idleSince := now s, wakes := if startsIslands s.modes.mode then x.wakes else min (2 ^ 24 - 1) (x.wakes + 1) } s

/-- ISLAND_START_COMPLETE (12 R349): an island the gaffer has started runs; with the last one SELFTEST may begin. -/
def execIslandStartComplete (island : Nat) (s : State) : Outcome :=
  if (islandAt s island).state ≠ .starting then .next s else .next (startSelftest (islandRuns island s))

/-- FIRMWARE_AUTHENTICATED (15 R427, 12 R331). -/
def execFirmwareAuthenticated (block1 : Option Bytes) (images : List FwRead) (s : State) : Outcome :=
  if s.modes.mode = .reset && (islandAt s 1).state = .running && s.chip.retired then .next (changeMode .retired 0 (quietIslands s))
  else if bootRuns s && s.modes.fwRetryAt.isNone && !s.modes.authenticated then .next (bootAttempt block1 images s)
  else .next s

/-- FIRMWARE_RETRY (15 R427): every 1 s. -/
def execFirmwareRetry (block1 : Option Bytes) (images : List FwRead) (s : State) : Outcome :=
  match s.modes.fwRetryAt with
  | some t => if bootRuns s && t ≤ now s then .next (bootAttempt block1 images s) else .next s
  | none => .next s

end Sys2Proof.Machine
end

