-- ==== Sys2Proof/Machine/VaultPort.lean ====
section
/-! DEFINITION. The answers of the vault and what waits for them (14 R391 to R398; 12 R333; 04 R132; 08 R236, R240, R247, R248;
10 R291; 11 R303; 15 R427 to R430). -/

namespace Sys2Proof.Machine

/-! ### What an acknowledged record write brings -/

/-- The record written is in force. -/
def applyChange (c : VaultChange) (s : State) : State :=
  let v := s.vault
  { s with vault := { v with
      epoch := c.epoch.getD v.epoch, ceiling := c.ceiling.getD v.ceiling, floor := c.floor.getD v.floor,
      member := c.member.getD v.member } }

/-- The first DRK generation has ended (14 R396, 12 R345): the enrolled and field-lock fuses are blown. -/
def enrol (s : State) : State := { s with chip := { s.chip with enrolled := true, fieldLock := true } }

/-- The epoch has advanced: the shadow follows the acknowledged epoch (R333), and exports are counted afresh (08 R245). -/
def shadowEpoch (s : State) : State :=
  { s with ao := { s.ao with epochShadow := some (BitVec.ofNat 24 s.vault.epoch), exportNo := 0 } }

/-- The write of a start, or of an enrolment in FACTORY, has been acknowledged. -/
def startAck (c : VaultChange) (s : State) : State :=
  let s := if c.epoch.isSome then shadowEpoch s else s
  match s.modes.mode with
  | .selftest => itemDone .epochCeiling (if c.epoch.isSome then raise 0x27 s else s)
  | .factory => enrol s
  | _ => s

/-- Every slot's local count returns to 0 (04 R132). -/
def clearLocals (s : State) : State :=
  { s with keys := { s.keys with slots := s.keys.slots.foldl (fun m p =>
      tableSet Slot.reset m p.1 { p.2 with localCount := 0 }) [] } }

/-- The epoch advance of a wrap has been acknowledged (04 R132). -/
def wrapAck (s : State) : State :=
  let s := raiseLog 0x63 0x0020 0 (keyValue 0 0 0) 0 (clearLocals (shadowEpoch s))
  endWrap true (carry 6 0 (identBody s) [] s)

/-- The checked KUM no longer waits (08 R236). -/
def kumAck (s : State) : State :=
  match s.keys.run with
  | some (.checked c) => { s with keys := { s.keys with run := some (.checked { c with waiting := false }) } }
  | _ => s

/-- The officer statement in the mailbox (15 R430). -/
def officerInput (s : State) : Bytes := fit 256 s.access.input

/-- SET_OFFICER writes OFFICER_HASH after its ceiling, with UPDATE_NEXT advanced (15 R430). -/
def officerWrite (s : State) : State :=
  let b := officerInput s
  let s := { s with keys := { s.keys with updateNext := (field 8 8 b + 1) % 2 ^ 64 } }
  vaultBlock1 .officer (sealBlock (putAt 0x20 (sha384 (slice 0x40 96 b)) (block1Of s))) s

/-- Whether a package that has been read out waits for its floor write. -/
def packageWaits (s : State) : Bool := s.keys.run.any fun r => match r with
  | .packageWait _ => true
  | _ => false

/-- What one waiter gets from an acknowledged record write. -/
def waiterAck (c : VaultChange) (w : VaultWaiter) (s : State) : State :=
  match w with
  | .start => startAck c s
  | .wrap => wrapAck s
  | .kum => kumAck s
  | .floor => if s.keys.run = some .floorWait then kmEnd 0 0 s else s
  | .package => if packageWaits s then kmEnd 0 0 (raise 0x68 s) else s
  | .remove => if s.sheets.busy then csEnd 0 0 { s with sheets := { s.sheets with busy := false } } else s
  | .officer => if s.access.run = some .writing then officerWrite s else s

/-- A record write acknowledged: floor and member changes raise their events. -/
def recordAck (c : VaultChange) (s : State) : State :=
  let s := applyChange c s
  let s := if c.floor.isSome then raise 0x6A s else s
  let s := if c.member.isSome then memberChanged s else s
  c.waiters.foldl (fun t w => waiterAck c w t) s

/-! ### What a failed record write brings (14 R393) -/

/-- The KUM that waited fails check 16 of 08 Table 8.7. -/
def kumFail (s : State) : State :=
  match s.keys.run with
  | some (.checked c) => kmEnd stFaultDetected 0x10
      (raiseLog 0x61 0x0020 c.slot (keyValue stFaultDetected 0x10 c.kind) c.counter s)
  | _ => s

/-- What one waiter gets from a failed record write. -/
def waiterFail (w : VaultWaiter) (s : State) : State :=
  match w with
  | .start => if s.modes.mode = .selftest then stFailure 3 s else s
  | .wrap => endWrap false (raiseLog 0x64 0x0020 0 (keyValue stFaultDetected 0 0) 0 s)
  | .kum => kumFail s
  | .floor => if s.keys.run = some .floorWait then kmEnd stFaultDetected 0x10 s else s
  | .package => if packageWaits s then kmEnd stFaultDetected 0x10 s else s
  | .remove => if s.sheets.busy then csEnd stFaultDetected 0 { s with sheets := { s.sheets with busy := false } } else s
  | .officer => if s.access.run = some .writing then logAccess 2 stFaultDetected (acEnd stFaultDetected s) else s

/-! ### Block 1 -/

/-- A FIRMWARE entry: image address, status and REASON, SECURITY_VERSION. -/
def logFirmware (event : Option Nat) (addr : Nat) (st : Status) (secver : Nat) (s : State) : State :=
  match event with
  | some e => raiseLog e 0x0070 addr (Config.packed [st.toNat, 0]) secver s
  | none => logPlain 0x0070 addr (Config.packed [st.toNat, 0]) secver s

/-- A firmware command ends. -/
def fwEnd (st : Status) (s : State) : State := { s with fw := { s.fw with run := none, result := st } }

/-- The address of the image that runs, where its slot is named. -/
def runningAddr (s : State) : Nat := (b1Addr s.fw.runningB (block1Of s)).toNat

/-- A write of block 1 has been acknowledged, or has failed. -/
def block1End (why : Block1Why) (data : Bytes) (ok : Bool) (s : State) : State :=
  let st : Status := if ok then 0 else stFaultDetected
  let s := if ok then { s with fw := { s.fw with block1 := some data } } else s
  match why with
  | .trialOff => s
  | .stage => match s.fw.run with
    | some (.staging addr sv) => logFirmware (if ok then some 0xEC else none) addr.toNat st sv (fwEnd st s)
    | _ => s
  | .confirm =>
    if s.fw.run = some .confirming then
      let s := if ok then { s with ao := { s.ao with trialRun := false } } else s
      logFirmware (if ok then some 0xEE else none) (runningAddr s) st s.fw.secver (fwEnd st s)
    else s
  | .password => if s.access.run = some .writing then logAccess 1 st (acEnd st s) else s
  | .officer => if s.access.run = some .writing then logAccess 2 st (acEnd st s) else s

/-! ### Reading the record at a start (12 R333, R334) -/

/-- The record that passed its check is taken up, and the start's write is queued: UPDATE_NEXT is the ceiling read (08 R236), the epoch is
advanced unless it is the last, and the TAG key, with the permutation of the cells, and the blinding values of the IDK check are derived from
what is written (R334). -/
def takeRecord (b : Bytes) (s : State) : State :=
  let epoch := field 8 3 b
  let ceiling := field 0x10 8 b
  let last := epoch = 0xFFFFFF
  let next := if last then epoch else epoch + 1
  let raised := (ceiling + 1024) % 2 ^ 64
  let derive := fun (label : String) (n : Nat) => s.ao.drk.map fun k => kdfCounter k (ascii label) (toBe 3 next ++ toBe 8 raised) n
  let s := { s with
    vault := { s.vault with epoch := epoch, ceiling := ceiling, floor := field 0x18 8 b, member := field 6 2 b },
    keys := { s.keys with
      updateNext := ceiling, tagKey := derive "TX7 CELL" 32, idkBlind := derive "TX7 ST BLIND" (8 + Config.blindingBytes 0) } }
  let s := if last then raise 0x28 s else s
  itemDone .vault (vaultChange { VaultChange.none with
    epoch := if last then none else some next, ceiling := some raised, waiters := [.start] } s)

/-- Whether a record may be taken up: it passes its check, and its epoch is not below the shadow. -/
def recordUsable (s : State) (b : Bytes) : Bool := recordOk b && s.ao.epochShadow.all fun e => e.toNat ≤ field 8 3 b

/-- The vault record has been read. -/
def recordRead (b : Bytes) (s : State) : State :=
  if s.modes.mode ≠ .selftest then s else if recordUsable s b then takeRecord b s else stFailure 2 s

/-! ### The response (14 R392, R393, R398) -/

/-- The outcome of an access whose response is accepted. -/
def vaultDone (why : VaultWhy) (sent data : Bytes) (s : State) : State :=
  match why with
  | .readRecord => recordRead data s
  | .writeRecord c => recordAck c s
  | .writeBlock1 w => block1End w (slice 0x18 128 sent) true s
  | .programKey => vaultChange { VaultChange.none with epoch := some 1, ceiling := some 1024, floor := some 0, waiters := [.start] } s

/-- The outcome of an access that has failed; a failed PROGRAM_KEY fails the enrolment (R396). -/
def vaultLost (r : VaultReq) (s : State) : State :=
  match r.why with
  | .readRecord => if s.modes.mode = .selftest then stFailure 2 s else s
  | .writeRecord c => c.waiters.foldl (fun t w => waiterFail w t) s
  | .writeBlock1 w => block1End w (slice 0x18 128 r.message) false s
  | .programKey => s

/-- No request is outstanding. -/
def vaultClear (s : State) : State := { s with vault := { s.vault with outstanding := none } }

/-- The access has failed: event 0xE9, an entry, its outcome, and the next request. -/
def vaultFails (r : VaultReq) (s : State) : State := vaultPump (vaultLost r (vaultFailed (vaultClear s)))

/-- The one reissue, with a fresh nonce. -/
def vaultReissue (r : VaultReq) (s : State) : State :=
  vaultSend r.why true (byteAt 0 r.message) (byteAt 2 r.message) (slice 0x18 128 r.message) s

/-- Whether a response verifies under K_V. -/
def vaultMacOk (s : State) (m : Bytes) : Bool :=
  m.length = 184 && s.chip.vaultKey.any fun k => hmac 2 k (m.take 0x98) = m.drop 0x98

/-- Whether CMD, BLOCK and NONCE match the request. -/
def vaultMatches (r : VaultReq) (m : Bytes) : Bool :=
  byteAt 0 m = byteAt 0 r.message + 0x80 && byteAt 2 m = byteAt 2 r.message && slice 8 16 m = slice 8 16 r.message

/-- A WRITE response carries the request's WCOUNT + 1. -/
def vaultCountOk (r : VaultReq) (m : Bytes) : Bool :=
  byteAt 0 r.message ≠ 2 || decide (field 4 4 m = field 4 4 r.message + 1)

/-- WCOUNT of a response kept, and compared with the write budget (R398). -/
def noteCount (m : Bytes) (s : State) : State :=
  let n := field 4 4 m
  let s := { s with vault := { s.vault with wcount := n } }
  let s := if 90000 ≤ n && !s.vault.warned90 then raise 0xE7 { s with vault := { s.vault with warned90 := true } } else s
  if 100000 ≤ n && !s.vault.warned100 then raise 0xE8 { s with vault := { s.vault with warned100 := true } } else s

/-- A response that matches its request. -/
def vaultAnswered (r : VaultReq) (m : Bytes) (s : State) : State :=
  if byteAt 1 m = 5 && !r.reissued then vaultReissue r s
  else if byteAt 1 m = 0 && vaultCountOk r m then vaultPump (vaultDone r.why r.message (slice 0x18 128 m) (vaultClear s))
  else vaultFails r s

/-- VAULT_RESPONSE (R392, R393). -/
def execVaultResponse (message : Bytes) (s : State) : Outcome :=
  match s.vault.outstanding with
  | none => .next s
  | some r =>
    if !managementRuns s.modes.mode then .next s
    else if !vaultMacOk s message then .next (vaultFails r s)
    else
      let s := noteCount message s
      .next (if vaultMatches r message then vaultAnswered r message s else vaultFails r s)

/-- VAULT_TIMEOUT (R393): 100 ms after the last request word. -/
def execVaultTimeout (s : State) : Outcome :=
  match s.vault.outstanding with
  | none => .next s
  | some r =>
    if !managementRuns s.modes.mode || now s < r.sentAt + 100000 then .next s
    else .next (if r.reissued then vaultFails r s else vaultReissue r s)

end Sys2Proof.Machine
end

