-- ==== Sys2Proof/Machine/Flags.lean ====
section
/-! DEFINITION. The register windows as they read: every status word composed of its fields, and the maps of the Manager and the tenant
windows (13 R353 to R356, R367 to R370; 02 Table 2.9 to 2.11; 06 Table 6.9 to 6.12; 08 Table 8.11, 8.12, 8.17; 09 Table 9.4, 9.5;
10 Table 10.1, 10.2, 10.6, 10.7, 10.9, 10.11; 11 Table 11.1 to 11.3; 12 Table 12.1, 12.2, 12.8; 15 Table 15.9, 15.10; 16 Table 16.3,
16.4). -/

namespace Sys2Proof.Machine

/-- A register word of a number. -/
def word (n : Nat) : Word := BitVec.ofNat 64 n

/-! ### Identity and management (13 Table 13.4, 13.5) -/

/-- IDENT. -/
def identWord (s : State) : Word := word (0xAB0B480700010000 + configCode s * 2 ^ 24)

/-- CAPS. -/
def capsWord (s : State) : Word :=
  word (tenantsLog s * 2 ^ 59 + reelsLog s * 2 ^ 54 + cacheLog s * 2 ^ 49 + perSize s 4 6 8 * 2 ^ 45 + perSize s 5 7 9 * 2 ^ 41 +
    engineCount s * 2 ^ 37 + perSize s 2 4 6 * 2 ^ 33 + standardCount s * 2 ^ 26 + shieldedCount s * 2 ^ 23 + slotsLog s * 2 ^ 18 +
    islandCount s * 2 ^ 11)

/-- LOCK_STATE. -/
def lockWord (s : State) : Word :=
  let r := s.regs
  word (r.deniedCount.toNat * 2 ^ 48 + r.deniedOffset.toNat * 2 ^ 24 + r.deniedSrc.toNat * 2 ^ 18 + flagAt 17 r.denied + flagAt 16 r.badKey +
    flagAt 1 (lockOpen .mp s) + flagAt 0 (lockOpen .manager s))

/-- VOTE_STATUS. -/
def voteWord (s : State) : Word :=
  let r := s.regs
  word (r.voteCount.toNat * 2 ^ 48 + flagAt 47 r.voteFlag + r.voteArea.toNat * 2 ^ 40 + r.voteCopy.toNat * 2 ^ 36 + r.voteWhere.toNat)

/-- MODE (12 Table 12.2). -/
def modeWord (s : State) : Word :=
  let m := s.modes
  word (m.stFail.toNat * 2 ^ 48 + fencedByte s * 2 ^ 40 + modeCode m.prev * 2 ^ 20 + flagAt 16 m.pending.isSome +
    (m.pending.map modeCode).getD 0 * 2 ^ 4 + modeShown s)

/-- MODE_REQ (12 Table 12.2). -/
def modeReqWord (s : State) : Word :=
  let m := s.modes
  word (m.result.toNat * 2 ^ 16 + flagAt 15 m.busy + flagAt 14 m.lost + flagAt 13 m.armed.isSome + flagAt 4 m.drain + m.target.toNat)

/-! ### Events (13 Table 13.8, 13.9) -/

/-- EVT_SUMMARY. -/
def summaryWord (s : State) : Word :=
  let live := s.events.status &&& s.events.enable
  word ((List.range 8).foldl (fun a g => a + flagAt g ((List.range 32).any fun i => live.getLsbD (32 * g + i))) 0)

/-- EVT_LOST. -/
def evtLostWord (s : State) : Word :=
  word (s.events.lostCount.toNat * 2 ^ 48 + flagAt 47 s.events.lostFlag + s.events.lostVector.toNat)

/-- A word of a vector. -/
def vectorWord (s : State) (v : Nat) (upper : Bool) : Word :=
  let x := vecOf s v
  if upper then word (x.data.toNat + flagAt 32 x.port + flagAt 33 x.masked) else x.addr

/-! ### Tenants (10) -/

/-- CS_STATUS. -/
def csStatusWord (s : State) : Word :=
  let c := s.sheets
  word (flagAt 63 c.busy + flagAt 62 c.lost + c.reason * 2 ^ 24 + c.result.toNat)

/-- MIG_STATUS. -/
def migStatusWord (s : State) : Word :=
  let c := s.sheets
  word (flagAt 63 c.closing.isSome + flagAt 62 c.migLost + flagAt 61 c.migLogging + flagAt 60 c.migActiveB + flagAt 59 c.migClosed +
    flagAt 58 c.migIncomplete + c.migResult.toNat)

/-- POOL registers: TOTAL and ALLOTTED. -/
def poolWord (s : State) (i : Nat) : Word :=
  match (pools s)[i]? with
  | some p => word (p.1 + allotted s p.2 * 2 ^ 32)
  | none => 0

/-- T_STATUS (10 Table 10.2). -/
def tStatusWord (s : State) (f : Nat) : Word :=
  let t := tenantOf s f
  word ((s.takes.filter fun x => x.tenant = f).length * 2 ^ 48 + flagAt 10 (t.round.pkRate ≠ 0 && decide (t.pkLevel ≤ 0)) +
    flagAt 9 (t.round.byteRate ≠ 0 && decide (t.byteLevel ≤ 0)) + flagAt 8 (t.round.takeRate ≠ 0 && decide (t.takeLevel ≤ 0)) +
    flagAt 7 t.sheet.shielded + tenantStateCode t.state * 2 ^ 4 + modeShown s)

/-- RC_STATUS (02 Table 2.10). -/
def rcStatusWord (x : ReelBox) : Word := word (flagAt 63 x.busy + flagAt 62 x.lost + x.result.toNat)

/-- RC_DB_ERR (02 Table 2.11). -/
def dbErrWord (x : ReelBox) : Word :=
  word (flagAt 62 x.dbPresent + flagAt 61 x.dbDailies + x.dbReason.toNat * 2 ^ 57 + x.dbCount.toNat * 2 ^ 37 + x.dbLast.toNat)

/-- AT_STATUS (08 Table 8.17): a command is answered at once here, so BUSY reads 0. -/
def atStatusWord (x : AttestBox) : Word := word (flagAt 62 x.done + x.result.toNat)

/-! ### Gaffer (12 Table 12.8) -/

/-- Whether an island has power. -/
def islandPowered (s : State) (i : Nat) : Bool :=
  !islandFenced s i && match (islandAt s i).state with
    | .starting | .running | .clockGated => true
    | _ => false

/-- GF_STATUS. -/
def gfStatusWord (s : State) : Word :=
  let is := List.range (islandCount s)
  let queue := is.filter (waitsStart s)
  let starting := is.any fun i => (islandAt s i).state = .starting
  word (islandCount s * 2 ^ 40 + (is.filter (islandPowered s)).length * 2 ^ 32 +
    (is.filter fun i => (islandAt s i).state = .running && !islandFenced s i).length * 2 ^ 24 +
    queue.length * 2 ^ 16 + flagAt 0 (starting || !queue.isEmpty))

/-- STATE of an island. -/
def islandCode (s : State) (i : Nat) : Nat :=
  if islandFenced s i then 6
  else match (islandAt s i).state with
    | .off => 0 | .starting => 1 | .running => 2 | .clockGated => 3 | .powerGated => 4 | .retained => 5

/-- The units FIRST and COUNT name: fabric ports 0 and 1, the RNG, and the units of the other kinds. -/
def namedUnits (s : State) (i : Nat) : List Nat :=
  match i with
  | 3 => [0]
  | 4 => [1]
  | 6 => [0]
  | _ => unitsIn s i

/-- GF_ISLANDi. -/
def gfIslandWord (s : State) (i : Nat) : Word :=
  if islandCount s ≤ i then 0
  else word ((islandAt s i).wakes * 2 ^ 40 + (namedUnits s i).headD 0 * 2 ^ 20 + (namedUnits s i).length * 2 ^ 12 + islandKind s i * 2 ^ 8 +
    islandCode s i)

/-! ### RNG (09 Table 9.5) -/

/-- STATE of a source. -/
def sourceCode : SourceState → Nat
  | .trim => 0 | .startup => 1 | .contrib => 2 | .failed => 3

/-- STATE of the RNG. -/
def rngCode : RngState → Nat
  | .starting => 0 | .ready => 1 | .failed => 2 | .stalled => 3

/-- RNG_STATUS. -/
def rngStatusWord (s : State) : Word :=
  let map := fun (p : Nat → Bool) (o : Nat) => (List.range 16).foldl (fun a i => a + flagAt (o + i) (p i)) 0
  word (map (contributes s) 32 + map (fun i => (sourceOf s i).state = .failed) 16 + s.rng.cause * 2 ^ 8 + healthyCount s * 2 ^ 3 +
    rngCode s.rng.state)

/-- RNG_COUNT. -/
def rngCountWord (s : State) : Word := word (s.rng.reseeds * 2 ^ 32 + s.rng.buffer.length / 64)

/-- RNG_SRCi. -/
def rngSrcWord (s : State) (i : Nat) : Word :=
  let x := sourceOf s i
  word (x.reason * 2 ^ 32 + x.ones * 2 ^ 21 + sourceCode x.state * 2 ^ 14 + x.trim)

/-- RNG_RAW: the last 64 samples of the selected source, in FACTORY only. -/
def rngRawWord (s : State) : Word :=
  if s.modes.mode ≠ .factory then 0
  else if s.rng.pattern then
    let n := now s - s.rng.patternAt
    word ((patternSamples s s.rng.rawSel.toNat (n - 64) (min n 64)).foldl (fun a b => 2 * a + b2n b) 0)
  else wordAt 0 (fit 8 (Config.rawSamples s.free 8))

/-! ### Key store and direct-feed port -/

/-- KM_STATUS (08 Table 8.12). -/
def kmStatusWord (s : State) : Word :=
  let k := s.keys
  word (flagAt 63 k.run.isSome + flagAt 62 k.lost + flagAt 61 (!k.output.isEmpty) + k.outLen * 2 ^ 32 + k.reason * 2 ^ 21 + k.result.toNat)

/-- OWNER of the direct-feed port. -/
def ownerCode : Option Source → Nat
  | some x => srcCode x
  | none => 0

/-- DD_STATUS (06 Table 6.11). -/
def ddStatusWord (s : State) : Word :=
  let d := s.direct
  word (d.doneSeq.toNat * 2 ^ 16 + d.flagSrc.toNat * 2 ^ 10 + flagAt 9 d.noMessage + flagAt 8 d.badAlg + flagAt 7 d.timedOut +
    flagAt 6 d.ownedByOther + flagAt 5 d.lengthMismatch + flagAt 4 d.done + ownerCode d.owner * 2 ^ 2 + flagAt 1 d.active + flagAt 0 d.busy)

/-! ### Management (15 Table 15.10) -/

/-- LB_STATUS. -/
def lbStatusWord (s : State) : Word :=
  let l := s.log
  word (flagAt 63 (checkpointBusy s) + flagAt 62 l.miss + flagAt 61 l.overwrote + l.lost.toNat * 2 ^ 32 + l.result.toNat)

/-- TP_STATUS. -/
def tpStatusWord (s : State) : Word :=
  let a := s.ao
  let n := s.sens
  let faults := (List.range 8).foldl (fun b i => b + flagAt (48 + i) (a.meshFault.getD i 0 ≠ 0)) 0
  word (faults + a.meshDrift.toNat * 2 ^ 40 + flagAt 31 a.strikeFlag + flagAt 30 a.verified + a.lastCause.toNat * 2 ^ 16 +
    flagAt 7 n.lightWarn + flagAt 6 n.aoWarn + flagAt 5 n.feedWarn + flagAt 4 n.tempWarn + flagAt 0 n.warn)

/-- TP_COUNT. -/
def tpCountWord (s : State) : Word := word (s.ao.warns * 2 ^ 32 + s.ao.guards * 2 ^ 16 + s.ao.strikes)

/-- A signed or unsigned measurement as 16 bits. -/
def half (v : Int) : Nat := (BitVec.ofInt 16 v).toNat

/-- SENS_TEMP. -/
def sensTempWord (s : State) : Word := word ((List.range 4).foldl (fun a i => a + half (s.sens.temps.getD i 0) * 2 ^ (16 * i)) 0)

/-- SENS_SUPPLY. -/
def sensSupplyWord (s : State) : Word := word (half s.sens.vddAo * 2 ^ 32 + half s.sens.vddSram * 2 ^ 16 + half s.sens.vddCore)

/-- SENS_MISC: LIGHT saturates. -/
def sensMiscWord (s : State) : Word :=
  let n := s.sens
  word (half n.refclk * 2 ^ 48 + min 0xFFFF n.light.toNat * 2 ^ 32 + half n.feedB * 2 ^ 16 + half n.feedA)

/-- TP_MESHi. -/
def tpMeshWord (s : State) (i : Nat) : Word :=
  let f := (s.ao.meshFault.getD i 0).toNat
  word ((s.ao.baseline.getD i 0).toNat * 2 ^ 48 + (s.ao.resist.getD i 0).toNat * 2 ^ 32 + f * 2 ^ 16 +
    (if f ≠ 0 then 2 else b2n (s.ao.meshDrift.getLsbD i)))

/-- FW_STATUS. -/
def fwStatusWord (s : State) : Word :=
  let f := s.fw
  word (flagAt 63 f.run.isSome + flagAt 62 f.lost + flagAt 61 f.runningB + flagAt 60 (b1ActiveB (block1Of s)) +
    flagAt 59 (b1Trial (block1Of s)) + flagAt 58 s.ao.trialRun + flagAt 57 f.fallback + f.result.toNat)

/-- Whether a password lockout runs (15 R429). -/
def diagLocked (s : State) : Bool := s.ao.lockedUntil.any fun t => s.ao.time < t

/-- AC_STATUS. -/
def acStatusWord (s : State) : Word :=
  let a := s.access
  word (flagAt 63 a.run.isSome + flagAt 62 a.lost + flagAt 61 (!a.output.isEmpty) + flagAt 60 a.challenge.isSome + flagAt 59 a.diag.isSome +
    flagAt 58 (diagLocked s) + a.attempts * 2 ^ 56 + a.outLen * 2 ^ 32 + a.result.toNat)

/-! ### Twin (11 Table 11.3) -/

/-- LINK. -/
def linkCode : Link → Nat
  | .off => 0 | .wait => 1 | .handshake => 2 | .sync => 3 | .paired => 4

/-- Whether the AUX pair serves the maintenance console (11 R305). -/
def auxConsole (s : State) : Bool := !auxIsLink s && managementUp s

/-- ML_STATUS. The feeds show once the management island, which holds the register, runs: at reset it reads 0 (Table 11.2). -/
def mlStatusWord (s : State) : Word :=
  let t := s.twin
  word (t.lossCause * 2 ^ 16 + t.refuse * 2 ^ 12 + flagAt 11 (managementUp s && t.feedB ≠ .lost) +
    flagAt 10 (managementUp s && t.feedA ≠ .lost) + flagAt 9 (auxConsole s) +
    flagAt 8 (portBUp s) + flagAt 7 t.upA + linkCode t.link * 2 ^ 4 + roleCode t.role)

/-- ML_PEER. -/
def mlPeerWord (s : State) : Word := word (s.twin.peerMember * 2 ^ 32 + s.twin.peerEpoch)

/-- ML_COUNTS. -/
def mlCountsWord (s : State) : Word :=
  let t := s.twin
  word (t.losses.toNat * 2 ^ 48 + t.replaced.toNat * 2 ^ 32 + t.conflicts.toNat * 2 ^ 16 + t.rejected.toNat)

/-! ### Units (16 Table 16.4) -/

/-- Word w of a bit map. -/
def mapWord {n : Nat} (m : BitVec n) (w : Nat) : Word := word (m.toNat / 2 ^ (64 * w))

/-- US_STATUS. -/
def usStatusWord (s : State) : Word := word (flagAt 62 s.units.lost + s.units.result.toNat)

/-- US_COUNT. -/
def usCountWord (s : State) : Word :=
  let u := s.units
  word (u.fences.toNat * 2 ^ 48 + u.unfences.toNat * 2 ^ 32 + u.retries.toNat * 2 ^ 16 + u.limited.toNat)

/-- US_MISC. -/
def usMiscWord (s : State) : Word := word (flagAt 2 (rngFailed s) + flagAt 1 s.fabric.port1.fenced + flagAt 0 s.fabric.port0.fenced)

/-! ### The Manager window (13 Table 13.6) -/

/-- Registers below 0x0_2000. -/
def readLow (s : State) (o : Nat) : Word :=
  let e := s.events
  if o = 0x00 then identWord s else if o = 0x08 then capsWord s else if o = 0x18 then lockWord s
  else if o = 0x20 then modeWord s else if o = 0x28 then modeReqWord s else if o = 0x30 then s.regs.fwVersion
  else if o = 0x38 then s.regs.coreTime else if o = 0x40 then twinCfg s else if o = 0x48 then voteWord s
  else if 0x100 ≤ o ∧ o < 0x120 then mapWord e.status ((o - 0x100) / 8)
  else if 0x120 ≤ o ∧ o < 0x140 then mapWord e.enable ((o - 0x120) / 8)
  else if 0x140 ≤ o ∧ o < 0x180 then mapWord e.route ((o - 0x140) / 8)
  else if o = 0x180 then summaryWord s else if o = 0x190 then evtLostWord s else if o = 0x198 then word (b2n e.msgEn)
  else if 0x1000 ≤ o ∧ o < 0x2000 then vectorWord s ((o - 0x1000) / 16) ((o - 0x1000) / 8 % 2 = 1)
  else 0

/-- Registers from 0x0_2000 to 0x0_6FFF; KM_DATA is read by its own command. -/
def readMid (s : State) (o : Nat) : Word :=
  if 0x2000 ≤ o ∧ o ≤ 0x2040 then poolWord s ((o - 0x2000) / 8)
  else if o = 0x3000 then s.sheets.cmd else if o = 0x3008 then csStatusWord s
  else if 0x3040 ≤ o ∧ o < 0x30C0 then wordAt ((o - 0x3040) / 8) s.sheets.data
  else if 0x3100 ≤ o ∧ o < 0x3160 then wordAt ((o - 0x3100) / 8) s.sheets.key
  else if o = 0x4000 then gfCtrl s else if o = 0x4008 then gfStatusWord s
  else if 0x4100 ≤ o ∧ o < 0x4500 then gfIslandWord s ((o - 0x4100) / 8)
  else if o = 0x5000 then word (flagAt 2 s.rng.pattern) else if o = 0x5008 then rngStatusWord s
  else if o = 0x5010 then word (rngCfgValue s) else if o = 0x5018 then word s.rng.period.toNat
  else if o = 0x5020 then rngCountWord s
  else if 0x5040 ≤ o ∧ o < 0x50C0 then rngSrcWord s ((o - 0x5040) / 8)
  else if o = 0x50C0 then s.rng.seedReg else if o = 0x50C8 then rngRawWord s else if o = 0x50D0 then word s.rng.rawSel.toNat
  else if o = 0x6000 then word s.keys.cmd.toNat else if o = 0x6008 then word s.keys.len.toNat
  else if o = 0x6018 then kmStatusWord s else if o = 0x6020 then word s.keys.updateNext else if o = 0x6028 then word s.vault.floor
  else if o = 0x6030 then s.keys.arg else if o = 0x6038 then word s.vault.epoch
  else if 0x6040 ≤ o ∧ o < 0x6070 then wordAt ((o - 0x6040) / 8) (idkHash s)
  else 0

/-- The LOGBOOK block; AC_DATA has no read here (log 34). -/
def readLogbook (s : State) (o : Nat) : Word :=
  let l := s.log
  if o = 0x7000 then word l.head else if o = 0x7008 then word l.tail else if o = 0x7010 then l.ack else if o = 0x7018 then l.sel
  else if o = 0x7020 then lbStatusWord s
  else if 0x7030 ≤ o ∧ o < 0x7040 then wordAt ((o - 0x7030) / 8) l.chain
  else if 0x7040 ≤ o ∧ o < 0x7080 then wordAt ((o - 0x7040) / 8) l.entry
  else if 0x7080 ≤ o ∧ o < 0x70E0 then wordAt ((o - 0x7080) / 8) l.sig
  else if o = 0x7100 then tpStatusWord s else if o = 0x7108 then tpCountWord s else if o = 0x7110 then sensTempWord s
  else if o = 0x7118 then sensSupplyWord s else if o = 0x7120 then sensMiscWord s
  else if 0x7140 ≤ o ∧ o < 0x7180 then tpMeshWord s ((o - 0x7140) / 8)
  else if o = 0x7200 then word s.fw.cmd.toNat else if o = 0x7208 then s.fw.arg else if o = 0x7210 then fwStatusWord s
  else if o = 0x7218 then word (b1Floor (block1Of s)) else if o = 0x7220 then b1Addr false (block1Of s)
  else if o = 0x7228 then b1Addr true (block1Of s) else if o = 0x7230 then word s.fw.secver
  else if o = 0x7300 then word s.access.cmd.toNat else if o = 0x7308 then s.access.len else if o = 0x7318 then acStatusWord s
  else 0

/-- Registers from 0x0_8000 on. -/
def readHigh (s : State) (o : Nat) : Word :=
  let u := s.units
  let t := s.twin
  let d := s.direct
  if o = 0x8000 then u.cmd else if o = 0x8008 then usStatusWord s else if o = 0x8010 then u.last else if o = 0x8018 then usCountWord s
  else if 0x8100 ≤ o ∧ o < 0x8120 then mapWord u.seq ((o - 0x8100) / 8)
  else if 0x8200 ≤ o ∧ o < 0x8240 then mapWord u.lane ((o - 0x8200) / 8)
  else if o = 0x8300 then mapWord u.engine 0 else if o = 0x8308 then mapWord u.digest 0 else if o = 0x8310 then mapWord u.standard 0
  else if o = 0x8318 then mapWord u.shielded 0 else if o = 0x8320 then usMiscWord s
  else if o = 0x9000 then s.sheets.migCmd else if o = 0x9008 then migStatusWord s
  else if o = 0xA000 then mlStatusWord s else if o = 0xA008 then word t.tx else if o = 0xA010 then word t.commit
  else if o = 0xA018 then word t.applied else if o = 0xA020 then word t.rx else if o = 0xA028 then mlPeerWord s
  else if o = 0xA030 then mlCountsWord s
  else if 0xA040 ≤ o ∧ o < 0xA0A0 then wordAt ((o - 0xA040) / 8) t.peerKey
  else if 0xA0A0 ≤ o ∧ o < 0xA0D0 then wordAt ((o - 0xA0A0) / 8) t.peerHash
  else if o = 0xF000 then word (d.alg.toNat * 16) else if o = 0xF008 then word d.len.toNat else if o = 0xF018 then ddStatusWord s
  else if o = 0xF020 then word d.seq.toNat else if o = 0xF028 then word d.words
  else if 0xF040 ≤ o ∧ o < 0xF080 then wordAt ((o - 0xF040) / 8) d.digest
  else 0

/-- A register of the Manager window at an offset aligned to 8; zero where none lies. -/
def readManager (s : State) (o : Nat) : Word :=
  if o % 8 ≠ 0 then 0 else if o < 0x2000 then readLow s o else if o < 0x7000 then readMid s o else if o < 0x8000 then readLogbook s o
  else readHigh s o

/-- Whether a mode lets the Manager read a register (12 Table 12.3). -/
def readableIn (m : Mode) (o : Nat) : Bool :=
  match m with
  | .hold | .drowse => false
  | .reset => o = 0 || o = 8 || o = 0x20 || o = 0x28
  | .retired => o = 0 || o = 8 || o = 0x20 || (0x7000 ≤ o && o < 0x8000)
  | _ => true

/-- The Manager's read of a register: zero where the mode excludes it (13 R356). -/
def managerRead (s : State) (o : Nat) : Word := if readableIn s.modes.mode o then readManager s o else 0

/-! ### The tenant windows (13 Table 13.7) -/

/-- A register of a tenant's window at an offset aligned to 8. -/
def readTenant (s : State) (f o : Nat) : Word :=
  let t := tenantOf s f
  let x := t.sheet
  let c := t.rc
  let a := t.attest
  if t.state = .free then 0
  else if o = 0x00 then word (x.arena.toNat / 4096 * 4096 + functionShown s f) else if o = 0x08 then tStatusWord s f
  else if o = 0x10 then word (x.dailies * 2 ^ 21 + x.reels) else if o = 0x18 then word (x.slots * 2 ^ 32 + x.slotBase)
  else if o = 0x20 then word (x.parkTimeout * 2 ^ 32 + x.retry * 2 ^ 17 + x.budget)
  else if o = 0x200 then c.command else if o = 0x208 then c.arg0 else if o = 0x210 then c.arg1 else if o = 0x218 then c.arg2
  else if o = 0x220 then c.arg3 else if o = 0x228 then rcStatusWord c else if o = 0x230 then c.result0 else if o = 0x238 then c.result1
  else if o = 0x240 then dbErrWord c
  else if o = 0x1008 then a.arg else if o = 0x1010 then atStatusWord a
  else if 0x1020 ≤ o ∧ o < 0x1040 then wordAt ((o - 0x1020) / 8) a.chal
  else if 0x1040 ≤ o ∧ o < 0x1070 then wordAt ((o - 0x1040) / 8) a.resp
  else if o = 0x1070 then word a.mode.toNat else if o = 0x1078 then a.fwver
  else if 0x1080 ≤ o ∧ o < 0x10B0 then wordAt ((o - 0x1080) / 8) a.digest
  else 0

end Sys2Proof.Machine
end

