-- ==== Sys2Proof/Machine/FwUpdate.lean ====
section
/-! DEFINITION. Firmware update: STAGE and CONFIRM (15 R428). -/

namespace Sys2Proof.Machine

/-- The modes that permit STAGE. -/
def stageMode (m : Mode) : Bool := serves m || m = .maintenance

/-- Block 1 with the other slot's address set and TRIAL 1. -/
def stagedBlock (addr : Word) (b : Bytes) : Bytes :=
  sealBlock (putAt 7 [1] (putAt (if b1ActiveB b then 0x08 else 0x10) (toLe 8 addr.toNat) b))

/-- A firmware command ends at once, with its entry for an image address. -/
def fwRefuseAt (addr : Word) (st : Status) (s : State) : State := logFirmware none addr.toNat st 0 (fwEnd st s)

/-- A firmware command ends at once, with its entry. -/
def fwRefuse (st : Status) (s : State) : State := fwRefuseAt s.fw.arg st s

/-- The image has been read: its checks, and the write of block 1. Without K_V no vault write can be made (14 R396). -/
def stageImage (addr : Word) (b : Bytes) (s : State) : State :=
  match fwCheck s addr (b1Floor (block1Of s)) (.image b) with
  | .error st => fwRefuseAt addr st s
  | .ok b =>
    if s.chip.vaultKey.isNone then fwRefuseAt addr stFaultDetected s
    else vaultBlock1 .stage (stagedBlock addr (block1Of s)) { s with fw := { s.fw with run := some (.staging addr (field 0x10 4 b)) } }

/-- The status of an image whose read has failed: a check of its header that fails comes first (R428). -/
def readFailure (s : State) (b : Bytes) (st : Status) : Status :=
  if b.length < 0x110 then st
  else match fwHeaderCheck s b with
    | some e => e
    | none => if field 0x10 4 b < b1Floor (block1Of s) then stBlobInvalid else st

/-- How many bytes of an image the MP has to read: the header first, then what a well-formed header names. -/
def imageWanted (b : Bytes) : Nat := if b.length < 0x110 then 0x110 else if fwHeaderOk b then fwLength b else 0x110

/-- The length of the next read of an image: it spans no 64-byte boundary (14 R377). -/
def imageChunk (addr : Word) (got : Bytes) : Nat :=
  min (64 - (addr + BitVec.ofNat 64 got.length).toNat % 64) (imageWanted got - got.length)

/-- The MP's next move in STAGE: the next read as function 0x401 (14 R383), one at a time (log 31), or the end of the reading.
It runs as long as its island does. -/
def stageStep (s : State) : State :=
  match s.fw.run with
  | some (.reading addr got) =>
    if !managementUp s || (allRequests s).any fun r => r.purpose = .imageRead then s
    else if got.length < imageWanted got then
      issueRead (addr + BitVec.ofNat 64 got.length) (imageChunk addr got) 0x401 0 .imageRead s
    else stageImage addr got s
  | some (.readFailed addr got st) => if managementUp s then fwRefuseAt addr (readFailure s got st) s else s
  | _ => s

/-- STAGE of the image at FW_ARG. -/
def stageRun (s : State) : State :=
  if !stageMode s.modes.mode then fwRefuse stModeDenied s
  else if s.fw.arg.toNat % 4096 ≠ 0 then fwRefuse stBlobInvalid s
  else stageStep { s with fw := { s.fw with run := some (.reading s.fw.arg []) } }

/-- Block 1 with the running slot ACTIVE, TRIAL 0, and FLOOR raised where the image asks for it. -/
def confirmedBlock (s : State) : Bytes :=
  let b := block1Of s
  let floor := if s.fw.raiseFloor then max (b1Floor b) s.fw.secver else b1Floor b
  sealBlock (putAt 0x18 (toLe 4 floor) (putAt 6 [if s.fw.runningB then 1 else 0, 0] b))

/-- CONFIRM. -/
def confirmRun (s : State) : State :=
  if !s.ao.trialRun then fwRefuse stModeDenied s
  else if s.chip.vaultKey.isNone then fwRefuse stFaultDetected s
  else vaultBlock1 .confirm (confirmedBlock s) { s with fw := { s.fw with run := some .confirming } }

/-- A command of FW_CMD. -/
def fwCommand (cmd : Nat) (s : State) : State :=
  if s.fw.run.isSome then { s with fw := { s.fw with lost := true } }
  else
    let s := { s with fw := { s.fw with cmd := BitVec.ofNat 8 cmd } }
    match cmd with
    | 1 => stageRun s
    | 2 => confirmRun s
    | _ => fwEnd stOpcodeUnknown s

/-- A 64-bit write of FW_CMD. -/
def fwCmdWrite (src : Source) (value : Word) (s : State) : State :=
  guarded src 0x07200 (bits 0 8 value ≠ s.fw.cmd.toNat) id (fwCommand (bits 0 8 value)) s

/-- STAGE: a write of FW_CMD, where its value names it. -/
def execStage (src : Source) (value : Word) (s : State) : Outcome :=
  if bits 0 8 value = 1 then .next (mgrWrite src 0x07200 value (fwCmdWrite src value) s) else .next s

/-- CONFIRM. -/
def execConfirm (src : Source) (s : State) : Outcome := .next (mgrWrite src 0x07200 2 (fwCmdWrite src 2) s)

end Sys2Proof.Machine
end

