-- ==== Sys2Proof/Machine/Access.lean ====
section
/-! DEFINITION. Field access: passwords, the officer, the maintenance challenge and response, the diagnostic view, and the console's frames
(15 R429 to R432). -/

namespace Sys2Proof.Machine

/-! ### The access mailbox (R430, R433) -/

/-- Whether every word of an input command has arrived. -/
def acComplete (s : State) : Bool := 8 * ceilDiv s.access.inLen 8 ≤ s.access.input.length

/-- The input of AC_LEN bytes. -/
def acInput (s : State) : Bytes := s.access.input.take s.access.inLen

/-- A command begins to take input. -/
def acStart (run : AcRun) (s : State) : State := { s with access := { s.access with run := some run } }

/-- A command's vault write has begun. -/
def acWriting (s : State) : State := acStart .writing s

/-! ### Password (R429, R430) -/

/-- H_k of R429 after so many further steps. -/
def diagHash : Nat → Bytes → Bytes → Bytes
  | 0, _, h => h
  | n + 1, salt, h => diagHash n salt (sha256 (h ++ salt))

/-- The verifier of a password. -/
def verifierOf (salt password : Bytes) : Bytes := (diagHash 4096 salt (sha256 (salt ++ password))).take 16

/-- Whether a password's length is permitted. -/
def passwordLen (n : Nat) : Bool := 8 ≤ n && n ≤ 64

/-- Block 1 with a salt and a verifier. -/
def passwordBlock (salt verifier : Bytes) (s : State) : Bytes := sealBlock (putAt 0x50 (fit 16 salt ++ fit 16 verifier) (block1Of s))

/-- A write of block 1 for SET_PASSWORD; without K_V none can be made. -/
def passwordWrite (b : Bytes) (s : State) : State :=
  if s.chip.vaultKey.isNone then acFinish 1 stFaultDetected s else vaultBlock1 .password b (acWriting s)

/-- The verifier of the input under a salt, written. -/
def passwordSalted (salt : Bytes) (s : State) : State := passwordWrite (passwordBlock salt (verifierOf salt (acInput s)) s) s

/-- SET_PASSWORD asks for its salt, once (09 R262, R265). -/
def passwordAsk (s : State) : State :=
  if s.rng.waiting.any fun r => r.who = .password then s
  else match askRandom .password 16 false s with
    | .error st => acFinish 1 st s
    | .ok (some b, s) => passwordSalted b s
    | .ok (none, s) => s

/-- SET_PASSWORD (R430): once its input is there and the DRBG gives the salt. -/
def execSetPassword (s : State) : Outcome :=
  if s.access.run ≠ some .password || !acComplete s then .next s
  else if s.modes.mode ≠ .ceremony then .next (acFinish 1 stModeDenied s)
  else if s.access.inLen = 0 then .next (passwordWrite (passwordBlock (b1Salt (block1Of s)) (zeroBytes 16) s) s)
  else match s.access.salt with
    | some b => .next (passwordSalted b s)
    | none => .next (passwordAsk s)

/-! ### Officer (R430) -/

/-- The checks of a 256-byte officer statement. -/
def officerCheck (s : State) (b : Bytes) : Option Status :=
  let x := slotOf s 0
  if b.take 8 ≠ ascii "T7SO" ++ zeroBytes 4 || field 8 8 b ≠ s.keys.updateNext then some stBlobInvalid
  else if slice 0x10 48 b ≠ idkHash s then some stOwnerMismatch
  else if !(x.state = .active && uses x.usage 25) then some stUsageDenied
  else if !ecdsaVerify p384 (groupMaterial s 0) (sha384 (b.take 0xA0)) (slice 0xA0 96 b) then some stVerifyFail
  else none

/-- The write of an accepted statement: a new ceiling first where UPDATE_NEXT needs one (08 R236). -/
def officerStart (s : State) : State :=
  match ceilingFor s ((field 8 8 (officerInput s) + 1) % 2 ^ 64) with
  | some c => vaultChange { VaultChange.none with ceiling := some c, waiters := [.officer] } (acWriting s)
  | none => officerWrite (acWriting s)

/-- SET_OFFICER (R430). -/
def execSetOfficer (s : State) : Outcome :=
  if s.access.run ≠ some .officer || !acComplete s then .next s
  else if s.modes.mode ≠ .ceremony then .next (acFinish 2 stModeDenied s)
  else match officerCheck s (officerInput s) with
    | some st => .next (acFinish 2 st s)
    | none => .next (if s.chip.vaultKey.isNone then acFinish 2 stFaultDetected s else officerStart s)

/-! ### Challenge (R431) -/

/-- The challenge of Table 15.8 for a challenge number. -/
def challengeBytes (s : State) (no : Nat) : Bytes :=
  ascii "T7MC" ++ toLe 4 1 ++ fit 16 s.chip.deviceId ++ toLe 8 no ++ sha256 (fit 512 (Config.rawSamples s.free 512)) ++
  toLe 4 s.ao.strikes ++ toLe 2 s.ao.lastCause.toNat ++ zeroBytes 2 ++ toLe 8 s.log.head ++ fit 16 s.log.chain ++
  toLe 8 s.regs.fwVersion.toNat ++ toLe 8 (now s + 600000000) ++ zeroBytes 16

/-- Whether a challenge may be issued. -/
def challengeAllowed (s : State) : Bool :=
  s.modes.mode = .struck && s.ao.verified && s.access.refusedUntil.all fun t => t ≤ now s

/-- CHALLENGE: its status, its 128 bytes, and the state with the one valid challenge. -/
def challengeRun (s : State) : Status × Bytes × State :=
  if !challengeAllowed s then (stModeDenied, [], logAccess 3 stModeDenied s)
  else
    let no := (s.ao.chalNo + 1) % 2 ^ 64
    let b := challengeBytes s no
    let s := bumpFree { s with
      ao := { s.ao with chalNo := no },
      access := { s.access with challenge := some b, expires := now s + 600000000, attempts := 0 } }
    (0, b, logAccess 3 0 (raise 0x19 s))

/-- CHALLENGE through the mailbox: its output is held for AC_DATA. -/
def acChallenge (s : State) : State :=
  let r := challengeRun s
  { r.2.2 with access := { r.2.2.access with result := r.1, output := r.2.1, outLen := r.2.1.length } }

/-- The challenge lapses. -/
def lapse (s : State) : State := { s with access := { s.access with challenge := none, attempts := 0 } }

/-- CHALLENGE_EXPIRY. -/
def execChallengeExpiry (s : State) : Outcome :=
  if s.access.challenge.isSome && s.access.expires ≤ now s then .next (lapse s) else .next s

/-- CHALLENGE_REFUSAL_LAPSE: 60 s after three refused responses. -/
def execChallengeRefusalLapse (s : State) : Outcome :=
  match s.access.refusedUntil with
  | some t => if t ≤ now s then .next { s with access := { s.access with refusedUntil := none } } else .next s
  | none => .next s

/-! ### Response (R431) -/

/-- The first failed condition of a 384-byte response. -/
def responseCheck (s : State) (b : Bytes) : Option Status :=
  match s.access.challenge with
  | none => some stModeDenied
  | some c =>
    let h := sha384 c
    let officer := b1Officer (block1Of s)
    if s.modes.mode ≠ .struck || s.access.expires ≤ now s then some stModeDenied
    else if sha384 (b.take 96) ≠ s.chip.maintKeyHash then some stOwnerMismatch
    else if allZero officer || sha384 (slice 192 96 b) ≠ officer then some stUsageDenied
    else if !(ecdsaVerify p384 (b.take 96) h (slice 96 96 b) && ecdsaVerify p384 (slice 192 96 b) h (slice 288 96 b)) then
      some stVerifyFail
    else none

/-- A refused response: counted while a challenge stands, which lapses at the third. -/
def responseRefuse (s : State) : State :=
  let s := raise 0x1A s
  if s.access.challenge.isNone then s
  else if s.access.attempts + 1 < 3 then { s with access := { s.access with attempts := s.access.attempts + 1 } }
  else lapse { s with access := { s.access with refusedUntil := some (now s + 60000000) } }

/-- RESPONSE: its status, and the state; the core enters MAINTENANCE. -/
def responseRun (b : Bytes) (s : State) : Status × State :=
  match responseCheck s b with
  | some st => (st, logAccess 4 st (responseRefuse s))
  | none => (0, changeMode .maintenance 0 (logAccess 4 0 s))

/-! ### AC_CMD and AC_DATA (R433) -/

/-- A command of AC_CMD, with AC_LEN latched. -/
def acCommand (cmd : Nat) (s : State) : State :=
  if s.access.run.isSome then { s with access := { s.access with lost := true } }
  else
    let n := s.access.len.toNat
    let s := { s with access := { s.access with
      cmd := BitVec.ofNat 8 cmd, inLen := n, input := [], output := [], outLen := 0, result := 0 } }
    match cmd with
    | 1 =>
      if s.modes.mode ≠ .ceremony then acFinish 1 stModeDenied s
      else if n = 0 || passwordLen n then acStart .password s else acFinish 1 stInputRange s
    | 2 =>
      if s.modes.mode ≠ .ceremony then acFinish 2 stModeDenied s
      else if n = 256 then acStart .officer s else acFinish 2 stBlobLength s
    | 3 => acChallenge s
    | 4 => if n = 384 then acStart .response s else acFinish 4 stBlobLength s
    | _ => acEnd stOpcodeUnknown s

/-- A 64-bit write of AC_CMD. -/
def acCmdWrite (src : Source) (value : Word) (s : State) : State :=
  guarded src 0x07300 (bits 0 8 value ≠ s.access.cmd.toNat) id (acCommand (bits 0 8 value)) s

/-- Whether the command in progress takes input. -/
def acTakesInput (s : State) : Bool :=
  s.access.run = some .password || s.access.run = some .officer || s.access.run = some .response

/-- A 64-bit write of AC_DATA. -/
def acDataWrite (value : Word) (s : State) : State :=
  if acTakesInput s && !acComplete s then { s with access := { s.access with input := s.access.input ++ toLe 8 value.toNat } } else s

/-- A 64-bit read of AC_DATA: the next word of the output, zero where none is pending (R433). -/
def acDataRead (s : State) : Word × State :=
  if s.access.output.isEmpty then (0, s)
  else (wordAt 0 (fit 8 s.access.output), { s with access := { s.access with output := s.access.output.drop 8 } })

/-! ### Console frames (R432) -/

/-- Whether the MP serves the console: the AUX pair carries it and firmware runs. -/
def consoleUp (s : State) : Bool := auxConsole s && s.modes.mode ≠ .reset

/-- A console frame of a payload. -/
def consoleFrame (payload : Bytes) : Bytes :=
  let b := toLe 2 payload.length ++ payload
  [0x7E] ++ b ++ toLe 4 (crc32c b).toNat

/-- The payload of a well-formed frame. -/
def consolePayload (frame : Bytes) : Option Bytes :=
  let n := field 1 2 frame
  if byteAt 0 frame = 0x7E && 1 ≤ n && frame.length = n + 7 && field (n + 3) 4 frame = (crc32c (slice 1 (n + 2) frame)).toNat
  then some (slice 3 n frame) else none

/-- An answer on the console. -/
def consoleAnswer (cmd : Nat) (st : Status) (data : Bytes) (s : State) : State :=
  { s with access := { s.access with answer := consoleFrame (toLe 1 (cmd + 0x80) ++ toLe 2 st.toNat ++ data) } }

/-- The commands of the console. -/
def consoleCommands : List Nat := [0x10, 0x11, 0x12, 0x13, 0x20, 0x21]

/-- A command in an open session restarts its 30 minutes. -/
def touchSession (s : State) : State := { s with access := { s.access with diag := s.access.diag.map fun _ => now s } }

/-- A frame as it arrives: discarded where malformed, refused where its command is none of R432, else given to its row. -/
def console (cmd : Nat) (frame : Bytes) (run : Bytes → State → State) (s : State) : State :=
  if !consoleUp s then s
  else match consolePayload frame with
    | none => s
    | some p =>
      let s' := touchSession s
      if byteAt 0 p = cmd then run p s'
      else if consoleCommands.contains (byteAt 0 p) then s
      else consoleAnswer (byteAt 0 p % 128) stUsageDenied [] s'

/-- CHALLENGE (R431). -/
def execChallenge (via : AccessPath) (s : State) : Outcome :=
  match via with
  | .mailbox src => .next (mgrWrite src 0x07300 3 (acCmdWrite src 3) s)
  | .console frame => .next (console 0x20 frame (fun _ s =>
      let r := challengeRun s
      consoleAnswer 0x20 r.1 r.2.1 r.2.2) s)

/-- RESPONSE (R431). -/
def execResponse (via : AccessPath) (s : State) : Outcome :=
  match via with
  | .mailbox _ =>
    if s.access.run ≠ some .response || !acComplete s then .next s
    else
      let r := responseRun (acInput s) s
      .next (acEnd r.1 r.2)
  | .console frame => .next (console 0x21 frame (fun p s =>
      if p.length ≠ 385 then consoleAnswer 0x21 stBlobLength [] s
      else
        let r := responseRun (p.drop 1) s
        consoleAnswer 0x21 r.1 [] r.2) s)

/-! ### The diagnostic view (R429) -/

/-- The lockout after so many successive failures, in µs. -/
def lockoutTime (n : Nat) : Nat := min 86400000000 (600000000 * 2 ^ (n - 5))

/-- Whether a password is accepted; none is while the verifier is zero. -/
def passwordOk (s : State) (password : Bytes) : Bool :=
  let b := block1Of s
  passwordLen password.length && !allZero (b1Verifier b) && verifierOf (b1Salt b) password = b1Verifier b

/-- The status of a refused password: the spec states none, so its detail and its class among 0x01 to 0x07 (00 Table 0.6) are free. -/
def refusedStatus (s : State) : Status :=
  let b := Config.unstated s.free 2
  BitVec.ofNat 16 (byteAt 0 b + 256 * (1 + byteAt 1 b % 7))

/-- A failed attempt: counted, and from the fifth on a lockout. -/
def diagFail (s : State) : State :=
  let n := s.ao.diagFailures + 1
  let s := { s with ao := { s.ao with
    diagFailures := n, lockedUntil := if 5 ≤ n then some (s.ao.time + lockoutTime n) else s.ao.lockedUntil } }
  raise 0x18 s

/-- DIAG_OPEN on a password. -/
def diagOpen (password : Bytes) (s : State) : State :=
  let st := refusedStatus s
  if diagLocked s then consoleAnswer 0x10 st [] (logAccess 0x10 st (raise 0x18 (bumpFree s)))
  else if passwordOk s password then
    consoleAnswer 0x10 0 [] (logAccess 0x10 0 (raise 0x17 { s with
      ao := { s.ao with diagFailures := 0, lockedUntil := none }, access := { s.access with diag := some (now s) } }))
  else consoleAnswer 0x10 st [] (logAccess 0x10 st (diagFail (bumpFree s)))

/-- DIAG_OPEN. -/
def execDiagOpen (frame : Bytes) (s : State) : Outcome := .next (console 0x10 frame (fun p s => diagOpen (p.drop 1) s) s)

/-- The registers an open session may read. -/
def diagReadable (o : Nat) : Bool :=
  o % 8 = 0 && (o = 0 || o = 8 || o = 0x20 || o = 0x30 || o = 0x38 || (0x7000 ≤ o && o < 0x8000 && o ≠ 0x7310))

/-- READ: an offset and a count of registers. -/
def diagRead (p : Bytes) (s : State) : State :=
  let o := field 1 4 p
  let n := byteAt 5 p
  let os := (List.range n).map fun i => o + 8 * i
  if s.access.diag.isSome && p.length = 6 && 1 ≤ n && n ≤ 16 && os.all diagReadable then
    consoleAnswer 0x11 0 (os.flatMap fun i => toLe 8 (readManager s i).toNat) s
  else consoleAnswer 0x11 stUsageDenied [] s

/-- CONSOLE_READ. -/
def execConsoleRead (frame : Bytes) (s : State) : Outcome := .next (console 0x11 frame diagRead s)

/-- A logbook entry by SEQ; zero where it is not held. -/
def entryAt (s : State) (seq : Nat) : Bytes :=
  match s.log.entries.find? fun e => e.1 = seq with
  | some e => e.2
  | none => zeroBytes 64

/-- LOG_READ: a SEQ and a count of entries. -/
def diagLog (p : Bytes) (s : State) : State :=
  let n := byteAt 9 p
  if s.access.diag.isSome && p.length = 10 && 1 ≤ n && n ≤ 32 then
    consoleAnswer 0x12 0 ((List.range n).flatMap fun i => entryAt s (field 1 8 p + i)) s
  else consoleAnswer 0x12 stUsageDenied [] s

/-- LOG_READ. -/
def execLogRead (frame : Bytes) (s : State) : Outcome := .next (console 0x12 frame diagLog s)

/-- CLOSE. -/
def execClose (frame : Bytes) (s : State) : Outcome :=
  .next (console 0x13 frame (fun _ s => consoleAnswer 0x13 0 [] { s with access := { s.access with diag := none } }) s)

/-- DIAG_SESSION_TIMEOUT: 30 minutes without a command. -/
def execDiagSessionTimeout (s : State) : Outcome :=
  match s.access.diag with
  | some t => if t + 1800000000 ≤ now s then .next { s with access := { s.access with diag := none } } else .next s
  | none => .next s

/-- DIAG_LOCKOUT_END. -/
def execDiagLockoutEnd (s : State) : Outcome :=
  match s.ao.lockedUntil with
  | some t => if t ≤ s.ao.time then .next { s with ao := { s.ao with lockedUntil := none } } else .next s
  | none => .next s

end Sys2Proof.Machine
end

