-- ==== Sys2Proof/Machine/Registers.lean ====
section
/-! DEFINITION. Register writes in general (13 R353 to R357, R364), the scrub of the triplicated fields (13 R362, R363), and the wake from
DROWSE, which applies the writes it held (12 R343). -/

namespace Sys2Proof.Machine

/-! ### What a write does to a register of the Manager window -/

/-- Clear the bits of a status map that are written as 1. -/
def clearStatus (i : Nat) (value : Word) (s : State) : State :=
  { s with events := { s.events with status := s.events.status &&& ~~~(BitVec.ofNat 256 (value.toNat * 2 ^ (64 * i))) } }

/-- LOCK_STATE: DENIED with its count, and BAD_KEY (13 Table 13.4). -/
def lockStateWrite (value : Word) (s : State) : State :=
  let r := s.regs
  { s with regs := { r with
      denied := r.denied && !bit 17 value, deniedCount := if bit 17 value then 0 else r.deniedCount, badKey := r.badKey && !bit 16 value } }

/-- VOTE_STATUS: FLAG with COUNT. -/
def voteStatusWrite (value : Word) (s : State) : State :=
  if bit 47 value then { s with regs := { s.regs with voteFlag := false, voteCount := 0 } } else s

/-- EVT_LOST: FLAG with COUNT. -/
def evtLostWrite (value : Word) (s : State) : State :=
  if bit 47 value then { s with events := { s.events with lostFlag := false, lostCount := 0 } } else s

/-- EVT_ROUTEi. -/
def evtRouteSet (i : Nat) (value : Word) (s : State) : State :=
  let old := s.events.route.toNat
  let part := (old / 2 ^ (64 * i)) % 2 ^ 64
  { s with events := { s.events with route := BitVec.ofNat 512 (old - part * 2 ^ (64 * i) + value.toNat * 2 ^ (64 * i)) } }

/-- Registers below 0x0_2000. -/
def writeLow (src : Source) (o : Nat) (v : Word) (s : State) : State :=
  if o = 0x10 then unlockWrite src v s
  else if o = 0x18 then lockStateWrite v s
  else if o = 0x28 then modeReqWrite src v true s
  else if o = 0x40 then twinCfgWrite src v s
  else if o = 0x48 then voteStatusWrite v s
  else if 0x100 ≤ o ∧ o < 0x120 then clearStatus ((o - 0x100) / 8) v s
  else if 0x120 ≤ o ∧ o < 0x140 then evtEnableSet ((o - 0x120) / 8) v s
  else if 0x140 ≤ o ∧ o < 0x180 then evtRouteSet ((o - 0x140) / 8) v s
  else if o = 0x188 then evtTestWrite src v s
  else if o = 0x190 then evtLostWrite v s
  else if o = 0x198 then evtCtrlWrite v s
  else if 0x1000 ≤ o ∧ o < 0x2000 then evtVectorSet ((o - 0x1000) / 16) (decide ((o - 0x1000) / 8 % 2 = 1)) v s
  else s

/-- RNG_PATTERN: the seed of the next test pattern (09 Table 9.5, R274). -/
def seedRegWrite (src : Source) (v : Word) (s : State) : State :=
  guarded src 0x050C0 (decide (v ≠ s.rng.seedReg)) id (fun s => { s with rng := { s.rng with seedReg := v } }) s

/-- RNG_RAW_SEL. -/
def rawSelWrite (src : Source) (v : Word) (s : State) : State :=
  guarded src 0x050D0 (decide (bits 0 4 v ≠ s.rng.rawSel.toNat)) id
    (fun s => { s with rng := { s.rng with rawSel := BitVec.ofNat 4 v.toNat } }) s

/-- Registers from 0x0_2000 to 0x0_6FFF. -/
def writeMid (src : Source) (o : Nat) (v : Word) (s : State) : State :=
  if o = 0x3000 then csWrite src v s
  else if o = 0x3008 then { s with sheets := { s.sheets with lost := s.sheets.lost && !bit 62 v } }
  else if 0x3040 ≤ o ∧ o < 0x30C0 then { s with sheets := { s.sheets with data := setWordAt ((o - 0x3040) / 8) v s.sheets.data } }
  else if 0x3100 ≤ o ∧ o < 0x3160 then { s with sheets := { s.sheets with key := setWordAt ((o - 0x3100) / 8) v s.sheets.key } }
  else if o = 0x4000 then gfCtrlWrite src v s
  else if o = 0x5000 then rngCtrlWrite src v s
  else if o = 0x5010 then rngCfgWrite src v s
  else if o = 0x5018 then rngReseedReg src v s
  else if o = 0x50C0 then seedRegWrite src v s
  else if o = 0x50D0 then rawSelWrite src v s
  else if o = 0x6000 then kmCtrlWrite v none s
  else if o = 0x6008 then { s with keys := { s.keys with len := v.setWidth _ } }
  else if o = 0x6010 then kmDataWrite v s
  else if o = 0x6018 then { s with keys := { s.keys with lost := s.keys.lost && !bit 62 v } }
  else if o = 0x6030 then { s with keys := { s.keys with arg := v } }
  else s

/-- LB_STATUS: OVERWROTE with LOST, and MISS (15 Table 15.10). -/
def lbStatusWrite (v : Word) (s : State) : State :=
  let l := s.log
  { s with log := { l with
      miss := l.miss && !bit 62 v, overwrote := l.overwrote && !bit 61 v, lost := if bit 61 v then 0 else l.lost } }

/-- FW_STATUS: LOST and FALLBACK. -/
def fwStatusWrite (v : Word) (s : State) : State :=
  { s with fw := { s.fw with lost := s.fw.lost && !bit 62 v, fallback := s.fw.fallback && !bit 57 v } }

/-- The LOGBOOK block. -/
def writeLogbook (src : Source) (o : Nat) (v : Word) (s : State) : State :=
  if o = 0x7010 then lbAckSet v s
  else if o = 0x7018 then lbSelSet v s
  else if o = 0x7020 then lbStatusWrite v s
  else if o = 0x7028 then lbCmdWrite src v s
  else if o = 0x7100 then { s with sens := { s.sens with warn := s.sens.warn && !bit 0 v } }
  else if o = 0x7128 then tpCmdWrite src v s
  else if o = 0x7200 then fwCmdWrite src v s
  else if o = 0x7208 then { s with fw := { s.fw with arg := v } }
  else if o = 0x7210 then fwStatusWrite v s
  else if o = 0x7300 then acCmdWrite src v s
  else if o = 0x7308 then { s with access := { s.access with len := v.setWidth _ } }
  else if o = 0x7310 then acDataWrite v s
  else if o = 0x7318 then { s with access := { s.access with lost := s.access.lost && !bit 62 v } }
  else s

/-- Registers from 0x0_8000 on. -/
def writeHigh (src : Source) (o : Nat) (v : Word) (s : State) : State :=
  if o = 0x8000 then usWrite src v true s
  else if o = 0x8008 then { s with units := { s.units with lost := s.units.lost && !bit 62 v } }
  else if o = 0x9000 then migWrite v s
  else if o = 0x9008 then { s with sheets := { s.sheets with migLost := s.sheets.migLost && !bit 62 v } }
  else if 0xA040 ≤ o ∧ o < 0xA0A0 then peerKeyWrite src ((o - 0xA040) / 8) v s
  else if o = 0xF000 then directWrite src false v s
  else if o = 0xF008 then directLen v s
  else if o = 0xF010 then directWrite src true v s
  else if o = 0xF018 then directStatusWrite v s
  else s

/-- A 64-bit write of a register of the Manager window; an offset that holds no writable field ignores it (13 R356). -/
def writeManager (src : Source) (o : Nat) (v : Word) (s : State) : State :=
  if o < 0x2000 then writeLow src o v s
  else if o < 0x7000 then writeMid src o v s
  else if o < 0x8000 then writeLogbook src o v s
  else writeHigh src o v s

/-! ### A tenant's window (13 Table 13.7) -/

/-- A change of a tenant's REEL_CMD mailbox. -/
def modBox (f : Nat) (g : ReelBox → ReelBox) (s : State) : State := modTenant f (fun t => { t with rc := g t.rc }) s

/-- A 64-bit write of a register of a tenant's window. -/
def writeTenant (f : Nat) (o : Nat) (v : Word) (s : State) : State :=
  if o = 0x100 then enqueue f (.reelBell v) s
  else if o = 0x108 then enqueue f (.dailiesBell v) s
  else if o = 0x200 then rcWrite f v s
  else if o = 0x208 then modBox f (fun b => { b with arg0 := v }) s
  else if o = 0x210 then modBox f (fun b => { b with arg1 := v }) s
  else if o = 0x218 then modBox f (fun b => { b with arg2 := v }) s
  else if o = 0x220 then modBox f (fun b => { b with arg3 := v }) s
  else if o = 0x228 then modBox f (fun b => { b with lost := b.lost && !bit 62 v }) s
  else if o = 0x240 then
    modBox f (fun b => { b with dbPresent := b.dbPresent && !bit 62 v, dbCount := if bit 62 v then 0 else b.dbCount }) s
  else if o = 0x1000 then attestWrite f v s
  else if o = 0x1008 then modTenant f (fun t => { t with attest := { t.attest with arg := v } }) s
  else if 0x1020 ≤ o ∧ o < 0x1040 then
    modTenant f (fun t => { t with attest := { t.attest with chal := setWordAt ((o - 0x1020) / 8) v t.attest.chal } }) s
  else s

/-! ### Sizes, triggers and holds (R354, R355) -/

/-- Whether the port accepts the size and alignment of an access. -/
def sizeOk (size : AccSize) (o : Nat) : Bool :=
  match size with
  | .w64 => o % 8 = 0
  | .w32 => o % 4 = 0
  | .other => false

/-- The trigger registers of the Manager window: those R354 lists, and those 15 R433 names. -/
def triggers : List Nat :=
  [0x10, 0x28, 0x40, 0x188, 0x3000, 0x5000, 0x6000, 0x6010, 0x7028, 0x7128, 0x7200, 0x7300, 0x7310, 0x8000, 0x9000, 0xA098, 0xF000, 0xF010]

/-- The trigger registers of a tenant's window. -/
def tenantTriggers : List Nat := [0x100, 0x108, 0x200, 0x1000]

/-- The registers whose writable fields all clear where 1 is written: a 32-bit write leaves the other half alone. -/
def clearing (o : Nat) : Bool :=
  [0x18, 0x48, 0x190, 0x3008, 0x6018, 0x7020, 0x7100, 0x7210, 0x7318, 0x8008, 0x9008, 0xF018].contains o || (0x100 ≤ o && o < 0x120)

/-- The 64-bit value a 32-bit write stands for: its own half, on the lanes of the access, over the other half of the register. -/
def laneWord (o : Nat) (old value : Word) : Word :=
  if o % 8 = 0 then (old &&& 0xFFFFFFFF00000000) ||| (value &&& 0x00000000FFFFFFFF)
  else (old &&& 0x00000000FFFFFFFF) ||| (value &&& 0xFFFFFFFF00000000)

/-- A write of the Manager window applied (R357). -/
def applyManager (src : Source) (size : AccSize) (o : Nat) (value : Word) (s : State) : State :=
  let base := o / 8 * 8
  match size with
  | .w32 =>
    if triggers.contains base then raise 0xE3 s
    else writeManager src base (laneWord o (if clearing base then 0 else readManager s base) value) s
  | _ => writeManager src base value s

/-- A write of a tenant's window applied. -/
def applyTenant (f : Nat) (size : AccSize) (o : Nat) (value : Word) (s : State) : State :=
  let base := o / 8 * 8
  match size with
  | .w32 =>
    if tenantTriggers.contains base then raise 0xE3 s
    else writeTenant f base (laneWord o (if base = 0x228 || base = 0x240 then 0 else readTenant s f base) value) s
  | _ => writeTenant f base value s

/-- A write that the port or the MP's path carries out: the size, the mode, the register. -/
def takeWrite (src : Source) (size : AccSize) (offset : BitVec 20) (value : Word) (s : State) : State :=
  let o := offset.toNat
  match src with
  | .mp => if sizeOk size o then applyManager src size o value s else s
  | .manager =>
    if !sizeOk size o then portError s
    else if writable (BitVec.ofNat 20 (o / 8 * 8)) s then applyManager src size o value (answered s)
    else answered s
  | .function f =>
    if !sizeOk size o then portError s
    else if windowOpen f s && o < 0x10000 then applyTenant f.toNat size o value (answered s)
    else answered s
  | .outranked _ => s

/-- A register write (R354, R355). -/
def writeReg (src : Source) (size : AccSize) (offset : BitVec 20) (value : Word) (s : State) : State :=
  match src with
  | .outranked mp => outrankedWrite mp offset s
  | _ => arrive src size offset true value (takeWrite src size offset value) s

/-- WRITE_REGISTER (R357). -/
def execWriteRegister (src : Source) (size : AccSize) (offset : BitVec 20) (value : Word) (s : State) : Outcome :=
  .next (writeReg src size offset value s)

/-! ### Reads (R354 to R356) -/

/-- The registers whose 64-bit read takes a word from an output: KM_DATA and AC_DATA (15 R433). -/
def isOutput (o : Nat) : Bool := o = 0x6010 || o = 0x7310

/-- A 64-bit read of a register of the Manager window, and what it moves. -/
def readWord (o : Nat) (s : State) : Word × State :=
  if o = 0x6010 then kmDataRead s else if o = 0x7310 then acDataRead s else (readManager s o, s)

/-- The lanes of a 32-bit access. -/
def laneOf (o : Nat) (w : Word) : Word := laneWord o 0 w

/-- A read that the port or the MP's path carries out. A 32-bit one reads the addressed half, and zero of an output, which does not advance. -/
def takeRead (src : Source) (size : AccSize) (offset : BitVec 20) (s : State) : State :=
  let o := offset.toNat
  let base := o / 8 * 8
  match src with
  | .mp => if size = .w64 && sizeOk size o then (readWord base s).2 else s
  | .manager =>
    if !sizeOk size o then portError s
    else if !readableIn s.modes.mode base then respond 0 s
    else if size = .w32 then respond (if isOutput base then 0 else laneOf o (readManager s base)) s
    else
      let r := readWord base s
      respond r.1 r.2
  | .function f =>
    if !sizeOk size o then portError s
    else if !windowOpen f s || 0x10000 ≤ o then respond 0 s
    else
      let w := readTenant s f.toNat base
      respond (if size = .w32 then laneOf o w else w) s
  | .outranked _ => s

/-- A register read. -/
def readReg (src : Source) (size : AccSize) (offset : BitVec 20) (s : State) : State :=
  match src with
  | .outranked _ => s
  | _ => arrive src size offset false 0 (takeRead src size offset) s

/-- KM_DATA_READ: a read of KM_DATA, or of the register at the offset given (log 34). -/
def execKmDataRead (read : PortRead) (s : State) : Outcome := .next (readReg read.src read.size read.offset s)

/-! ### The accesses held (R355) -/

/-- A held access: held on, or carried out and answered under its own tag; lost where the port no longer answers. -/
def applyHeld (a : HeldAccess) (s : State) : State :=
  if heldUp a s then holdAccess a s
  else if a.src ≠ .mp && !portAnswers s then s
  else
    let s := if a.src = .mp then s else { s with regs := { s.regs with reqTag := a.tag } }
    if a.write then takeWrite a.src a.size a.offset a.value s else takeRead a.src a.size a.offset s

/-- The accesses held are carried out in the order they came, until a hold stops those of their source. -/
def answerHeld (s : State) : State := s.regs.held.foldl (fun t a => applyHeld a t) { s with regs := { s.regs with held := [] } }

/-- DD_COMPRESSION_DONE (06 R191, R193): BUSY clears, and the held writes are applied. -/
def execDdCompressionDone (s : State) : Outcome :=
  if !s.direct.busy || !directRuns s.modes.mode then .next s
  else
    let s := { s with direct := { s.direct with busy := false } }
    .next (answerHeld (if s.direct.finishing then directDigest s else s))

/-! ### The scrubber (R362, R363) -/

/-- AREA of VOTE_STATUS. -/
def areaCode : TripleArea → Nat
  | .registerFile => 1 | .callSheet => 2 | .keyStore => 3 | .alwaysOn => 4

/-- The registers of the Manager window with a TRIPLE field. -/
def tripleRegs : List Nat := [0x20, 0x40, 0x5010]

/-- The offsets of the TRIPLE fields of a call sheet (10 R278). -/
def tripleSheet : List Nat := [0x00, 0x02, 0x03, 0x20, 0x24, 0x36, 0x37]

/-- WHERE of VOTE_STATUS: the bits its area uses. -/
def whereOf (area : TripleArea) (loc : BitVec 32) : Nat :=
  match area with
  | .registerFile => bits 0 20 (loc.setWidth 64)
  | .callSheet => bits 0 11 (loc.setWidth 64) + bits 16 7 (loc.setWidth 64) * 2 ^ 16
  | .keyStore => bits 0 17 (loc.setWidth 64)
  | .alwaysOn => 0

/-- The function of a call sheet's WHERE, and its byte offset. -/
def sheetFunc (w : Nat) : Nat := w % 2048

/-- Whether a TRIPLE field is held there. -/
def holdsTriple (s : State) (area : TripleArea) (w : Nat) : Bool :=
  match area with
  | .registerFile => tripleRegs.contains w
  | .callSheet => sheetFunc w < tenantCount s && tripleSheet.contains (w / 2 ^ 16)
  | .keyStore => w < slotCount s
  | .alwaysOn => true

/-- Whether the scrubber runs: the management island does. -/
def scrubs (s : State) : Bool := managementUp s

/-- A single copy corrected (R362): VOTE_STATUS, event 0xE1 and an entry. -/
def corrected (area : TripleArea) (w : Nat) (copy : Fin 3) (s : State) : State :=
  raiseLog 0xE1 0x0060 w (areaCode area) 0 { s with regs := { s.regs with
    voteFlag := true, voteCount := satInc s.regs.voteCount, voteArea := BitVec.ofNat 4 (areaCode area),
    voteCopy := BitVec.ofNat 3 (2 ^ copy.val), voteWhere := BitVec.ofNat 32 w } }

/-- A call sheet's field read as its copy 0 (R363). -/
def sheetCopy (off : Nat) (v : Word) (t : Tenant) : Tenant :=
  match off with
  | 0x02 => { t with state := match bits 0 8 v with | 0 => .free | 1 => .running | 2 => .pausing | _ => .paused }
  | 0x03 => { t with
      sheet := { t.sheet with shielded := bit 0 v }, logging := bit 1 v, activeB := bit 2 v, incomplete := bit 3 v }
  | 0x20 => { t with sheet := { t.sheet with slotBase := bits 0 32 v } }
  | 0x24 => { t with sheet := { t.sheet with slots := bits 0 32 v } }
  | 0x36 => { t with sheet := { t.sheet with pinned := bits 0 8 v } }
  | 0x37 => { t with sheet := { t.sheet with engines := BitVec.ofNat 8 v.toNat } }
  | _ => t

/-- A register's TRIPLE fields read as their copy 0 (R363), by the units that use them too: MEMBER, DUP and ENABLE of TWIN_CFG, and RNG_SRC_CFG.
What the core does by MODE goes on by the mode it is in: MODE only reads as its copy 0 (log 102). -/
def registerCopy (o : Nat) (v : Word) (s : State) : State :=
  if o = 0x20 then { s with regs := { s.regs with modeCopy := some (BitVec.ofNat 4 v.toNat) } }
  else if o = 0x40 then { s with
    vault := { s.vault with member := bits 55 9 v }, twin := { s.twin with dup := BitVec.ofNat 2 (bits 4 2 v), enable := bit 0 v } }
  else { s with rng := { s.rng with enable := BitVec.ofNat 16 v.toNat, vonNeumann := BitVec.ofNat 16 (bits 16 16 v) } }

/-- A field with three unequal copies reads its copy 0 until the reset (R363). VOTE_STATUS names no field of the always-on island, so none is
given a copy there (log 102). -/
def readsCopy (area : TripleArea) (w : Nat) (v : Word) (s : State) : State :=
  match area with
  | .registerFile => registerCopy w v s
  | .callSheet =>
    if w / 2 ^ 16 = 0 then { s with regs := { s.regs with funcCopies := (sheetFunc w, bits 0 11 v) :: s.regs.funcCopies } }
    else modTenant (sheetFunc w) (sheetCopy (w / 2 ^ 16) v) s
  | _ => s

/-- Three unequal copies (R363); the MP's request of a RESET follows in the next microsecond (Tick.lean). -/
def uncorrected (area : TripleArea) (w : Nat) (v : Word) (s : State) : State :=
  if s.modes.mode = .selftest then stFailure 7 s
  else match area with
    | .keyStore => faultGroup w s
    | _ =>
      let s := readsCopy area w v s
      raiseLog 0xE4 0x0060 w (areaCode area) 0 { s with modes := { s.modes with readsStopped := true, resetDue := true } }

/-- TRIPLE_SCRUB (R362, R363). -/
def execTripleScrub (area : TripleArea) (loc : BitVec 32) (found : Vote) (s : State) : Outcome :=
  let w := whereOf area loc
  if !scrubs s || !holdsTriple s area w then .next s
  else match found with
    | .agree => .next s
    | .differs copy => .next (corrected area w copy s)
    | .unequal v => .next (uncorrected area w v s)

/-! ### DROWSE_WAKE (12 R343) -/

/-- Whether a domain whose sleep has ended holds a parked context write-back. -/
def parkedWriteback (s : State) (d : Nat) : Bool :=
  !s.fabric.sleepReq.getLsbD d && s.fabric.held.any fun h => inDomain s d h.req && match h.req.purpose with
    | .writeBack _ _ _ => true
    | _ => false

/-- Whether a cause wakes the core. -/
def wakes (s : State) (cause : WakeCause) : Bool :=
  match cause with
  | .domain d => parkedWriteback s d.val
  | _ => true

/-- The time asleep counts neither for the direct-feed port's time limit (06 R196) nor for the buckets (R342). -/
def resumeClocks (s : State) : State :=
  let gone := now s - s.rng.stoppedAt.getD (now s)
  { s with direct := { s.direct with lastWrite := s.direct.lastWrite + gone }, sched := { s.sched with refillAt := now s } }

/-- The islands a wake starts: management, scheduler, both fabric ports, key store and RNG. -/
def wakeIslands : List Nat := [1, 2, 3, 4, 5, 6]

/-- Whether the wake's islands run and the MP has resumed, 30 µs after its island. -/
def wakeReady (s : State) : Bool :=
  wakeIslands.all (fun i => (islandAt s i).state = .running) && (islandAt s 1).idleSince + 30 ≤ now s

/-- The end of the wake: the RNG, the mode, event 0x29, and what waited. -/
def wakeUp (s : State) : State :=
  let s := rngWake (resumeClocks s)
  answerHeld (pumpHeld (raise 0x29 (enterServing 0 s)))

/-- DROWSE_WAKE (R343): the wake's islands are queued for the gaffer, which starts them under R349; once they run and the MP has resumed,
the wake ends (log 54). -/
def execDrowseWake (cause : WakeCause) (s : State) : Outcome :=
  if s.modes.mode ≠ .drowse || !wakes s cause then .next s
  else if wakeReady s then .next (wakeUp s)
  else .next (wakeIslands.foldl (fun t i => queueIsland i t) s)

end Sys2Proof.Machine
end

