-- ==== Sys2Proof/Machine/Dispatch.lean ====
section
/-! DEFINITION. One arm per command, in the order of spec/opcode_table.json. -/

namespace Sys2Proof.Machine

def exec (i : Instr) (s : State) : Host.Outcome State Fault Refusal :=
  match i with
  | .writeRegister src size offset value => Sys2Proof.Machine.execWriteRegister src size offset value s
  | .unlock src value => Sys2Proof.Machine.execUnlock src value s
  | .lockRearm src => Sys2Proof.Machine.execLockRearm src s
  | .tripleScrub area loc found => Sys2Proof.Machine.execTripleScrub area loc found s
  | .evtTest src value => Sys2Proof.Machine.execEvtTest src value s
  | .evtEnableWrite src reg value => Sys2Proof.Machine.execEvtEnableWrite src reg value s
  | .evtVectorWrite src vec upper value => Sys2Proof.Machine.execEvtVectorWrite src vec upper value s
  | .eventMessageWrite vec => Sys2Proof.Machine.execEventMessageWrite vec s
  | .reelDoorbell tenant value => Sys2Proof.Machine.execReelDoorbell tenant value s
  | .dailiesDoorbell tenant value => Sys2Proof.Machine.execDailiesDoorbell tenant value s
  | .createDailies tenant index => Sys2Proof.Machine.execCreateDailies tenant index s
  | .createReel tenant index => Sys2Proof.Machine.execCreateReel tenant index s
  | .destroyReel tenant index => Sys2Proof.Machine.execDestroyReel tenant index s
  | .destroyDailies tenant index => Sys2Proof.Machine.execDestroyDailies tenant index s
  | .abortReel tenant index => Sys2Proof.Machine.execAbortReel tenant index s
  | .resetReelResume tenant index => Sys2Proof.Machine.execResetReelResume tenant index s
  | .resetReelSkip tenant index => Sys2Proof.Machine.execResetReelSkip tenant index s
  | .resetReelDiscard tenant index => Sys2Proof.Machine.execResetReelDiscard tenant index s
  | .resetDailies tenant index => Sys2Proof.Machine.execResetDailies tenant index s
  | .pauseReel tenant index => Sys2Proof.Machine.execPauseReel tenant index s
  | .pauseReelResume tenant index => Sys2Proof.Machine.execPauseReelResume tenant index s
  | .queryReel tenant index => Sys2Proof.Machine.execQueryReel tenant index s
  | .queryDailies tenant index => Sys2Proof.Machine.execQueryDailies tenant index s
  | .contextFetchCompletion tenant isDailies index => Sys2Proof.Machine.execContextFetchCompletion tenant isDailies index s
  | .contextWritebackTimer tenant isDailies index => Sys2Proof.Machine.execContextWritebackTimer tenant isDailies index s
  | .ageTimerExpiry tenant reel => Sys2Proof.Machine.execAgeTimerExpiry tenant reel s
  | .schedulerRound seqs => Sys2Proof.Machine.execSchedulerRound seqs s
  | .bucketRefill => Sys2Proof.Machine.execBucketRefill s
  | .admission tenant reel => Sys2Proof.Machine.execAdmission tenant reel s
  | .extProgramRead tenant reel slot => Sys2Proof.Machine.execExtProgramRead tenant reel slot s
  | .move take found => Sys2Proof.Machine.execMove take found s
  | .movi take found => Sys2Proof.Machine.execMovi take found s
  | .loop take found => Sys2Proof.Machine.execLoop take found s
  | .wait take found => Sys2Proof.Machine.execWait take found s
  | .signal take found => Sys2Proof.Machine.execSignal take found s
  | .key take found tagOk => Sys2Proof.Machine.execKey take found tagOk s
  | .op take found unit => Sys2Proof.Machine.execOp take found unit s
  | .check take found => Sys2Proof.Machine.execCheck take found s
  | .skip take found => Sys2Proof.Machine.execSkip take found s
  | .endCode take found => Sys2Proof.Machine.execEndCode take found s
  | .parkTimeoutExpiry take => Sys2Proof.Machine.execParkTimeoutExpiry take s
  | .dailyWrite take => Sys2Proof.Machine.execDailyWrite take s
  | .dailyParkTimeout tenant dailies => Sys2Proof.Machine.execDailyParkTimeout tenant dailies s
  | .abortedDailyWrite tenant reel => Sys2Proof.Machine.execAbortedDailyWrite tenant reel s
  | .dailiesMessageWrite tenant dailies => Sys2Proof.Machine.execDailiesMessageWrite tenant dailies s
  | .moderationTimerExpiry tenant dailies => Sys2Proof.Machine.execModerationTimerExpiry tenant dailies s
  | .messageParkTimeout tenant dailies => Sys2Proof.Machine.execMessageParkTimeout tenant dailies s
  | .fabricReadResponse port tag data resp => Sys2Proof.Machine.execFabricReadResponse port tag data resp s
  | .fabricWriteResponse port tag resp => Sys2Proof.Machine.execFabricWriteResponse port tag resp s
  | .fabricPortReset port => Sys2Proof.Machine.execFabricPortReset port s
  | .laneOpCompletion lane found => Sys2Proof.Machine.execLaneOpCompletion lane found s
  | .engineSegmentEnd engine found => Sys2Proof.Machine.execEngineSegmentEnd engine found s
  | .digestOpCompletion unit found => Sys2Proof.Machine.execDigestOpCompletion unit found s
  | .pkOpCompletion shielded core found => Sys2Proof.Machine.execPkOpCompletion shielded core found s
  | .takeReexecution take seq => Sys2Proof.Machine.execTakeReexecution take seq s
  | .uncontainableFault => Sys2Proof.Machine.execUncontainableFault s
  | .ddStart src value => Sys2Proof.Machine.execDdStart src value s
  | .ddData src value => Sys2Proof.Machine.execDdData src value s
  | .ddFinish src value => Sys2Proof.Machine.execDdFinish src value s
  | .ddCancel src value => Sys2Proof.Machine.execDdCancel src value s
  | .ddCompressionDone => Sys2Proof.Machine.execDdCompressionDone s
  | .ddTimeout => Sys2Proof.Machine.execDdTimeout s
  | .kum tagFault => Sys2Proof.Machine.execKum tagFault s
  | .kumCommit => Sys2Proof.Machine.execKumCommit s
  | .imageExport src tagFault => Sys2Proof.Machine.execImageExport src tagFault s
  | .imageRestore => Sys2Proof.Machine.execImageRestore s
  | .slotQuery src => Sys2Proof.Machine.execSlotQuery src s
  | .floor src => Sys2Proof.Machine.execFloor src s
  | .packageExport src tagFault => Sys2Proof.Machine.execPackageExport src tagFault s
  | .packageImport => Sys2Proof.Machine.execPackageImport s
  | .readCert src => Sys2Proof.Machine.execReadCert src s
  | .abort src => Sys2Proof.Machine.execAbort src s
  | .kmDataWrite src value => Sys2Proof.Machine.execKmDataWrite src value s
  | .kmDataRead read => Sys2Proof.Machine.execKmDataRead read s
  | .maskRefresh => Sys2Proof.Machine.execMaskRefresh s
  | .attestChallenge tenant => Sys2Proof.Machine.execAttestChallenge tenant s
  | .attestSlotQuery tenant => Sys2Proof.Machine.execAttestSlotQuery tenant s
  | .trimWindowEnd source ones => Sys2Proof.Machine.execTrimWindowEnd source ones s
  | .trimTimeout source => Sys2Proof.Machine.execTrimTimeout source s
  | .repetitionCountFailure source => Sys2Proof.Machine.execRepetitionCountFailure source s
  | .adaptiveProportionWindowEnd source bits => Sys2Proof.Machine.execAdaptiveProportionWindowEnd source bits s
  | .startupComplete source => Sys2Proof.Machine.execStartupComplete source s
  | .seedReady found => Sys2Proof.Machine.execSeedReady found s
  | .drbgGenerate found => Sys2Proof.Machine.execDrbgGenerate found s
  | .reseedDue => Sys2Proof.Machine.execReseedDue s
  | .reseedStall => Sys2Proof.Machine.execReseedStall s
  | .rngRequestTimeout who => Sys2Proof.Machine.execRngRequestTimeout who s
  | .restart src => Sys2Proof.Machine.execRestart src s
  | .reseed src => Sys2Proof.Machine.execReseed src s
  | .pattern src on => Sys2Proof.Machine.execPattern src on s
  | .rngSrcCfgWrite src value => Sys2Proof.Machine.execRngSrcCfgWrite src value s
  | .rngReseedWrite src value => Sys2Proof.Machine.execRngReseedWrite src value s
  | .create src tenant => Sys2Proof.Machine.execCreate src tenant s
  | .change src tenant => Sys2Proof.Machine.execChange src tenant s
  | .pause src tenant => Sys2Proof.Machine.execPause src tenant s
  | .pauseComplete tenant => Sys2Proof.Machine.execPauseComplete tenant s
  | .resume src tenant => Sys2Proof.Machine.execResume src tenant s
  | .remove src tenant => Sys2Proof.Machine.execRemove src tenant s
  | .read src tenant => Sys2Proof.Machine.execRead src tenant s
  | .readImported src tenant => Sys2Proof.Machine.execReadImported src tenant s
  | .startLog src tenant => Sys2Proof.Machine.execStartLog src tenant s
  | .swap src tenant => Sys2Proof.Machine.execSwap src tenant s
  | .stopLog src tenant => Sys2Proof.Machine.execStopLog src tenant s
  | .query src tenant => Sys2Proof.Machine.execQuery src tenant s
  | .twinCfgWrite src value => Sys2Proof.Machine.execTwinCfgWrite src value s
  | .mlPeerKeyWrite src value => Sys2Proof.Machine.execMlPeerKeyWrite src value s
  | .pairingStart => Sys2Proof.Machine.execPairingStart s
  | .ephemeralKeygenComplete => Sys2Proof.Machine.execEphemeralKeygenComplete s
  | .hello port frame bad => Sys2Proof.Machine.execHello port frame bad s
  | .linkEcdhComplete => Sys2Proof.Machine.execLinkEcdhComplete s
  | .confirmFrame port frame bad => Sys2Proof.Machine.execConfirmFrame port frame bad s
  | .confirmTimeout => Sys2Proof.Machine.execConfirmTimeout s
  | .helloRetry => Sys2Proof.Machine.execHelloRetry s
  | .sync port frame bad => Sys2Proof.Machine.execSync port frame bad s
  | .recordClose => Sys2Proof.Machine.execRecordClose s
  | .record port frame bad => Sys2Proof.Machine.execRecord port frame bad s
  | .notice port frame bad => Sys2Proof.Machine.execNotice port frame bad s
  | .partnerSilence => Sys2Proof.Machine.execPartnerSilence s
  | .mlPortUpChange port up => Sys2Proof.Machine.execMlPortUpChange port up s
  | .feedChange feedB level => Sys2Proof.Machine.execFeedChange feedB level s
  | .modeReqHold src value => Sys2Proof.Machine.execModeReqHold src value s
  | .modeReqReset src value => Sys2Proof.Machine.execModeReqReset src value s
  | .modeReqResetNoDrain src value => Sys2Proof.Machine.execModeReqResetNoDrain src value s
  | .modeReqCeremony src value => Sys2Proof.Machine.execModeReqCeremony src value s
  | .modeReqOperational src value => Sys2Proof.Machine.execModeReqOperational src value s
  | .modeReqDrowse src value => Sys2Proof.Machine.execModeReqDrowse src value s
  | .modeReqFactory src value => Sys2Proof.Machine.execModeReqFactory src value s
  | .modeReqStruck src value zeroOk => Sys2Proof.Machine.execModeReqStruck src value zeroOk s
  | .modeReqRetired src value zeroOk => Sys2Proof.Machine.execModeReqRetired src value zeroOk s
  | .armedLapse => Sys2Proof.Machine.execArmedLapse s
  | .drainComplete => Sys2Proof.Machine.execDrainComplete s
  | .supplyLoss sram => Sys2Proof.Machine.execSupplyLoss sram s
  | .resetInput lowNs => Sys2Proof.Machine.execResetInput lowNs s
  | .resetRelease => Sys2Proof.Machine.execResetRelease s
  | .islandStartComplete island => Sys2Proof.Machine.execIslandStartComplete island s
  | .firmwareAuthenticated block1 images => Sys2Proof.Machine.execFirmwareAuthenticated block1 images s
  | .firmwareRetry block1 images => Sys2Proof.Machine.execFirmwareRetry block1 images s
  | .selftestItemComplete item passed => Sys2Proof.Machine.execSelftestItemComplete item passed s
  | .drowseWake cause => Sys2Proof.Machine.execDrowseWake cause s
  | .drowseRefreshPass => Sys2Proof.Machine.execDrowseRefreshPass s
  | .gfCtrlWrite src value => Sys2Proof.Machine.execGfCtrlWrite src value s
  | .clockGateIdle island => Sys2Proof.Machine.execClockGateIdle island s
  | .powerGateIdle island => Sys2Proof.Machine.execPowerGateIdle island s
  | .domainSleepReqRise d => Sys2Proof.Machine.execDomainSleepReqRise d s
  | .domainSleepReqFall d => Sys2Proof.Machine.execDomainSleepReqFall d s
  | .vaultResponse message => Sys2Proof.Machine.execVaultResponse message s
  | .vaultTimeout => Sys2Proof.Machine.execVaultTimeout s
  | .bypass => Sys2Proof.Machine.execBypass s
  | .idcode => Sys2Proof.Machine.execIdcode s
  | .samplePreload => Sys2Proof.Machine.execSamplePreload s
  | .extest => Sys2Proof.Machine.execExtest s
  | .clamp => Sys2Proof.Machine.execClamp s
  | .highz => Sys2Proof.Machine.execHighz s
  | .ababryTestInstruction => Sys2Proof.Machine.execAbabryTestInstruction s
  | .meshFault channel kind value zeroOk => Sys2Proof.Machine.execMeshFault channel kind value zeroOk s
  | .meshDriftWarning channel value => Sys2Proof.Machine.execMeshDriftWarning channel value s
  | .sensorCondition sensor value zeroOk => Sys2Proof.Machine.execSensorCondition sensor value zeroOk s
  | .guardRelease => Sys2Proof.Machine.execGuardRelease s
  | .strikeOutFall => Sys2Proof.Machine.execStrikeOutFall s
  | .strikeClearRepeat zeroOk => Sys2Proof.Machine.execStrikeClearRepeat zeroOk s
  | .watchdogExpiry => Sys2Proof.Machine.execWatchdogExpiry s
  | .lbSelWrite src value => Sys2Proof.Machine.execLbSelWrite src value s
  | .lbAckWrite src value => Sys2Proof.Machine.execLbAckWrite src value s
  | .checkpoint src => Sys2Proof.Machine.execCheckpoint src s
  | .meshEnrol src => Sys2Proof.Machine.execMeshEnrol src s
  | .stage src value => Sys2Proof.Machine.execStage src value s
  | .confirm src => Sys2Proof.Machine.execConfirm src s
  | .setPassword => Sys2Proof.Machine.execSetPassword s
  | .setOfficer => Sys2Proof.Machine.execSetOfficer s
  | .challenge via => Sys2Proof.Machine.execChallenge via s
  | .response via => Sys2Proof.Machine.execResponse via s
  | .challengeExpiry => Sys2Proof.Machine.execChallengeExpiry s
  | .diagOpen frame => Sys2Proof.Machine.execDiagOpen frame s
  | .consoleRead frame => Sys2Proof.Machine.execConsoleRead frame s
  | .logRead frame => Sys2Proof.Machine.execLogRead frame s
  | .close frame => Sys2Proof.Machine.execClose frame s
  | .diagSessionTimeout => Sys2Proof.Machine.execDiagSessionTimeout s
  | .diagLockoutEnd => Sys2Proof.Machine.execDiagLockoutEnd s
  | .fence src kind index => Sys2Proof.Machine.execFence src kind index s
  | .unfence src kind index passed => Sys2Proof.Machine.execUnfence src kind index passed s
  | .supplyReturn => Sys2Proof.Machine.execSupplyReturn s
  | .powerOn => Sys2Proof.Machine.execPowerOn s
  | .rngOperationComplete take => Sys2Proof.Machine.execRngOperationComplete take s
  | .challengeRefusalLapse => Sys2Proof.Machine.execChallengeRefusalLapse s
  | .meshEnrolComplete means => Sys2Proof.Machine.execMeshEnrolComplete means s

end Sys2Proof.Machine
end

