-- ==== Sys2Proof/Machine/Tick.lean ====
section
/-! DEFINITION. What one microsecond brings when no command waits (notes/assumptions/2.md): the time, the islands the gaffer starts and powers
off (12 R331, R349; 14 R463), the reset the MP asks for (13 R363, 16 R443), and the generation of the keys in FACTORY (08 R249, 12 R345,
14 R396). -/

namespace Sys2Proof.Machine

/-- CORE_TIME and the always-on island's time advance; CORE_TIME stands still in HOLD (13 Table 13.4). -/
def advanceTime (s : State) : State :=
  { s with
    ao := { s.ao with time := s.ao.time + 1 },
    regs := { s.regs with coreTime := if s.modes.mode = .hold then s.regs.coreTime else s.regs.coreTime + 1 } }

/-- After an uncontainable fault or three unequal copies the MP unlocks and writes MODE_REQ with TARGET 0x2 and DRAIN 0, within 1 µs (13 R363,
16 R443). -/
def requestReset (s : State) : State :=
  if s.modes.resetDue && managementUp s then
    modeReqWrite .mp 0x02 true (setLock .mp (some (now s)) { s with modes := { s.modes with resetDue := false } })
  else s

/-- The lowest island that waits for its start. -/
def nextStart (s : State) : Option Nat := (List.range (islandCount s)).find? (waitsStart s)

/-- Islands with work have it now (R348). -/
def noteWork (s : State) : State :=
  let busy := workingIslands s
  s.gaffer.islands.foldl (fun t p => if busy.contains p.1 then setIsland p.1 { p.2 with idleSince := now s } t else t) s

/-- The gaffer starts one island rail per STAGGER interval; two rail ramps of 1 µs never overlap (12 R349). -/
def startNext (s : State) : State :=
  if s.modes.mode = .hold || s.modes.rstLow || s.modes.guardHeld then s
  else if s.gaffer.startAt ≠ 0 && now s < s.gaffer.startAt + max 1 s.gaffer.stagger.toNat then s
  else match nextStart s with
    | none => s
    | some i =>
      let s := setIsland i { islandAt s i with state := .starting, queued := false } s
      { s with gaffer := { s.gaffer with startAt := now s } }

/-- The switched islands with power, from the highest down. -/
def poweredIslands (s : State) : List Nat :=
  ((List.range (islandCount s)).filter fun i => 0 < i && islandPowered s i).reverse

/-- In HOLD one island goes off every 0.2 µs, and HOLD_READY rises with the last (14 R463). -/
def powerOff (s : State) : State :=
  if s.modes.mode ≠ .hold || s.modes.holdReady then s
  else
    let s := ((poweredIslands s).take 5).foldl (fun t i => setIsland i { islandAt t i with state := .off } t) s
    if (poweredIslands s).isEmpty then { s with modes := { s.modes with holdReady := true } } else s

/-- The bytes the generation draws: the DRK, the IDK's scalar, and K_V where its fuses are blank. -/
def factoryBytes (s : State) : Nat := 32 + scalarBytes p384 + (if s.chip.vaultKey.isNone then 32 else 0)

/-- Whether the generation can begin: in FACTORY without a DRK, with the RNG serving. -/
def canGenerate (s : State) : Bool :=
  s.modes.mode = .factory && s.ao.drk.isNone && rngServes s && s.rng.waiting.isEmpty && s.vault.outstanding.isNone &&
  factoryBytes s ≤ s.rng.buffer.length

/-- A new DRK and IDK: their check values go to the fuses, and the strike flag clears (12 R345). -/
def newKeys (b : Bytes) (s : State) : State :=
  let drk := b.take 32
  let d := scalarFrom p384.n (slice 32 (scalarBytes p384) b)
  { s with
    ao := { s.ao with drk := some drk, idk := some d, strikeFlag := false },
    chip := { s.chip with drkCheck := kdfCounter drk (ascii "TX7 DRK CHECK") [] 16, idkPublic := ecPublic p384 d } }

/-- The vault's part of the first generation: K_V fused and sent (14 R396); its acknowledgement writes the record, and that one's blows the
enrolled fuse (VaultPort.lean). -/
def programVault (key : Bytes) (s : State) : State :=
  vaultSend .programKey false 4 0 key { s with chip := { s.chip with vaultKey := some key } }

/-- The generation in FACTORY. -/
def generateKeys (s : State) : State :=
  if !canGenerate s then s
  else
    let first := s.chip.vaultKey.isNone
    let r := takeBuffer (factoryBytes s) s
    let s := newKeys r.1 r.2
    if first then programVault (r.1.drop (32 + scalarBytes p384)) s else enrol s

/-- What an operation under the IDK does on its core. -/
def runIdk : IdkJob → State → State
  | .checkpoint drawn => checkpointSigned drawn
  | .package f drawn => packageSealed f drawn
  | .peer => staticSecret
  | .secret f owner => installSecret f owner

/-- The first operation under the IDK that waits, where a shielded core is free now. -/
def serveIdk (s : State) : State :=
  match s.units.idk with
  | j :: js => onShielded (fun t => runIdk j { t with units := { t.units with idk := js } }) id s
  | [] => s

/-- One idle microsecond; requests for random bytes that one given up has made way for are served, the MP goes on reading the image of a
STAGE, and accesses whose hold has ended are answered. -/
def idleTick (s : State) : State :=
  answerHeld <| stageStep (generateKeys (serveIdk <| serveWaiting <| powerOff (startNext (noteWork (requestReset (advanceTime s))))))

end Sys2Proof.Machine
end

