-- ==== Sys2Proof/WellFormed.lean ====
section
/-! DEFINITION. Which commands are well formed: the operands whose range a type does not give. A command that is not well
formed names nothing the outside world can do; its meaning changes nothing. -/

namespace Sys2Proof

/-- At most 64 bytes, the beat of a fabric port (14 R376). -/
def beatOk (data : Bytes) : Bool := data.length ≤ 64

/-- Whether a command's operands lie in their ranges. -/
def Instr.wellFormed : Instr → Bool
  | .fabricReadResponse _ _ data _ => beatOk data
  | .trimWindowEnd _ ones => ones ≤ 1024
  | .adaptiveProportionWindowEnd _ bits => bits.length = 128
  | .vaultResponse message => message.length = 184
  | .meshEnrolComplete means => means.length = 8
  | .tripleScrub .registerFile loc _ => loc.toNat < 2 ^ 20
  | .tripleScrub .callSheet loc _ => loc.toNat % 2 ^ 11 < 0x400
  | .tripleScrub .keyStore loc _ => loc.toNat < 2 ^ 17
  | .tripleScrub .alwaysOn loc _ => loc = 0
  | .firmwareAuthenticated block1 _ => block1.all fun b => b.length = 128
  | .firmwareRetry block1 _ => block1.all fun b => b.length = 128
  | _ => true

end Sys2Proof
end

