-- ==== Sys2Proof/Safety.lean ====
section
/-! DEFINITION. What a safe run is, and the other terms that claims use. -/

namespace Sys2Proof.Machine

/-- A step that ends in a next state: no fault and no refusal. -/
def Safe (s : State) : Prop := ∃ t, step s = .next t

/-- Whether nothing holds up a 64-bit write: no earlier access of its source is held, and DIRECT_DIGEST does not hold this one (13 R355). -/
def notHeld (src : Source) (offset : BitVec 20) (s : State) : Bool :=
  !heldUp { src := src, size := .w64, offset := offset, write := true, value := 0, tag := 0 } s

/-- Whether a write of the Manager or the MP to a register of the Manager window reaches it at once: the Manager's where 12 Table 12.3 has the
port accept the offset and fewer than 64 accesses are outstanding, the MP's in every mode in which the MP runs; and nothing holds it up. -/
def reaches (src : Source) (offset : BitVec 20) (s : State) : Bool :=
  match src with
  | .manager => writable offset s && !portFull s && notHeld .manager offset s
  | .mp => s.modes.mode ≠ .hold && notHeld .mp offset s
  | .function _ | .outranked _ => false

/-- The state in which such a write finds the register: the port has answered the Manager without an error; the MP's path is its own. -/
def atPort (src : Source) (s : State) : State :=
  match src with
  | .manager => answered (accept s)
  | _ => s

/-- A write to a tenant's window reaches it at once: the function is implemented and not FREE, in a mode that holds tenants, fewer than 64
accesses are outstanding, and none of the function's is held. -/
def reachesTenant (f : Func) (s : State) : Bool := windowOpen f s && !portFull s && notHeld (.function f) 0 s

/-- Whether an event's STATUS bit is set. -/
def raised (s : State) (e : Nat) : Bool := s.events.status.getLsbD e

/-- A state but for its event registers and the logbook, which are another's: what a raise and an entry may change. -/
def withLog (s t : State) : State := { s with events := t.events, log := t.log, ao := { s.ao with lastEntry := t.ao.lastEntry } }

/-- What a strike leaves (15 Table 15.3, R417): the keys gone, every tenant, context and take ended, the flag and STRIKE_OUT set, STRUCK entered. -/
def struckFrom (zeroOk : Bool) (s t : State) : Prop :=
  t.modes.mode = .struck ∧ t.modes.prev = s.modes.mode ∧ t.modes.busy = false ∧ t.ao.drk = none ∧ t.ao.idk = none ∧ t.ao.strikeFlag = true ∧
  t.ao.verified = zeroOk ∧ t.ao.strikeOut = some s.ao.time ∧ t.ao.strikes = sat16 s.ao.strikes ∧ t.keys.slots = [] ∧ t.keys.secrets = [] ∧
  t.tenants = [] ∧ t.reels = [] ∧ t.dailies = [] ∧ t.takes = [] ∧ t.slates = [] ∧ t.rng.buffer = [] ∧ t.rng.drbg = none ∧
  raised t 0x20 = true ∧ raised t 0x10 = true ∧ t.chip = s.chip

/-- No vault write waits or is outstanding, and K_V is programmed. -/
def vaultIdle (s : State) : Prop :=
  s.vault.outstanding = none ∧ s.vault.queued = VaultChange.none ∧ s.vault.block1 = [] ∧ s.chip.vaultKey.isSome = true

/-- A vault WRITE of a block's data is outstanding, sent with the last WCOUNT and a nonce. -/
def vaultWrites (why : VaultWhy) (block : Nat) (data : Bytes) (s t : State) : Prop :=
  ∃ k nonce, s.chip.vaultKey = some k ∧ t.vault.outstanding =
    some { why := why, message := vaultMessage k 2 block s.vault.wcount nonce data, reissued := false, sentAt := now s }

/-- No context of a reel or a dailies has changed: at most when one was last used, in the order by which the cache replaces them (02 R42). -/
def contextsStay (s t : State) : Prop :=
  (∀ k, tableGet ReelObj.reset t.reels k = { tableGet ReelObj.reset s.reels k with used := (tableGet ReelObj.reset t.reels k).used }) ∧
  (∀ k, tableGet DailiesObj.reset t.dailies k = { tableGet DailiesObj.reset s.dailies k with used := (tableGet DailiesObj.reset t.dailies k).used }) ∧
  t.sched = { s.sched with clock := t.sched.clock }

/-- A shielded core is idle and its island runs, so that an operation of the core's own takes it at once (07 R198). -/
def shieldedFree (s : State) : Prop := ∃ i ∈ idleShielded s, unitReady s 5 i = true

/-- The islands' records are another's: what an operation of the core's own may change of the gaffer. -/
def withIslands (s t : State) : State := { s with gaffer := { s.gaffer with islands := t.gaffer.islands } }

/-- A guarded row's registers afterwards: the port has answered, and the writer's lock is closed. -/
def closedRegs (src : Source) (s : State) : Regs := (setLock src none (atPort src s)).regs

/-- The sparse tables are in their canonical form: tenants, reels, dailies, slots, event vectors and islands. -/
def tablesOk (s : State) : Bool :=
  tableOk Tenant.reset s.tenants && tableOk ReelObj.reset s.reels && tableOk DailiesObj.reset s.dailies && tableOk Slot.reset s.keys.slots &&
  tableOk Vec.reset s.events.vectors && tableOk Island.reset s.gaffer.islands

/-- Whether a request to an address goes out at once: its domain is awake, and the port it goes to serves and has a free tag. -/
def issuable (write : Bool) (addr : Word) (s : State) : Bool :=
  let p := routePort s (addrPort addr)
  (freeTag (outstandingOn s p write) 1024).isSome && !asleep s addr && portServes s p

/-- A request is outstanding on the port its address goes to, under some tag. -/
def issued (write : Bool) (addr : Word) (data : Bytes) (len func : Nat) (purpose : Purpose) (s t : State) : Prop :=
  ∃ r ∈ outstandingOn t (routePort s (addrPort addr)) write,
    r.addr = addr ∧ r.data = data ∧ r.len = len ∧ r.func = func ∧ r.purpose = purpose ∧ r.issues = 1

/-- A function's REEL_CMD mailbox and doorbells are reached and have nothing that waits. -/
def mailboxFree (f : Func) (s : State) : Prop :=
  reachesTenant f s = true ∧ (tenantOf s f.toNat).rc.busy = false ∧ (tenantOf s f.toNat).rc.writing = false ∧ (tenantOf s f.toNat).waiting = []

/-- A take can start its present code, of an opcode: it is ready, its reel is not aborted, and the budget and the stage area allow the code. -/
def codeStarts (id opcode : Nat) (t : Take) (s : State) : Prop :=
  takeOf s id = some t ∧ t.phase = .ready ∧ codeOpcode (codeAt t) = opcode ∧ aborted s t = false ∧
  t.count + 1 ≤ (tenantOf s t.tenant).sheet.budget ∧ codeRangesOk (iterIndex t) (codeAt t) = true

/-- A link frame of a type, next in sequence, opens to a payload on a port (11 R308). -/
def opensAs (type : Nat) (port : Bool) (b p : Bytes) (s : State) : Prop :=
  let x := s.twin.session
  portHears port s = true ∧ frameOk b = true ∧ byteAt 1 b = type ∧ field 8 8 b = x.recvSeq + 1 ∧ ∃ keys, x.keys = some keys ∧
    gcmDec (aesEnc (frameKey keys x.lower)) (frameNonce x.lower (field 8 8 b)) (b.take 0x18) (slice 0x18 (field 4 2 b) b)
      (b.drop (b.length - 16)) = some p

/-- What no step may change of the fuses and straps, and what it may only set: the straps and the keys fused at manufacture stay, a fuse once
blown stays blown (14 Table 14.1, 12 R345). -/
def fusesKept (a b : Chip) : Prop :=
  b.size = a.size ∧ b.fabAddrBits = a.fabAddrBits ∧ b.fp1Present = a.fp1Present ∧ b.domLsb = a.domLsb ∧ b.tapMfr = a.tapMfr ∧
  b.deviceId = a.deviceId ∧ b.fwDefault = a.fwDefault ∧ b.fwKeyHash = a.fwKeyHash ∧ b.maintKeyHash = a.maintKeyHash ∧
  (a.enrolled = true → b.enrolled = true) ∧ (a.fieldLock = true → b.fieldLock = true) ∧ (a.retired = true → b.retired = true) ∧
  (a.vaultKey.isSome = true → b.vaultKey = a.vaultKey) ∧ (a.condKey.isSome = true → b.condKey = a.condKey)

/-- DRK and IDK are held together or not at all, and not while the strike flag stands (15 Table 15.3, 12 R345). -/
def struckHoldsNoKey (s : State) : Prop := s.ao.drk.isSome = s.ao.idk.isSome ∧ (s.ao.strikeFlag = true → s.ao.drk = none)

end Sys2Proof.Machine
end

