-- ==== Sys2Proof/Certificates/Slice0/Obligations.lean ====
section
/-! DEFINITION. The statements about the block, in the terms of Safety.lean. A frame is written as an equation: a state equal to another but for the
fields named leaves every other field as it was. -/

open Sys2Proof Sys2Proof.Machine

/-! ### Steps -/

/-- A step at a state with a command at the front of its queue is the meaning of that command at the state with the rest of the queue. The
model's: one queue of commands (log 1). -/
def Obligations.StepRunsFrontCommand : Prop :=
  ∀ (c : Instr) (s : State), step { s with pending := c :: s.pending } = exec c s

/-- An empty queue outside FACTORY, with no RESET to be asked for and no access that a hold has just let go: the queue stays empty, the fuses and
straps stay, and CORE_TIME counts one microsecond in every mode but HOLD, where it stays (the model's idle step, log 2). -/
def Obligations.IdleStepCountsTime : Prop :=
  ∀ s : State, s.pending = [] → s.modes.mode ≠ .factory → s.modes.resetDue = false →
    s.regs.held = [] ∨ s.modes.mode = .drowse →
    ∃ t, step s = .next t ∧ t.pending = [] ∧ t.chip = s.chip ∧ t.regs.coreTime = (if s.modes.mode = .hold then s.regs.coreTime else s.regs.coreTime + 1)

/-! ### Locks and the register port (13) -/

/-- UNLOCK and LOCK_REARM (R358, R359): the key opens the writer's lock alone, any other value closes it, sets BAD_KEY and raises event 0xE5; once
the microsecond after an UNLOCK has ended the lock closes, and nothing else changes. -/
def Obligations.LocksOpenAndClose : Prop :=
  (∀ (src : Source) (v : Word) (s : State), reaches src 0x00010 s →
    ∃ t, exec (.unlock src v) s = .next t ∧
      (v = 0xA5C3 → t = setLock src (some (now s)) (atPort src s) ∧ lockOpen src t = true) ∧
      (v ≠ 0xA5C3 → lockOpen src t = false ∧ raised t 0xE5 = true ∧ (∀ e, e ≠ 0xE5 → raised t e = raised s e) ∧
        t = { s with events := t.events, regs := { (setLock src none (atPort src s)).regs with badKey := true } })) ∧
  (∀ (src : Source) (t0 : Nat) (s : State), lockTime src s = some t0 → t0 + 1 ≤ now s →
    ∃ t, exec (.lockRearm src) s = .next t ∧ lockOpen src t = false ∧ t = setLock src none s ∧
      t = { s with regs := { s.regs with mgrOpen := t.regs.mgrOpen, mpOpen := t.regs.mpOpen } })

/-- WRITE_REGISTER (R354, R355, R370, 14 R384, R385): a size or an alignment the port does not take is an error response, under the access's tag,
and changes no register; an access of a source that has one held is held behind it; with 64 outstanding the port takes none; a write of an
EVT_STATUSi clears exactly the bits written as 1. The model's: the tag the containing chip gives (log 101). -/
def Obligations.RegisterPortWrites : Prop :=
  (∀ (src : Source) (size : AccSize) (o : BitVec 20) (v : Word) (s : State),
    src = .manager ∨ (∃ f, src = .function f) → portAnswers s = true →
    (portFull s = true → exec (.writeRegister src size o v) s = .next s) ∧
    (portFull s = false → (s.regs.held.any fun a => a.src = src) = true ∨ s.modes.mode = .drowse →
      exec (.writeRegister src size o v) s = .next { accept s with regs := { (accept s).regs with
        held := s.regs.held ++ [{ src := src, size := size, offset := o, write := true, value := v, tag := (accept s).regs.reqTag }] } }) ∧
    (portFull s = false → (s.regs.held.any fun a => a.src = src) = false → s.modes.mode ≠ .drowse → sizeOk size o.toNat = false →
      exec (.writeRegister src size o v) s = .next { accept s with regs := { (accept s).regs with
        rspErr := true, rspData := 0, rspTag := (accept s).regs.reqTag } })) ∧
  (∀ (src : Source) (i : Fin 4) (v : Word) (s : State), reaches src (BitVec.ofNat 20 (0x100 + 8 * i.val)) s →
    ∃ t, exec (.writeRegister src .w64 (BitVec.ofNat 20 (0x100 + 8 * i.val)) v) s = .next t ∧
      (∀ e, e < 256 → raised t e = (raised s e && !(decide (e / 64 = i.val) && v.getLsbD (e % 64)))) ∧
      t = { atPort src s with events := { s.events with status := t.events.status } })

/-- A write that would change a KEY field while the writer's lock is closed (R360) changes nothing but LOCK_STATE, and raises event 0xE2: said of
GF_CTRL, of a FENCE, of RNG_SRC_CFG, of CHECKPOINT and of EVT_TEST. -/
def Obligations.GuardedWriteNeedsTheLock : Prop :=
  ∀ (src : Source) (v : Word) (kind : BitVec 4) (index : BitVec 10) (s : State), lockOpen src s = false →
    let refused := fun (o : BitVec 20) (c : Instr) => ∃ t, exec c s = .next t ∧ raised t 0xE2 = true ∧
      (∀ e, e ≠ 0xE2 → raised t e = raised s e) ∧
      t = { s with events := t.events, regs := { (atPort src s).regs with
              denied := true, deniedCount := satInc s.regs.deniedCount, deniedOffset := o, deniedSrc := BitVec.ofNat 2 (srcCode src) } }
    (reaches src 0x04000 s → v &&& 0xFFFFFF0F ≠ gfCtrl s → refused 0x04000 (.gfCtrlWrite src v)) ∧
    (reaches src 0x08000 s → usValue 1 kind index ≠ s.units.cmd → refused 0x08000 (.fence src kind index)) ∧
    (reaches src 0x05010 s → bits 0 32 v ≠ rngCfgValue s → refused 0x05010 (.rngSrcCfgWrite src v)) ∧
    (reaches src 0x07028 s → refused 0x07028 (.checkpoint src)) ∧
    (reaches src 0x00188 s → bits 0 8 v ≠ 0 → refused 0x00188 (.evtTest src v))

/-! ### Events (13 R370 to R373) -/

/-- EVT_ENABLE_WRITE, EVT_VECTOR_WRITE, EVT_TEST with the lock open and EVENT_MESSAGE_WRITE (R370, R372, Table 13.9): a register takes its value
and no STATUS bit changes; EVT_TEST raises the event its low byte names, clears no STATUS bit and closes the lock; a started message becomes a
4-byte write of its vector's DATA as function 0x400 on the vector's port. -/
def Obligations.EventBlockCommands : Prop :=
  (∀ (src : Source) (v : Word) (i : Fin 5) (vec : BitVec 8) (upper : Bool) (s : State),
    tableOk Vec.reset s.events.vectors = true →
    (reaches src (if i.val < 4 then BitVec.ofNat 20 (0x120 + 8 * i.val) else 0x00198) s →
      ∃ t, exec (.evtEnableWrite src i v) s = .next t ∧ t.events.status = s.events.status ∧
        (∀ e, e < 256 → t.events.enable.getLsbD e = (if e / 64 = i.val then v.getLsbD (e % 64) else s.events.enable.getLsbD e)) ∧
        t.events.msgEn = (if i.val = 4 then bit 0 v else s.events.msgEn) ∧ t = { atPort src s with events := t.events }) ∧
    (reaches src (BitVec.ofNat 20 (0x1000 + 16 * vec.toNat + 8 * b2n upper)) s →
      ∃ t, exec (.evtVectorWrite src vec upper v) s = .next t ∧ t.events.status = s.events.status ∧
        (upper = false → (vecOf t vec.toNat).addr = v) ∧
        (upper = true → (vecOf t vec.toNat).data = BitVec.ofNat 32 v.toNat ∧ (vecOf t vec.toNat).port = v.getLsbD 32 ∧
          (vecOf t vec.toNat).masked = v.getLsbD 33) ∧
        (∀ w, w ≠ vec.toNat → vecOf t w = vecOf s w) ∧ t = { atPort src s with events := t.events })) ∧
  (∀ (src : Source) (v : Word) (s : State), reaches src 0x00188 s → lockOpen src s →
    ∃ t, exec (.evtTest src v) s = .next t ∧ raised t (bits 0 8 v) = true ∧ (∀ e, raised s e → raised t e) ∧ lockOpen src t = false ∧
      t = { s with events := t.events, regs := (setLock src none (atPort src s)).regs, log := t.log, ao := { s.ao with lastEntry := t.ao.lastEntry } }) ∧
  (∀ (vec : BitVec 8) (x : Vec) (s : State), s.events.started.find? (fun m => m.1 = vec.toNat) = some (vec.toNat, x) →
    messagesGo s.modes.mode = true → asleep s (x.addr &&& ~~~3) = false →
    (routePort s x.port = false ∨ s.chip.fp1Present = true) → (portOf s (routePort s x.port)).fenced = false →
    (portOf s (routePort s x.port)).writes = [] →
    ∃ t, exec (.eventMessageWrite vec) s = .next t ∧
      (portOf t (routePort s x.port)).writes = [{
        tag := 0, addr := x.addr &&& ~~~3, len := 4, data := toLe 4 x.data.toNat, func := 0x400, attr := 3, purpose := .eventMessage vec.toNat, issues := 1 }] ∧
      (t.events.started.any fun m => m.1 = vec.toNat) = false ∧
      t = { s with events := { s.events with started := t.events.started }, fabric := t.fabric })

/-! ### The direct-feed port (06 R189 to R196) -/

/-- DD_START on a free port, DD_DATA and DD_CANCEL by its owner (R190, R191, R194): the writer owns the port and a message of the algorithm and
length named begins; a word is appended first byte low, BUSY exactly where it completes a block; a cancellation frees the port and leaves
DD_DIGEST. -/
def Obligations.DirectPortTakesAMessage : Prop :=
  (∀ (src : Source) (v : Word) (s : State), reaches src 0x0F000 s → directRuns s.modes.mode = true → s.direct.busy = false →
    s.direct.active = false → bits 0 2 v = 1 → directAlg (BitVec.ofNat 4 (bits 4 4 v)) = true →
    ∃ t, exec (.ddStart src v) s = .next t ∧ t.direct.owner = some src ∧ t.direct.active = true ∧ t.direct.message = [] ∧ t.direct.words = 0 ∧
      t.direct.alg = BitVec.ofNat 4 (bits 4 4 v) ∧ t.direct.msgAlg = t.direct.alg ∧ t.direct.msgLen = s.direct.len.toNat ∧
      t.direct.seq = s.direct.seq + 1 ∧ t.direct.done = false ∧ t.direct.digest = s.direct.digest ∧ t = { atPort src s with direct := t.direct }) ∧
  (∀ (src : Source) (v : Word) (s : State), directRuns s.modes.mode = true → s.direct.busy = false → s.direct.active = true →
    s.direct.owner = some src →
    (reaches src 0x0F010 s → ∃ t, exec (.ddData src v) s = .next t ∧ t.direct.message = s.direct.message ++ toLe 8 v.toNat ∧
      t.direct.words = (s.direct.words + 1) % 2 ^ 38 ∧
      t.direct.busy = decide ((s.direct.message.length + 8) % hashBlock s.direct.msgAlg.toNat = 0) ∧
      t = { atPort src s with direct := { s.direct with
              message := t.direct.message, words := t.direct.words, busy := t.direct.busy, lastWrite := now s } }) ∧
    (reaches src 0x0F000 s → bits 0 2 v = 3 → ∃ t, exec (.ddCancel src v) s = .next t ∧ t.direct.active = false ∧ t.direct.owner = none ∧
      t.direct.message = [] ∧ t.direct.digest = s.direct.digest ∧
      t = { atPort src s with direct := t.direct, log := t.log, events := t.events, ao := { s.ao with lastEntry := t.ao.lastEntry } }))

/-- DD_FINISH by the owner, DD_COMPRESSION_DONE and DD_TIMEOUT (R193): with the words the length needs the final blocks begin and give the digest
of exactly the declared bytes; with another number LENGTH_MISMATCH is set and the digest reads zero; a silent owner loses the port with TIMED_OUT. -/
def Obligations.DirectPortEndsAMessage : Prop :=
  (∀ (src : Source) (v : Word) (s : State), reaches src 0x0F000 s → directRuns s.modes.mode = true → s.direct.busy = false →
    s.direct.active = true → s.direct.owner = some src → bits 0 2 v = 2 →
    ∃ t, exec (.ddFinish src v) s = .next t ∧
      (s.direct.words = ceilDiv s.direct.msgLen 8 → t.direct.busy = true ∧ t.direct.finishing = true ∧ t.direct.digest = s.direct.digest ∧
        t = { atPort src s with direct := t.direct }) ∧
      (s.direct.words ≠ ceilDiv s.direct.msgLen 8 → t.direct.lengthMismatch = true ∧ t.direct.digest = zeros 64 ∧ t.direct.active = false ∧
        t.direct.owner = none ∧
        t = { atPort src s with direct := t.direct, log := t.log, events := t.events, ao := { s.ao with lastEntry := t.ao.lastEntry } })) ∧
  (∀ s : State, directRuns s.modes.mode = true →
    let frame := fun t : State => t = { s with direct := t.direct, log := t.log, events := t.events, ao := { s.ao with lastEntry := t.ao.lastEntry } }
    (s.direct.busy = true → s.direct.finishing = true → s.regs.held = [] → ∃ t, exec .ddCompressionDone s = .next t ∧
      t.direct.digest = fit 64 (hashAlg s.direct.msgAlg.toNat 0 (s.direct.message.take s.direct.msgLen)) ∧ t.direct.done = true ∧
      t.direct.doneSeq = s.direct.seq ∧ t.direct.busy = false ∧ t.direct.active = false ∧ t.direct.owner = none ∧ frame t) ∧
    (s.direct.busy = false → s.direct.active = true → s.direct.lastWrite + 1000 ≤ now s → ∃ t, exec .ddTimeout s = .next t ∧
      t.direct.timedOut = true ∧ t.direct.active = false ∧ t.direct.owner = none ∧ t.direct.digest = s.direct.digest ∧ frame t))

/-! ### The logbook's registers (15 R424, R425) -/

/-- LB_SEL_WRITE, LB_ACK_WRITE and CHECKPOINT (R424, R425): a held entry is loaded, of one not held LB_ENTRY reads zero and MISS is set; LB_ACK
takes its value; CHECKPOINT with the lock open, random bytes there and a shielded core free signs the statement over the log's head, with RESULT 0, event 0xEF and one
further entry. An entry joins the log chained to the one before; in a full log it replaces the oldest, with event 0xEB where that was
unacknowledged, and at 3,072 unacknowledged entries event 0xEA is raised. -/
def Obligations.LogbookCommands : Prop :=
  (∀ (src : Source) (v : Word) (s : State),
    (reaches src 0x07018 s → ∃ t, exec (.lbSelWrite src v) s = .next t ∧ t.log.sel = v ∧
      (∀ p, s.log.entries.find? (fun q => q.1 = v.toNat) = some p → t.log.entry = p.2 ∧ t.log.miss = s.log.miss) ∧
      (s.log.entries.find? (fun q => q.1 = v.toNat) = none → t.log.entry = zeroBytes 64 ∧ t.log.miss = true) ∧
      t = { atPort src s with log := { s.log with sel := t.log.sel, entry := t.log.entry, miss := t.log.miss } }) ∧
    (reaches src 0x07010 s → exec (.lbAckWrite src v) s = .next { atPort src s with log := { s.log with ack := v } })) ∧
  (∀ (src : Source) (s : State), reaches src 0x07028 s → lockOpen src s → checkpointMode s.modes.mode = true → checkpointBusy s = false →
    s.rng.waiting = [] → rngServes s = true → scalarBytes p384 ≤ s.rng.buffer.length → s.units.idk = [] →
    shieldedFree s → ∃ t, exec (.checkpoint src) s = .next t ∧ t.log.result = 0 ∧ raised t 0xEF = true ∧ lockOpen src t = false ∧
      t.log.sig = idkSign s (s.rng.buffer.take (scalarBytes p384)) (checkpointMessage s) ∧
      t.rng.buffer = s.rng.buffer.drop (scalarBytes p384) ∧
      t = { s with
        regs := (setLock src none (atPort src s)).regs, rng := t.rng, log := t.log, events := t.events, ao := { s.ao with lastEntry := t.ao.lastEntry },
        gaffer := { s.gaffer with islands := t.gaffer.islands } }) ∧
  (∀ (body : Bytes) (s : State),
    let n := (nextEntry s).1
    let t := chainEntry body s
    let full := 4096 ≤ s.log.entries.length
    let oldest := (s.log.entries.headD (0, [])).1
    t.log.head = n ∧ t.log.chain = (sha256 ((nextEntry s).2 ++ toLe 8 n ++ body)).take 16 ∧
    t.log.entries = (if full then s.log.entries.drop 1 else s.log.entries) ++ [(n, toLe 8 n ++ body ++ t.log.chain)] ∧
    (full → s.log.ack.toNat < oldest → t.log.overwrote = true ∧ t.log.lost = satInc s.log.lost ∧ raised t 0xEB = true) ∧
    (¬full ∨ oldest ≤ s.log.ack.toNat → t.log.overwrote = s.log.overwrote ∧ t.log.lost = s.log.lost ∧ raised t 0xEB = raised s 0xEB) ∧
    ((t.log.entries.filter fun p => s.log.ack.toNat < p.1).length = 3072 → raised t 0xEA = true) ∧
    t = withLog { s with log := t.log } t)

/-! ### Units (16 R443 to R446) -/

/-- FENCE and UNFENCE with the lock open, and UNCONTAINABLE_FAULT (R443, R445): a healthy unit is fenced with event 0x81, no other is, and
OPERATIONAL becomes DEGRADED; a fenced one that passes its test is healthy again with event 0x82, one that fails stays fenced with FAULT_DETECTED
and event 0x83; an uncontainable fault stops slate reads with event 0x88, and a RESET is due. The model's: the outcome of the unit's test is the row's operand (log
3). -/
def Obligations.UnitsAreFencedAndReturned : Prop :=
  (∀ (src : Source) (kind : BitVec 4) (index : BitVec 10) (s : State), reaches src 0x08000 s → lockOpen src s → pairs s.modes.mode = true →
    kind.toNat ≤ 5 → index.toNat < unitCount s kind.toNat → unitFenced s kind.toNat index.toNat = false → s.takes = [] →
    ∃ t, exec (.fence src kind index) s = .next t ∧ unitFenced t kind.toNat index.toNat = true ∧
      (∀ k i, ¬(k = kind.toNat ∧ i = index.toNat) → unitFenced t k i = unitFenced s k i) ∧
      t.units.result = 0 ∧ t.units.fences = satInc s.units.fences ∧ raised t 0x81 = true ∧
      t.modes.mode = (if s.modes.mode = .operational then .degraded else s.modes.mode) ∧
      t = { s with
        units := t.units, regs := t.regs, events := t.events, log := t.log, ao := { s.ao with lastEntry := t.ao.lastEntry },
        modes := { s.modes with mode := t.modes.mode, prev := t.modes.prev } }) ∧
  (∀ (src : Source) (kind : BitVec 4) (index : BitVec 10) (passed : Bool) (s : State), reaches src 0x08000 s → lockOpen src s →
    pairs s.modes.mode = true → kind.toNat ≤ 5 → index.toNat < unitCount s kind.toNat → unitFenced s kind.toNat index.toNat = true →
    ∃ t, exec (.unfence src kind index passed) s = .next t ∧ unitFenced t kind.toNat index.toNat = !passed ∧
      (passed = true → t.units.result = 0 ∧ t.units.unfences = satInc s.units.unfences ∧ raised t 0x82 = true) ∧
      (passed = false → t.units.result = 0x0601 ∧ t.units.unfences = s.units.unfences ∧ raised t 0x83 = true ∧ t.modes = s.modes) ∧
      t = { s with
        units := t.units, regs := t.regs, events := t.events, log := t.log, ao := { s.ao with lastEntry := t.ao.lastEntry },
        modes := { s.modes with mode := t.modes.mode, prev := t.modes.prev } }) ∧
  (∀ s : State, s.modes.mode ≠ .hold → s.modes.mode ≠ .drowse →
    ∃ t, exec .uncontainableFault s = .next t ∧ raised t 0x88 = true ∧ readsOn t = false ∧
      t = { s with
        events := t.events, log := t.log, ao := { s.ao with lastEntry := t.ao.lastEntry }, 
        modes := { s.modes with readsStopped := true, resetDue := true } })

/-! ### The gaffer and the power-domain handshake (12 R348 to R350, 14 R388, R389) -/

/-- GF_CTRL_WRITE with the lock open, CLOCK_GATE_IDLE, POWER_GATE_IDLE and ISLAND_START_COMPLETE (R348 to R350): the three fields take the value;
an island idle for its limit is gated, a starting one runs, and no other island changes; the last one to start in RESET with the firmware
authenticated brings SELFTEST (Table 12.4). -/
def Obligations.GafferAndIslands : Prop :=
  (∀ (src : Source) (v : Word) (s : State), reaches src 0x04000 s → lockOpen src s →
    ∃ t, exec (.gfCtrlWrite src v) s = .next t ∧ t.gaffer.idlePwr = v.extractLsb' 16 16 ∧ t.gaffer.idleClk = v.extractLsb' 8 8 ∧
      t.gaffer.stagger = v.extractLsb' 0 4 ∧ lockOpen src t = false ∧
      t = { s with
        gaffer := t.gaffer, regs := (setLock src none (atPort src s)).regs,
        units := { s.units with owners := t.units.owners, regs := t.units.regs } }) ∧
  (∀ (i : Nat) (s : State), tableOk Island.reset s.gaffer.islands = true →
    let others := fun t : State => ∀ j, j ≠ i → islandAt t j = islandAt s j
    (clockIdle s i = true → (islandAt s i).state = .running → ∃ t, exec (.clockGateIdle i) s = .next t ∧
      (islandAt t i).state = .clockGated ∧ others t ∧ t = { s with gaffer := { s.gaffer with islands := t.gaffer.islands } }) ∧
    (powerIdle s i = true → (islandAt s i).state = .running ∨ (islandAt s i).state = .clockGated →
      ∃ t, exec (.powerGateIdle i) s = .next t ∧ (islandAt t i).state = .powerGated ∧ others t ∧
        t = { s with
          gaffer := { s.gaffer with islands := t.gaffer.islands }, units := { s.units with owners := t.units.owners, regs := t.units.regs } }) ∧
    ((islandAt s i).state = .starting → s.modes.mode ≠ .reset ∨ s.modes.authenticated = false ∨ islandsStarted (islandRuns i s) = false →
      ∃ t, exec (.islandStartComplete i) s = .next t ∧
        (islandAt t i).state = .running ∧ others t ∧ t = { s with gaffer := { s.gaffer with islands := t.gaffer.islands } }) ∧
    ((islandAt s i).state = .starting → s.modes.mode = .reset → s.modes.authenticated = true → islandsStarted (islandRuns i s) = true →
      ∃ t, exec (.islandStartComplete i) s = .next t ∧ t.modes.mode = .selftest ∧ t.modes.prev = .reset ∧ t.modes.items = startItems s ∧
        t.modes.authenticated = false ∧ (islandAt t i).state = .running ∧ raised t 0x20 = true))

/-- DOMAIN_SLEEP_REQ_RISE and _FALL (R389): the domain is asleep from the rise to the fall; it is acknowledged exactly while it is asleep and no
request to it is outstanding. -/
def Obligations.DomainSleepHandshake : Prop :=
  ∀ (d : Fin 16) (s : State), s.fabric.held = [] → messageWaits s = false →
    let acked := fun t : State => ∀ e, e < 16 → t.fabric.sleepAck.getLsbD e = (t.fabric.sleepReq.getLsbD e &&
      !((t.fabric.port0.reads ++ t.fabric.port0.writes ++ t.fabric.port1.reads ++ t.fabric.port1.writes).any fun r => domainOf t r.addr = e))
    let only := fun t : State => t = { s with fabric := { s.fabric with sleepReq := t.fabric.sleepReq, sleepAck := t.fabric.sleepAck } }
    (∃ t, exec (.domainSleepReqRise d) s = .next t ∧
      (∀ e, t.fabric.sleepReq.getLsbD e = (s.fabric.sleepReq.getLsbD e || decide (e = d.val))) ∧ acked t ∧ only t) ∧
    (∃ t, exec (.domainSleepReqFall d) s = .next t ∧
      (∀ e, t.fabric.sleepReq.getLsbD e = (s.fabric.sleepReq.getLsbD e && !decide (e = d.val))) ∧ acked t ∧ only t)

/-! ### The test port (14 R407, R408) -/

/-- The rows of the test port (14 R407, R408): BYPASS, IDCODE and SAMPLE/PRELOAD always load; EXTEST, CLAMP and HIGHZ do where the field lock is
intact or the mode permits, else they load as BYPASS with event 0x1E; ABABRY_TEST_INSTRUCTION, where it is accepted, first clears the stage areas
and what the units hold. -/
def Obligations.TestPortInstructions : Prop :=
  (∀ s : State,
    exec .bypass s = .next { s with tap := { s.tap with instr := .bypass } } ∧
    exec .samplePreload s = .next { s with tap := { s.tap with instr := .samplePreload } } ∧
    exec .idcode s = .next { s with tap := { instr := .idcode, captured := 0x14807001 ||| (s.chip.tapMfr.setWidth 32 <<< 1) } } ∧
    ∀ p ∈ [(Instr.extest, TapInstr.extest), (.clamp, .clamp), (.highz, .highz)],
      (s.chip.fieldLock = false ∨ s.modes.mode ∈ [Mode.struck, .maintenance, .factory, .retired] →
        exec p.1 s = .next { s with tap := { s.tap with instr := p.2 } }) ∧
      (s.chip.fieldLock = true → s.modes.mode ∉ [Mode.struck, .maintenance, .factory, .retired] →
        ∃ t, exec p.1 s = .next t ∧ t.tap = { s.tap with instr := .bypass } ∧ raised t 0x1E = true ∧
          t = { s with tap := t.tap, events := t.events, log := t.log, ao := { s.ao with lastEntry := t.ao.lastEntry } })) ∧
  (∀ s : State,
    (s.chip.fieldLock = false ∨ s.modes.mode ∈ [Mode.maintenance, .factory, .retired] →
      ∃ t, exec .ababryTestInstruction s = .next t ∧ t.tap = { s.tap with instr := .ababry } ∧ (∀ u ∈ t.takes, u.stage = []) ∧
        t.units.owners = s.units.pins ∧ t.units.regs = [] ∧
        t = { s with
          tap := t.tap, takes := s.takes.map fun u => { u with stage := [] }, units := { s.units with owners := s.units.pins, regs := [] } }) ∧
    (s.chip.fieldLock = true → s.modes.mode ∉ [Mode.maintenance, .factory, .retired] →
      ∃ t, exec .ababryTestInstruction s = .next t ∧ t.tap = { s.tap with instr := .bypass } ∧ raised t 0x1E = true ∧
        t = { s with tap := t.tap, events := t.events, log := t.log, ao := { s.ao with lastEntry := t.ao.lastEntry } }))

/-! ### Modes (12 R327 to R346) -/

/-- The rows of MODE_REQ (R328, R329): a request that Table 12.4 does not permit is MODE_DENIED with event 0x21 and changes nothing else; HOLD,
RESET, DROWSE and, outside SEALED, CEREMONY where they are permitted set PENDING, TARGET and BUSY with event 0x26, and the mode stays. -/
def Obligations.RequestsRefusedOrDrained : Prop :=
  (∀ (src : Source) (v : Word) (zeroOk : Bool) (s : State), reaches src 0x00028 s → lockOpen src s → s.modes.busy = false →
    let row := fun (c : Instr) (m : Mode) (named : Bool) => named = true → permits s.modes.mode m = false →
      ∃ t, exec c s = .next t ∧ t.modes.result = 0x0703 ∧ t.modes.busy = false ∧ t.modes.mode = s.modes.mode ∧ raised t 0x21 = true ∧
        t = { s with modes := t.modes, events := t.events, regs := (setLock src none (atPort src s)).regs }
    row (.modeReqHold src v) .hold (bits 0 4 v = 1) ∧ row (.modeReqReset src v) .reset (bits 0 5 v = 0x12) ∧
    row (.modeReqResetNoDrain src v) .reset (bits 0 5 v = 0x02) ∧ row (.modeReqCeremony src v) .ceremony (bits 0 4 v = 5) ∧
    row (.modeReqOperational src ⟨v, false⟩) .operational (bits 0 4 v = 6) ∧ row (.modeReqDrowse src v) .drowse (bits 0 4 v = 8) ∧
    row (.modeReqFactory src v) .factory (bits 0 4 v = 0xA) ∧ row (.modeReqStruck src v zeroOk) .struck (bits 0 4 v = 0xB) ∧
    row (.modeReqRetired src v zeroOk) .retired (bits 0 4 v = 0xC)) ∧
  (∀ (src : Source) (v : Word) (s : State), reaches src 0x00028 s → lockOpen src s → s.modes.busy = false →
    let row := fun (c : Instr) (m : Mode) (named : Bool) => named = true → permits s.modes.mode m = true →
      ∃ t, exec c s = .next t ∧ t.modes.pending = some m ∧ t.modes.busy = true ∧ t.modes.target = v.extractLsb' 0 4 ∧ t.modes.mode = s.modes.mode ∧
        raised t 0x26 = true ∧ t = { s with modes := t.modes, events := t.events, regs := (setLock src none (atPort src s)).regs }
    row (.modeReqHold src v) .hold (bits 0 4 v = 1) ∧ row (.modeReqReset src v) .reset (bits 0 5 v = 0x12) ∧
    row (.modeReqDrowse src v) .drowse (bits 0 4 v = 8) ∧
    row (.modeReqCeremony src v) .ceremony (bits 0 4 v = 5 && s.modes.mode ≠ .sealed))

/-- MODE_REQ_OPERATIONAL, _FACTORY and, from SEALED, _CEREMONY where Table 12.4 permits them: the mode is entered at once, OPERATIONAL becoming
DEGRADED where a unit is fenced; RESULT is 0, BUSY is clear, PREV is the old mode, event 0x20 is raised, and the locks are closed (R327, R337,
R339, R361). In the cycle in which an IMAGE_RESTORE has entered OPERATIONAL or DEGRADED the request ends with 0 and the mode stays (Table 12.11). -/
def Obligations.RequestsEnterAtOnce : Prop :=
  (∀ (src : Source) (v : Word) (s : State), reaches src 0x00028 s → lockOpen src s → s.modes.busy = false → serves s.modes.mode = true →
    bits 0 4 v = 6 → ∃ t, exec (.modeReqOperational src ⟨v, true⟩) s = .next t ∧ t.modes.mode = s.modes.mode ∧ t.modes.result = 0 ∧
      t.modes.busy = false ∧ t = { s with modes := t.modes, regs := (setLock src none (atPort src s)).regs }) ∧
  ∀ (src : Source) (v : Word) (s : State), reaches src 0x00028 s → lockOpen src s → s.modes.busy = false → 4 ≤ healthyCount s →
    let row := fun (c : Instr) (m : Mode) (named : Bool) (final : Mode) => named = true → permits s.modes.mode m = true →
      ∃ t, exec c s = .next t ∧ t.modes.mode = final ∧ t.modes.prev = s.modes.mode ∧ t.modes.result = 0 ∧ t.modes.busy = false ∧
        raised t 0x20 = true ∧ t.regs.mgrOpen = none ∧ t.regs.mpOpen = none ∧ t.tenants = s.tenants ∧ t.takes = s.takes ∧ t.chip = s.chip ∧
        t.ao.drk = s.ao.drk
    row (.modeReqOperational src ⟨v, false⟩) .operational (bits 0 4 v = 6) (if fencedByte s = 0 then .operational else .degraded) ∧
    row (.modeReqFactory src v) .factory (bits 0 4 v = 0xA) .factory ∧
    row (.modeReqCeremony src v) .ceremony (bits 0 4 v = 5 && s.modes.mode = .sealed) .ceremony

/-- MODE_REQ_RESET_NO_DRAIN and WATCHDOG_EXPIRY (R327 to R330): RESET at once; the always-on island keeps its keys, the chip its fuses and straps;
takes, tenants and register contents are gone and CORE_TIME is 0. -/
def Obligations.ResetsWithoutDrain : Prop :=
  ∀ (src : Source) (v : Word) (s : State),
    let isReset := fun (t : State) (kind : BitVec 3) => t.modes.mode = .reset ∧ t.modes.prev = s.modes.mode ∧ t.modes.resetKind = kind ∧
      raised t 0x20 = true ∧ t.regs = { Regs.reset with accesses := t.regs.accesses } ∧ t.takes = [] ∧ t.tenants = [] ∧ t.reels = [] ∧ t.dailies = [] ∧ t.keys = KeyStore.reset ∧
      t.units = Units.reset ∧ t.chip = s.chip ∧ t.ao.drk = s.ao.drk ∧ t.ao.idk = s.ao.idk ∧ t.ao.epochShadow = s.ao.epochShadow ∧
      t.pending = s.pending
    (reaches src 0x00028 s → lockOpen src s → bits 0 5 v = 0x02 → permits s.modes.mode .reset = true →
      ∃ t, exec (.modeReqResetNoDrain src v) s = .next t ∧ isReset t kindRequested) ∧
    (s.modes.mode ∉ [Mode.hold, .reset, .drowse] → ∃ t, exec .watchdogExpiry s = .next t ∧ isReset t kindWatchdog)

/-- MODE_REQ_STRUCK, MODE_REQ_RETIRED, ARMED_LAPSE and DROWSE_REFRESH_PASS (R342, R345, R346, R416, R417): a strike leaves no key, tenant, context
or take; the first request of RETIRED only arms, the second within 1 ms blows the retired fuse; ARMED clears after 1 ms; every 10 ms of DROWSE the
masks are refreshed. The model's: what the arming write leaves, VERIFIED and the retirement without a DRK (logs 50 and 85). -/
def Obligations.StrikesAndRetirement : Prop :=
  (∀ (src : Source) (v : Word) (zeroOk : Bool) (s : State), reaches src 0x00028 s → lockOpen src s → bits 0 4 v = 0xB →
    permits s.modes.mode .struck = true →
    ∃ t, exec (.modeReqStruck src v zeroOk) s = .next t ∧ t.modes.mode = .struck ∧ t.modes.prev = s.modes.mode ∧ t.modes.result = 0 ∧
      t.modes.busy = false ∧ t.ao.drk = none ∧ t.ao.idk = none ∧ t.ao.strikeFlag = true ∧ t.ao.verified = zeroOk ∧ t.ao.strikeOut.isSome = true ∧
      t.ao.strikes = sat16 s.ao.strikes ∧ t.keys.slots = [] ∧ t.keys.secrets = [] ∧ t.tenants = [] ∧ t.reels = [] ∧ t.dailies = [] ∧ t.takes = [] ∧
      t.slates = [] ∧ t.rng.buffer = [] ∧ t.rng.drbg = none ∧ raised t 0x20 = true ∧ raised t 0x10 = true ∧ t.chip = s.chip) ∧
  (∀ (src : Source) (v : Word) (zeroOk : Bool) (s : State), reaches src 0x00028 s → lockOpen src s → bits 0 4 v = 0xC →
    permits s.modes.mode .retired = true → s.modes.busy = false →
    ((s.modes.armed.all fun t0 => decide (t0 + 1000 ≤ now s)) = true → ∃ t, exec (.modeReqRetired src v zeroOk) s = .next t ∧
      t.modes.armed = some (now s) ∧ t.modes.mode = s.modes.mode ∧
      t = { s with modes := t.modes, regs := (setLock src none (atPort src s)).regs }) ∧
    (∀ t0, s.modes.armed = some t0 → now s < t0 + 1000 → ∃ t, exec (.modeReqRetired src v zeroOk) s = .next t ∧
      t.modes.mode = .retired ∧ t.chip = { s.chip with retired := true } ∧ t.ao.drk = none ∧ raised t 0x20 = true ∧
      (s.ao.drk.isSome = true → raised t 0x10 = true ∧ t.keys.slots = [] ∧ t.takes = []) )) ∧
  (∀ s : State,
    (∀ t0, s.modes.armed = some t0 → t0 + 1000 ≤ now s → exec .armedLapse s = .next { s with modes := { s.modes with armed := none } }) ∧
    (s.modes.mode = .drowse → s.modes.refreshAt + 10000 ≤ now s → exec .drowseRefreshPass s =
      .next { s with keys := { s.keys with refreshes := s.keys.refreshes + 1 }, modes := { s.modes with refreshAt := now s } }))

/-- DRAIN_COMPLETE (R328 steps 3 to 5) for CEREMONY and RESET: while a take, an undecided slate or a dailies message on
a sleeping domain is left nothing changes; then the target is
entered, RESULT is 0, BUSY and PENDING are clear. CEREMONY keeps tenants, reels, dailies and keys. -/
def Obligations.DrainEndsInTheTarget : Prop :=
  ∀ (m : Mode) (s : State), s.modes.pending = some m → m = .ceremony ∨ m = .reset →
    (drainIdle s = false → exec .drainComplete s = .next s) ∧
    (drainIdle s = true → ∃ t, exec .drainComplete s = .next t ∧ t.modes.mode = m ∧ t.modes.prev = s.modes.mode ∧ t.modes.result = 0 ∧
      t.modes.busy = false ∧ t.modes.pending = none ∧ raised t 0x20 = true ∧
      (m = .ceremony → t.tenants = s.tenants ∧ t.reels = s.reels ∧ t.dailies = s.dailies ∧ t.keys = s.keys ∧ t.chip = s.chip))

/-! ### Resets, supplies and the start (12 R330 to R336, 14 R402, R403, 15 R427) -/

/-- SUPPLY_LOSS, SUPPLY_RETURN, RESET_INPUT of at least 100 ns, RESET_RELEASE and POWER_ON (R330, R402, R403, Table 12.5): the mode each leaves,
and that only a power-on takes the keys of the always-on island. The model's: POWER_ON leaves HOLD with the supplies absent (log 51). -/
def Obligations.SuppliesAndResets : Prop :=
  ∀ (sram : Bool) (ns : Nat) (s : State),
    let keeps := fun t : State => t.ao.drk = s.ao.drk ∧ t.ao.idk = s.ao.idk ∧ t.ao.epochShadow = s.ao.epochShadow ∧ t.chip = s.chip ∧ t.pending = s.pending
    let fresh := fun t : State => t.takes = [] ∧ t.tenants = [] ∧ t.keys = KeyStore.reset ∧ t.rng = Rng.reset
    (s.modes.mode ≠ .hold → ∃ t, exec (.supplyLoss sram) s = .next t ∧ t.modes.mode = .hold ∧ t.modes.prev = s.modes.mode ∧ keeps t ∧ fresh t ∧
      t.regs.coreTime = s.regs.coreTime ∧ t.log = Logbook.reset ∧
      t.modes.coreOk = (s.modes.coreOk && sram) ∧ t.modes.sramOk = (s.modes.sramOk && !sram)) ∧
    (s.modes.mode = .hold → s.modes.coreOk = false ∨ s.modes.sramOk = false → s.modes.rstLow = false → ∃ t, exec .supplyReturn s = .next t ∧
      t.modes.mode = .reset ∧ t.modes.prev = .hold ∧ t.modes.resetKind = s.modes.resetKind ∧ keeps t ∧ fresh t ∧ t.regs.coreTime = 0) ∧
    (100 ≤ ns → s.modes.mode ≠ .hold → ∃ t, exec (.resetInput ns) s = .next t ∧ t.modes.mode = .reset ∧ t.modes.rstLow = true ∧
      t.modes.resetKind = kindInput ∧ keeps t ∧ fresh t) ∧
    (s.modes.rstLow = true → ∃ t, exec .resetRelease s = .next t ∧ t.modes.rstLow = false ∧
      t.modes.mode = (if s.modes.mode = .hold && s.modes.coreOk && s.modes.sramOk then .reset else s.modes.mode) ∧ keeps t) ∧
    (∃ t, exec .powerOn s = .next t ∧ t.modes.mode = .hold ∧ t.ao.drk = none ∧ t.ao.idk = none ∧ t.ao.epochShadow = none ∧ t.chip = s.chip ∧ fresh t ∧
      t.pending = s.pending)

/-- FIRMWARE_AUTHENTICATED and FIRMWARE_RETRY (R331, R427): with the retired fuse blown the core is RETIRED; with a valid candidate and every
island started it enters SELFTEST with the items of Table 12.6 under way, and FW_VERSION is the image's; after a trial's one run SELFTEST reports
the fallback with event 0xED; with islands still to start the authenticated core stays in RESET; with no candidate it stays in RESET with ST_FAIL
0x08 and tries again in 1 s. The model's: event 0x22 once per series of tries (log 40). -/
def Obligations.FirmwareStartsTheCore : Prop :=
  ∀ (block1 : Option Bytes) (images : List FwRead) (s : State), s.modes.mode = .reset → (islandAt s 1).state = .running →
    (s.chip.retired = true → ∃ t, exec (.firmwareAuthenticated block1 images) s = .next t ∧ t.modes.mode = .retired) ∧
    (s.chip.retired = false → (islandAt s (islandOf s 4 0)).state = .running → s.modes.authenticated = false →
      let b := if s.chip.vaultKey.isSome then block1.filter block1Ok else none
      let runs := fun c : Instr =>
        (∀ img, bootChoice s b images = some img → islandsStarted s = true → ∃ t, exec c s = .next t ∧
          t.modes.mode = .selftest ∧ t.modes.prev = .reset ∧ t.modes.items = startItems s ∧ t.modes.stFail = 0 ∧ raised t 0x20 = true ∧
          t.regs.fwVersion = BitVec.ofNat 64 (field 8 8 img.2.2) ∧ t.fw.secver = field 0x10 4 img.2.2 ∧
          (s.chip.vaultKey.isSome = true → t.vault.outstanding.isSome = true) ∧ t.chip = s.chip ∧
          (fallsBack s b = true → t.fw.fallback = true ∧ raised t 0xED = true)) ∧
        (∀ img, bootChoice s b images = some img → islandsStarted s = false → ∃ t, exec c s = .next t ∧ t.modes.mode = .reset ∧
          t.modes.authenticated = true ∧ t.modes.stFail = 0 ∧ t.regs.fwVersion = BitVec.ofNat 64 (field 8 8 img.2.2) ∧
          t.fw.backAt = (if fallsBack s b then some img.2.1 else none) ∧ t.events = s.events) ∧
        (bootChoice s b images = none → ∃ t, exec c s = .next t ∧ t.modes.mode = .reset ∧ t.modes.stFail = 8 ∧
          t.modes.fwRetryAt = some (now s + 1000000) ∧ (s.modes.stFail ≠ 8 → raised t 0x22 = true))
      (s.modes.fwRetryAt = none → runs (.firmwareAuthenticated block1 images)) ∧
      (∀ t0, s.modes.fwRetryAt = some t0 → t0 ≤ now s → runs (.firmwareRetry block1 images)))

/-- SELFTEST_ITEM_COMPLETE of an item that can end while others are left (R332, R335): a passed unit leaves the list and nothing else changes; a
unit that fails is fenced with event 0x23; a failed item of Table 12.7 sets its ST_FAIL, raises event 0x22 and the core stays in SELFTEST. -/
def Obligations.SelftestItems : Prop :=
  ∀ (item : TestItem) (s : State), itemReady s item = true → s.modes.items.filter (· ≠ item) ≠ [] →
    (∀ u, itemUnit item = some u →
      exec (.selftestItemComplete item true) s = .next { s with modes := { s.modes with items := s.modes.items.filter (· ≠ item) } } ∧
      (unitFenced s u.1 u.2 = false → u.2 < unitCount s u.1 → ∃ t, exec (.selftestItemComplete item false) s = .next t ∧
        unitFenced t u.1 u.2 = true ∧ raised t 0x23 = true ∧ t.modes.items = s.modes.items.filter (· ≠ item) ∧ t.modes.mode = .selftest)) ∧
    (∀ code, (item, code) ∈ [(TestItem.drk, (1 : BitVec 8)), (.idk, 5), (.keyStore, 4), (.registerFile, 7)] →
      ∃ t, exec (.selftestItemComplete item false) s = .next t ∧ t.modes.mode = .selftest ∧ t.modes.stFail = code ∧ t.modes.items = [] ∧
        raised t 0x22 = true)

/-- DROWSE_WAKE (R343, R349): islands 1 to 6 that have no power wait for the gaffer's start, and nothing else changes; once they run and the MP has
resumed, the core is OPERATIONAL again, or DEGRADED where a unit is fenced, with events 0x20 and 0x29; tenants, rings and slots are as they were,
and no start has happened. The model's: the two moments of the wake (log 54). -/
def Obligations.WakeRestoresService : Prop :=
  (∀ (cause : WakeCause) (s : State), s.modes.mode = .drowse → wakes s cause = true → wakeReady s = false → tablesOk s = true →
    ∃ t, exec (.drowseWake cause) s = .next t ∧
      (∀ i, islandAt t i = (if i ∈ [1, 2, 3, 4, 5, 6] ∧ (islandAt s i).state ∈ [IslandState.off, .powerGated, .retained]
        then { islandAt s i with queued := true } else islandAt s i)) ∧
      t = { s with gaffer := { s.gaffer with islands := t.gaffer.islands } }) ∧
  ∀ (cause : WakeCause) (s : State), s.modes.mode = .drowse → wakes s cause = true → wakeReady s = true → s.regs.held = [] → s.fabric.held = [] →
    ∃ t, exec (.drowseWake cause) s = .next t ∧ t.modes.mode = (if fencedByte s = 0 then .operational else .degraded) ∧ t.modes.prev = .drowse ∧
      raised t 0x20 = true ∧ raised t 0x29 = true ∧ t.tenants = s.tenants ∧ t.reels = s.reels ∧ t.dailies = s.dailies ∧
      t.keys.slots = s.keys.slots ∧ t.vault = s.vault ∧ t.chip = s.chip

/-! ### The RNG (09 R255 to R275) -/

/-- TRIM_WINDOW_END, TRIM_TIMEOUT, REPETITION_COUNT_FAILURE, ADAPTIVE_PROPORTION_WINDOW_END and STARTUP_COMPLETE without the test pattern (R255 to
R259): a window moves TRIM by at most one and an in-band one ends TRIM; a rail, 40 ms in TRIM or a failed test, 41 equal bits in
succession across windows among them, is a FAILED source with its reason and event 0x40; a passed window counts, and in CONTRIB releases its
bytes. -/
def Obligations.SourcesTrimAndTest : Prop :=
  (∀ (i : Fin 16) (ones : Nat) (s : State), s.rng.sources.length = 16 → rngRuns s.modes.mode = true → sourceHealthy s i = true →
    5 ≤ healthyCount s →
    let x := sourceOf s i
    let only := fun t : State => (∀ j, j ≠ i.val → sourceOf t j = sourceOf s j) ∧
      t = { s with rng := { s.rng with sources := t.rng.sources }, events := t.events, log := t.log, ao := { s.ao with lastEntry := t.ao.lastEntry } }
    let trim := if 522 < ones then x.trim - 1 else if ones < 502 then x.trim + 1 else x.trim
    (s.rng.pattern = false → ones ≤ 1024 → x.trimFrom + 1000 ≤ now s → ∃ t, exec (.trimWindowEnd i ones) s = .next t ∧ (sourceOf t i).trim = trim ∧
      (sourceOf t i).ones = ones ∧ only t ∧
      (0 < trim → trim < 63 → t.events = s.events ∧ (sourceOf t i).inBand = decide (481 ≤ ones ∧ ones ≤ 543) ∧
        (sourceOf t i).state = (if x.state = .trim ∧ 481 ≤ ones ∧ ones ≤ 543 then .startup else x.state)) ∧
      (trim = 0 ∨ 63 ≤ trim → (sourceOf t i).state = .failed ∧ (sourceOf t i).reason = 3 ∧ raised t 0x40 = true)) ∧
    (x.state = .trim → x.trimAt + 40000 ≤ now s → ∃ t, exec (.trimTimeout i) s = .next t ∧ (sourceOf t i).state = .failed ∧
      (sourceOf t i).reason = 4 ∧ raised t 0x40 = true ∧ only t)) ∧
  (∀ (i : Fin 16) (b : Bytes) (s : State), s.rng.sources.length = 16 → s.rng.pattern = false → testsRun s i = true → 5 ≤ healthyCount s →
    let x := sourceOf s i
    let others := fun t : State => ∀ j, j ≠ i.val → sourceOf t j = sourceOf s j
    let fails := fun (c : Instr) (reason : Nat) => ∃ t, exec c s = .next t ∧ (sourceOf t i).state = .failed ∧
      (sourceOf t i).reason = reason ∧ raised t 0x40 = true ∧ others t ∧
      t = { s with rng := { s.rng with sources := t.rng.sources }, events := t.events, log := t.log, ao := { s.ao with lastEntry := t.ao.lastEntry } }
    let run := repetition x (bitsOfBytes b)
    fails (.repetitionCountFailure i) 1 ∧
    (b.length = 128 → run.2.2 = true → fails (.adaptiveProportionWindowEnd i b) 1) ∧
    (b.length = 128 → run.2.2 = false → 793 ≤ recurrences b → fails (.adaptiveProportionWindowEnd i b) 2) ∧
    (b.length = 128 → run.2.2 = false → recurrences b < 793 → ∃ t, exec (.adaptiveProportionWindowEnd i b) s = .next t ∧ (sourceOf t i).windows = x.windows + 1 ∧
      (sourceOf t i).state = x.state ∧ (sourceOf t i).runBit = run.1 ∧ (sourceOf t i).runLen = run.2.1 ∧ others t ∧ (x.state ≠ .contrib → t.rng.bits = s.rng.bits) ∧
      (x.state = .contrib → s.rng.state ≠ .failed → t.rng.bits.map (·.byte) = s.rng.bits.map (·.byte) ++ b) ∧
      t = { s with rng := { s.rng with sources := t.rng.sources, bits := t.rng.bits } }) ∧
    (x.state = .startup → 4 ≤ x.windows → ∃ t, exec (.startupComplete i) s = .next t ∧ (sourceOf t i).state = .contrib ∧ others t ∧
      t = { s with rng := { s.rng with sources := t.rng.sources } }))

/-- SEED_READY and DRBG_GENERATE with no request waiting (R260, R261, R263, R265): FACTORY draws a conditioning key whose fuses are blank, and without
one there is no seed; 512 released bytes make one seed, which instantiates or reseeds the DRBG or fails the RNG with its cause; 4,096 bytes of the DRBG join the buffer while they fit, and the buffer first filled ends STARTING with
event 0x41. -/
def Obligations.SeedsAndGeneration : Prop :=
  (∀ (found : RngCheck) (s : State), s.chip.condKey = none →
    (s.modes.mode ≠ .factory → exec (.seedReady found) s = .next s) ∧
    (s.modes.mode = .factory → s.rng.bits = [] → ∃ t, exec (.seedReady found) s = .next t ∧ (∃ k, t.chip.condKey = some k ∧ k.length = 32) ∧
      t = { s with chip := { s.chip with condKey := t.chip.condKey }, free := t.free })) ∧
  (∀ (found : RngCheck) (s : State), rngRuns s.modes.mode = true → s.rng.state ≠ .failed → 1 ≤ contribCount s → s.rng.waiting = [] →
    512 ≤ s.rng.bits.length → s.chip.condKey.isSome = true →
    let seed := seedOf s ((s.rng.bits.take 512).map (·.byte))
    let only := fun t : State => t.rng.bits = s.rng.bits.drop 512 ∧ t.rng.buffer = s.rng.buffer ∧ t.rng.sources = s.rng.sources ∧ t = { s with rng := t.rng }
    (found = .passed → fourRelease s = true → s.rng.drbg = none → s.rng.state = .starting → ∃ t, exec (.seedReady found) s = .next t ∧
      t.rng.drbg = some (drbgInstantiate (seed.take 48) (seed.drop 48) (drbgPers s)) ∧ t.rng.reseeds = (s.rng.reseeds + 1) % 2 ^ 32 ∧
      t.rng.reseedAt = now s ∧ t.rng.requests = 0 ∧ only t) ∧
    (∀ kv, found = .passed → fourRelease s = true → s.rng.drbg = some kv → s.rng.dueAt.isSome = true → ∃ t, exec (.seedReady found) s = .next t ∧
      t.rng.drbg = some (drbgReseed kv seed []) ∧ t.rng.dueAt = none ∧ t.rng.state = (if s.rng.state = .stalled then .ready else s.rng.state) ∧ only t) ∧
    (found ≠ .passed → ∃ t, exec (.seedReady found) s = .next t ∧ t.rng.state = .failed ∧ t.rng.cause = rngCause found ∧ t.rng.buffer = [] ∧
      t.rng.drbg = none ∧ raised t 0x42 = true)) ∧
  (∀ (kv : Bytes × Bytes) (s : State), s.rng.drbg = some kv → rngRuns s.modes.mode = true → s.rng.buffer.length + 4096 ≤ 65536 → s.rng.waiting = [] →
    ∃ t, exec (.drbgGenerate .passed) s = .next t ∧ t.rng.buffer = s.rng.buffer ++ (drbgGenerate kv [] 4096).1 ∧
      t.rng.drbg = some (drbgGenerate kv [] 4096).2 ∧ t.rng.requests = s.rng.requests + 1 ∧
      (s.rng.state = .starting → 65536 ≤ t.rng.buffer.length → t.rng.state = .ready ∧ raised t 0x41 = true) ∧
      (s.rng.state ≠ .starting → t.rng.state = s.rng.state ∧ t.events = s.events) ∧ t = { s with rng := t.rng, events := t.events })

/-- RESEED_DUE, RESEED_STALL, RNG_REQUEST_TIMEOUT, RESEED, RESTART, PATTERN, RNG_SRC_CFG_WRITE and RNG_RESEED_WRITE (R261, R264, R265, R267, R270,
R273 to R275): a reseed falls due by its period, its count or a command and stalls the RNG after 100 ms; a take whose request is 100 ms old ends
with RNG_NOT_READY; RESTART and a changed PATTERN return to STARTING; the registers take their values. The model's: RESTART keeps RESEEDS (log
58). -/
def Obligations.ReseedsAndRngRegisters : Prop :=
  (∀ (src : Source) (id : Nat) (s : State),
    let due := fun t : State => t.rng.dueAt = some (now s) ∧ (contribCount s < 4 → raised t 0x43 = true) ∧ (4 ≤ contribCount s → t.events = s.events)
    (mayFallDue s = true → s.rng.reseedAt + periodMicros s ≤ now s ∨ 2 ^ 20 ≤ s.rng.requests → ∃ t, exec .reseedDue s = .next t ∧ due t ∧
      t = { s with rng := { s.rng with dueAt := t.rng.dueAt }, events := t.events }) ∧
    (reaches src 0x05000 s → s.rng.state = .ready → s.rng.dueAt = none → ∃ t, exec (.reseed src) s = .next t ∧ due t ∧
      t = { s with
        rng := { s.rng with dueAt := t.rng.dueAt }, events := t.events,
        regs := (if lockOpen src s then setLock src none (atPort src s) else atPort src s).regs }) ∧
    (∀ t0, s.rng.dueAt = some t0 → t0 + 100000 ≤ now s → rngRuns s.modes.mode = true → s.rng.state = .ready →
      exec .reseedStall s = .next { s with rng := { s.rng with state := .stalled } }) ∧
    (∀ r u, s.rng.waiting = [r] → r.who = .take id → r.asked + 100000 ≤ now s → takeOf s id = some u → u.phase = .waitRandom →
      ∃ t, exec (.rngRequestTimeout (.take id)) s = .next t ∧ t.rng.waiting = [] ∧ ∃ w, takeOf t id = some w ∧ w.phase = .ended 0x0501)) ∧
  (∀ (src : Source) (on : Bool) (v : Word) (s : State), lockOpen src s → 4 ≤ healthyCount s → s.rng.state ≠ .failed →
    let restarts := fun t : State => t.rng.state = .starting ∧ t.rng.drbg = none ∧ t.rng.buffer = [] ∧ t.rng.reseeds = s.rng.reseeds ∧
      raised t 0x44 = true ∧ lockOpen src t = false ∧ t.keys = s.keys ∧ t.takes = s.takes ∧ t.tenants = s.tenants
    (reaches src 0x05000 s → restartMode s.modes.mode = true → ∃ t, exec (.restart src) s = .next t ∧ restarts t ∧ t.rng.pattern = s.rng.pattern) ∧
    (reaches src 0x05000 s → s.modes.mode = .factory → s.rng.pattern ≠ on → ∃ t, exec (.pattern src on) s = .next t ∧ restarts t ∧ t.rng.pattern = on) ∧
    (reaches src 0x05010 s → ∃ t, exec (.rngSrcCfgWrite src v) s = .next t ∧ t.rng.enable = v.extractLsb' 0 16 ∧ t.rng.vonNeumann = v.extractLsb' 16 16 ∧
      lockOpen src t = false ∧ t.tenants = s.tenants) ∧
    (reaches src 0x05018 s → ∃ t, exec (.rngReseedWrite src v) s = .next t ∧ t.rng.period = v.extractLsb' 0 16 ∧ lockOpen src t = false ∧
      t = { s with rng := t.rng, events := t.events, regs := (setLock src none (atPort src s)).regs }))

/-! ### Tamper (15 R410 to R419) -/

/-- MESH_FAULT, MESH_DRIFT_WARNING, SENSOR_CONDITION, GUARD_RELEASE, STRIKE_OUT_FALL, STRIKE_CLEAR_REPEAT, MESH_ENROL and MESH_ENROL_COMPLETE
(R411 to R415, R419): a channel's first fault strikes, in HOLD it clears the keys at once; 15 per cent of drift warns once and shows in MESH_DRIFT
until a sample is back within it; a sensor brings the
response of Table 15.2, and GUARD holds RESET until its release; STRIKE_OUT falls after 10 µs; a failed zero check is repeated with event 0x16;
enrolment in FACTORY leaves the means as the baseline. The model's: a strike in HOLD and the warning raised when it begins (logs 45 and 51). -/
def Obligations.TamperCommands : Prop :=
  (∀ (ch : Fin 8) (kind : MeshFault) (r : BitVec 16) (x : Sensor) (v : Int) (zeroOk : Bool) (s : State),
    let live := s.modes.mode ∉ [Mode.hold, .struck, .retired]
    let fault := s.ao.meshFault.getD ch 0 = 0 ∧ (kind = .drift → drifts s ch r.toNat 30 = true)
    let seen := setResist ch r s
    let sensed := setWarnBits (setSensor x v s)
    let response := responseTo x (judged x v (setSensor x v s))
    (fault → live → ∃ t, exec (.meshFault ch kind r zeroOk) s = .next t ∧ struckFrom zeroOk s t ∧ t.ao.lastCause = BitVec.ofNat 8 ch ∧
      raised t ch = true ∧ t.ao.meshFault = s.ao.meshFault.set ch (BitVec.ofNat 4 (meshCode kind)) ∧ t.ao.resist = s.ao.resist.set ch r) ∧
    (fault → s.modes.mode = .hold → ∃ t, exec (.meshFault ch kind r zeroOk) s = .next t ∧ t.modes = s.modes ∧ t.ao.drk = none ∧ t.ao.idk = none ∧
      t.ao.strikeFlag = true ∧ t.ao.lastCause = BitVec.ofNat 8 ch ∧ t.ao.strikes = sat16 s.ao.strikes ∧ t = { s with ao := t.ao }) ∧
    (seen = { s with ao := { s.ao with resist := s.ao.resist.set ch r, meshDrift := seen.ao.meshDrift } } ∧
      ∀ i : Fin 8, seen.ao.meshDrift.getLsbD i = (s.ao.meshDrift.getLsbD i && drifts s i ((s.ao.resist.set ch r).getD i 0).toNat 15)) ∧
    (drifts s ch r.toNat 15 = true → seen.ao.meshDrift.getLsbD ch = false → s.modes.mode ≠ .hold →
      ∃ t, exec (.meshDriftWarning ch r) s = .next t ∧ raised t (8 + ch) = true ∧
        t = withLog { seen with
          ao := { seen.ao with warns := min 0xFFFFFFFF (s.ao.warns + 1), meshDrift := seen.ao.meshDrift ||| BitVec.twoPow 8 ch },
          sens := { s.sens with warn := true } } t) ∧
    (drifts s ch r.toNat 15 = false ∨ seen.ao.meshDrift.getLsbD ch = true → exec (.meshDriftWarning ch r) s = .next seen) ∧
    (response = .none → exec (.sensorCondition x v zeroOk) s = .next sensed) ∧
    (response = .warn → responseTo x (judged x (sensorValue x s) s) ≠ .warn → s.modes.mode ≠ .hold →
      ∃ t, exec (.sensorCondition x v zeroOk) s = .next t ∧ raised t (sensorEvent x) = true ∧
        t = withLog { sensed with ao := { s.ao with warns := min 0xFFFFFFFF (s.ao.warns + 1) }, sens := { sensed.sens with warn := true } } t) ∧
    (response = .guard → s.modes.mode ≠ .hold → s.modes.guardHeld = false → ∃ t, exec (.sensorCondition x v zeroOk) s = .next t ∧
      t.modes.mode = .reset ∧ t.modes.prev = s.modes.mode ∧ t.modes.resetKind = kindGuard ∧ t.modes.guardHeld = true ∧ t.ao.guards = sat16 s.ao.guards ∧
      t.ao.drk = s.ao.drk ∧ t.ao.idk = s.ao.idk ∧ t.takes = [] ∧ t.tenants = []) ∧
    (response = .strike → live → ∃ t, exec (.sensorCondition x v zeroOk) s = .next t ∧ struckFrom zeroOk s t ∧
      t.ao.lastCause = BitVec.ofNat 8 (sensorEvent x)) ∧
    (s.modes.guardHeld = true → exec .guardRelease s = .next { s with modes := { s.modes with guardHeld := false } })) ∧
  (∀ (src : Source) (means : List (BitVec 16)) (zeroOk : Bool) (s : State),
    (∀ t0, s.ao.strikeOut = some t0 → t0 + 10 ≤ s.ao.time → exec .strikeOutFall s = .next { s with ao := { s.ao with strikeOut := none } }) ∧
    (s.ao.strikeFlag = true → s.ao.verified = false → s.modes.mode = .struck ∨ s.modes.mode = .retired →
      ∃ t, exec (.strikeClearRepeat zeroOk) s = .next t ∧ t.ao.verified = zeroOk ∧ raised t 0x16 = true ∧ t.keys.slots = [] ∧ t.keys.secrets = [] ∧
        t.tenants = [] ∧ t.takes = [] ∧ t.rng.buffer = [] ∧ t.rng.drbg = none ∧ t.modes = s.modes ∧ t.ao.strikes = s.ao.strikes ∧
        t.ao.lastCause = s.ao.lastCause ∧ t.chip = s.chip) ∧
    (reaches src 0x07128 s → lockOpen src s → ∃ t, exec (.meshEnrol src) s = .next t ∧
      t.ao.enrolling = (s.ao.enrolling || decide (s.modes.mode = .factory)) ∧
      t = { s with ao := { s.ao with enrolling := t.ao.enrolling }, regs := closedRegs src s }) ∧
    (s.ao.enrolling = true → means.length = 8 → ∃ t, exec (.meshEnrolComplete means) s = .next t ∧
      t = { s with ao := { s.ao with baseline := means, enrolling := false, meshDrift := t.ao.meshDrift } } ∧
      ∀ i : Fin 8, t.ao.meshDrift.getLsbD i = (s.ao.meshDrift.getLsbD i && drifts t i (s.ao.resist.getD i 0).toNat 15)))

/-! ### Firmware and field access (15 R426 to R433) -/

/-- STAGE and CONFIRM (R428; 14 R383): STAGE reads the image at FW_ARG as function 0x401, no read past a 64-byte boundary (14 R377), its header and then what the
header names; an image that fails a check ends the command with that check's status; one that passes is staged by a write of block 1 with the slot not
active and TRIAL 1; CONFIRM outside a trial is MODE_DENIED, and in one writes block 1 with the running slot active and TRIAL 0. The model's: one
read at a time, taken up by the MP in an idle microsecond (log 31). -/
def Obligations.StageAndConfirmWriteBlockOne : Prop :=
  (∀ (src : Source) (v : Word) (s : State), reaches src 0x07200 s → lockOpen src s → s.fw.run = none → bits 0 8 v = 1 →
    let ended := fun (t : State) (st : Status) => t.fw.run = none ∧ t.fw.result = st ∧ t = withLog { s with fw := t.fw, regs := closedRegs src s } t
    (stageMode s.modes.mode = false → ∃ t, exec (.stage src v) s = .next t ∧ ended t stModeDenied) ∧
    (stageMode s.modes.mode = true → s.fw.arg.toNat % 4096 ≠ 0 → ∃ t, exec (.stage src v) s = .next t ∧ ended t stBlobInvalid) ∧
    (stageMode s.modes.mode = true → s.fw.arg.toNat % 4096 = 0 → managementUp s = true → (∀ r ∈ allRequests s, r.purpose ≠ .imageRead) →
      issuable false s.fw.arg s = true → ∃ t, exec (.stage src v) s = .next t ∧ t.fw.run = some (.reading s.fw.arg []) ∧
        issued false s.fw.arg [] 64 0x401 .imageRead s t ∧ t = { s with fw := t.fw, fabric := t.fabric, regs := closedRegs src s }) ∧
    (s.ao.trialRun = false → ∃ t, exec (.confirm src) s = .next t ∧ ended t stModeDenied) ∧
    (s.ao.trialRun = true → vaultIdle s → ∃ t, exec (.confirm src) s = .next t ∧ t.fw.run = some .confirming ∧
      vaultWrites (.writeBlock1 .confirm) 1 (confirmedBlock s) s t ∧ t.fw.block1 = s.fw.block1 ∧ t = { s with
        fw := t.fw, vault := t.vault, free := t.free, ao := { s.ao with nonceCounter := t.ao.nonceCounter }, regs := closedRegs src s })) ∧
  (∀ (addr : Word) (got : Bytes) (s : State), s.fw.run = some (.reading addr got) → managementUp s = true →
    (∀ r ∈ allRequests s, r.purpose ≠ .imageRead) →
    let from' := addr + BitVec.ofNat 64 got.length
    let n := min (64 - from'.toNat % 64) (imageWanted got - got.length)
    (got.length < imageWanted got → issuable false from' s = true →
      issued false from' [] n 0x401 .imageRead s (stageStep s) ∧ stageStep s = { s with fabric := (stageStep s).fabric }) ∧
    (∀ st, imageWanted got ≤ got.length → fwCheck s addr (b1Floor (block1Of s)) (.image got) = .error st →
      (stageStep s).fw.run = none ∧ (stageStep s).fw.result = st ∧ stageStep s = withLog { s with fw := (stageStep s).fw } (stageStep s)) ∧
    (∀ b, imageWanted got ≤ got.length → fwCheck s addr (b1Floor (block1Of s)) (.image got) = .ok b → vaultIdle s →
      (stageStep s).fw.run = some (.staging addr (field 0x10 4 b)) ∧ (stageStep s).fw.block1 = s.fw.block1 ∧
      vaultWrites (.writeBlock1 .stage) 1 (stagedBlock addr (block1Of s)) s (stageStep s) ∧
      stageStep s = { s with
        fw := (stageStep s).fw, vault := (stageStep s).vault, free := (stageStep s).free,
        ao := { s.ao with nonceCounter := (stageStep s).ao.nonceCounter } }))

/-- SET_PASSWORD and SET_OFFICER in CEREMONY, their input taken (R430): block 1 is written with a drawn salt and the verifier, or with a verifier
of zero for a length of zero; where the RNG serves no request yet, the salt's waits with the others (09 R265); an officer statement that passes its checks is written with UPDATE_NEXT advanced, one that fails ends with that
check's status. -/
def Obligations.PasswordAndOfficerWriteBlockOne : Prop :=
  ∀ s : State, acComplete s = true → s.modes.mode = .ceremony → vaultIdle s →
    (s.access.run = some .password → s.access.inLen ≠ 0 → s.access.salt = none → rngServes s = false → rngFailed s = false →
      (∀ r ∈ s.rng.waiting, r.who ≠ .password) → exec .setPassword s = .next { s with
        rng := { s.rng with waiting := s.rng.waiting ++ [{ who := .password, bytes := 16, pr := false, asked := now s }] } }) ∧
    let writes := fun (t : State) (w : Block1Why) (b : Bytes) => t.access.run = some .writing ∧ vaultWrites (.writeBlock1 w) 1 b s t ∧
      t = { s with
        access := { s.access with run := some .writing }, vault := t.vault, rng := t.rng, keys := t.keys, free := t.free,
        ao := { s.ao with nonceCounter := t.ao.nonceCounter } }
    (s.access.run = some .password → s.access.inLen = 0 → ∃ t, exec .setPassword s = .next t ∧ t.rng = s.rng ∧ t.keys = s.keys ∧
      writes t .password (passwordBlock (b1Salt (block1Of s)) (zeroBytes 16) s)) ∧
    (s.access.run = some .password → s.access.inLen ≠ 0 → s.access.salt = none → rngServes s = true → s.rng.waiting = [] →
      16 ≤ s.rng.buffer.length → ∃ t, exec .setPassword s = .next t ∧
      t.rng = { s.rng with buffer := s.rng.buffer.drop 16 } ∧ t.keys = s.keys ∧
      writes t .password (passwordBlock (s.rng.buffer.take 16) (verifierOf (s.rng.buffer.take 16) (acInput s)) s)) ∧
    (s.access.run = some .officer → officerCheck s (officerInput s) = none → ceilingFor s ((field 8 8 (officerInput s) + 1) % 2 ^ 64) = none →
      ∃ t, exec .setOfficer s = .next t ∧ t.rng = s.rng ∧ t.keys = { s.keys with updateNext := (field 8 8 (officerInput s) + 1) % 2 ^ 64 } ∧
        writes t .officer (sealBlock (putAt 0x20 (sha384 (slice 0x40 96 (officerInput s))) (block1Of s)))) ∧
    (∀ st, s.access.run = some .officer → officerCheck s (officerInput s) = some st → ∃ t, exec .setOfficer s = .next t ∧
      t.access.run = none ∧ t.access.result = st ∧ t = withLog { s with access := t.access } t)

/-- CHALLENGE, RESPONSE, CHALLENGE_EXPIRY and CHALLENGE_REFUSAL_LAPSE (R431): a challenge is issued in STRUCK with VERIFIED set; a response that
passes brings MAINTENANCE; a refused one is counted, and the third ends the challenge and refuses new ones for 60 s; a challenge expires at its
time. The model's: CHAL_NO advanced before it is given, and the challenge complete at once (log 43). -/
def Obligations.ChallengeAndResponse : Prop :=
  ∀ (src : Source) (s : State),
    let no := (s.ao.chalNo + 1) % 2 ^ 64
    let b := challengeBytes s no
    (reaches src 0x07300 s → lockOpen src s → s.access.run = none → challengeAllowed s = true → ∃ t, exec (.challenge (.mailbox src)) s = .next t ∧
      t.access.challenge = some b ∧ t.access.output = b ∧ t.access.outLen = b.length ∧ t.access.expires = now s + 600000000 ∧ t.access.attempts = 0 ∧
      t.access.result = 0 ∧ t.ao.chalNo = no ∧ raised t 0x19 = true ∧
      t = withLog { s with ao := { s.ao with chalNo := no }, access := t.access, free := t.free, regs := closedRegs src s } t) ∧
    (reaches src 0x07300 s → lockOpen src s → s.access.run = none → challengeAllowed s = false → ∃ t, exec (.challenge (.mailbox src)) s = .next t ∧
      t.access.challenge = s.access.challenge ∧ t.access.result = stModeDenied ∧ t.access.output = [] ∧
      t = withLog { s with access := t.access, regs := closedRegs src s } t) ∧
    (s.access.run = some .response → acComplete s = true → responseCheck s (acInput s) = none → ∃ t, exec (.response (.mailbox src)) s = .next t ∧
      t.modes.mode = .maintenance ∧ t.modes.prev = .struck ∧ t.access.result = 0 ∧ t.access.run = none ∧ raised t 0x20 = true ∧
      t.ao.strikeFlag = s.ao.strikeFlag ∧ t.chip = s.chip) ∧
    (∀ st, s.access.run = some .response → acComplete s = true → responseCheck s (acInput s) = some st → s.access.challenge.isSome = true →
      ∃ t, exec (.response (.mailbox src)) s = .next t ∧ t.access.result = st ∧ t.access.run = none ∧ raised t 0x1A = true ∧
        (s.access.attempts < 2 → t.access.attempts = s.access.attempts + 1 ∧ t.access.challenge = s.access.challenge) ∧
        (2 ≤ s.access.attempts → t.access.challenge = none ∧ t.access.refusedUntil = some (now s + 60000000)) ∧
        t = withLog { s with access := t.access } t) ∧
    (s.access.challenge.isSome = true → s.access.expires ≤ now s → exec .challengeExpiry s =
      .next { s with access := { s.access with challenge := none, attempts := 0 } }) ∧
    (∀ t0, s.access.refusedUntil = some t0 → t0 ≤ now s → exec .challengeRefusalLapse s =
      .next { s with access := { s.access with refusedUntil := none } })

/-- The console's DIAG_OPEN, READ, LOG_READ and CLOSE, and DIAG_SESSION_TIMEOUT and DIAG_LOCKOUT_END (R429, R432): the password opens a session, a
wrong one counts, from the fifth with a lockout; reads are answered in a session alone; 30 minutes without a command close it. The model's: the
status of a read without a session (log 42). -/
def Obligations.ConsoleServesAnOpenSession : Prop :=
  ∀ (frame p : Bytes) (s : State), consoleUp s = true → consolePayload frame = some p →
    let answers := fun (t : State) (cmd : Nat) (st : Status) (data : Bytes) => t.access.answer = consoleFrame (toLe 1 cmd ++ toLe 2 st.toNat ++ data)
    let only := fun t : State => t = { s with access := { s.access with diag := t.access.diag, answer := t.access.answer } }
    let n := s.ao.diagFailures + 1
    let regs := (List.range (byteAt 5 p)).map fun i => field 1 4 p + 8 * i
    (byteAt 0 p = 0x10 → diagLocked s = false → passwordOk s (p.drop 1) = true → ∃ t, exec (.diagOpen frame) s = .next t ∧
      t.access.diag = some (now s) ∧ raised t 0x17 = true ∧ answers t 0x90 0 [] ∧
      t = withLog { s with
        ao := { s.ao with diagFailures := 0, lockedUntil := none },
        access := { s.access with diag := t.access.diag, answer := t.access.answer } } t) ∧
    (byteAt 0 p = 0x10 → diagLocked s = false → passwordOk s (p.drop 1) = false → ∃ t, exec (.diagOpen frame) s = .next t ∧
      t.access.diag.isSome = s.access.diag.isSome ∧ raised t 0x18 = true ∧ t.ao.diagFailures = n ∧
      t.ao.lockedUntil = (if 5 ≤ n then some (s.ao.time + min 86400000000 (600000000 * 2 ^ (n - 5))) else s.ao.lockedUntil) ∧
      t = withLog { s with
        ao := { s.ao with diagFailures := n, lockedUntil := t.ao.lockedUntil }, free := t.free,
        access := { s.access with diag := t.access.diag, answer := t.access.answer } } t) ∧
    (byteAt 0 p = 0x11 → s.access.diag.isSome = true → p.length = 6 → 1 ≤ byteAt 5 p → byteAt 5 p ≤ 16 → regs.all diagReadable = true →
      ∃ t, exec (.consoleRead frame) s = .next t ∧ answers t 0x91 0 (regs.flatMap fun i => toLe 8 (readManager (touchSession s) i).toNat) ∧ only t) ∧
    (byteAt 0 p = 0x12 → s.access.diag.isSome = true → p.length = 10 → 1 ≤ byteAt 9 p → byteAt 9 p ≤ 32 →
      ∃ t, exec (.logRead frame) s = .next t ∧ answers t 0x92 0 ((List.range (byteAt 9 p)).flatMap fun i => entryAt s (field 1 8 p + i)) ∧ only t) ∧
    (s.access.diag = none → (byteAt 0 p = 0x11 → ∃ t, exec (.consoleRead frame) s = .next t ∧ answers t 0x91 stUsageDenied [] ∧ only t) ∧
      (byteAt 0 p = 0x12 → ∃ t, exec (.logRead frame) s = .next t ∧ answers t 0x92 stUsageDenied [] ∧ only t)) ∧
    (byteAt 0 p = 0x13 → ∃ t, exec (.close frame) s = .next t ∧ t.access.diag = none ∧ answers t 0x93 0 [] ∧ only t) ∧
    (∀ t0, s.access.diag = some t0 → t0 + 1800000000 ≤ now s → exec .diagSessionTimeout s =
      .next { s with access := { s.access with diag := none } }) ∧
    (∀ t0, s.ao.lockedUntil = some t0 → t0 ≤ s.ao.time → exec .diagLockoutEnd s = .next { s with ao := { s.ao with lockedUntil := none } })

/-! ### The vault (14 R391 to R398) -/

/-- VAULT_RESPONSE and VAULT_TIMEOUT with nothing else waiting (R392, R393): an accepted response puts the record or the block in force; a
response whose MAC fails is a failed access with event 0xE9; BUSY and the first 100 ms without an answer bring one reissue, the second failure
ends the access. The model's: the moment of event 0x6A (log 39). -/
def Obligations.VaultAnswersAndTimeouts : Prop :=
  ∀ (m : Bytes) (r : VaultReq) (c : VaultChange) (s : State), s.vault.outstanding = some r → managementRuns s.modes.mode = true →
    s.vault.queued = VaultChange.none → s.vault.block1 = [] → s.chip.vaultKey.isSome = true → c.waiters = [] → c.member = none →
    let matched := vaultMacOk s m && vaultMatches r m
    let accepted := matched && byteAt 1 m = 0 && vaultCountOk r m
    let reissued := fun t : State => ∃ x, t.vault.outstanding = some x ∧ x.why = r.why ∧ x.reissued = true ∧ x.sentAt = now s
    let failed := fun t : State => t.vault.outstanding = none ∧ raised t 0xE9 = true ∧
      t = withLog { s with vault := { s.vault with outstanding := none } } t
    (accepted = true → r.why = .writeRecord c → ∃ t, exec (.vaultResponse m) s = .next t ∧ t.vault.outstanding = none ∧
      t.vault.wcount = field 4 4 m ∧ t.vault.epoch = c.epoch.getD s.vault.epoch ∧ t.vault.ceiling = c.ceiling.getD s.vault.ceiling ∧
      t.vault.floor = c.floor.getD s.vault.floor ∧ t.vault.member = s.vault.member ∧ (c.floor.isSome = true → raised t 0x6A = true) ∧
      t = { s with vault := t.vault, events := t.events }) ∧
    (accepted = true → r.why = .writeBlock1 .trialOff → ∃ t, exec (.vaultResponse m) s = .next t ∧ t.vault.outstanding = none ∧
      t.fw = { s.fw with block1 := some (slice 0x18 128 r.message) } ∧ t = { s with vault := t.vault, fw := t.fw, events := t.events }) ∧
    (∀ a sv, accepted = true → r.why = .writeBlock1 .stage → s.fw.run = some (.staging a sv) → ∃ t, exec (.vaultResponse m) s = .next t ∧
      t.fw = { s.fw with block1 := some (slice 0x18 128 r.message), run := none, result := 0 } ∧ raised t 0xEC = true ∧
      t = withLog { s with vault := t.vault, fw := t.fw } t) ∧
    (vaultMacOk s m = false → r.why = .writeRecord c → ∃ t, exec (.vaultResponse m) s = .next t ∧ failed t) ∧
    (matched = true → byteAt 1 m = 5 → r.reissued = false → ∃ t, exec (.vaultResponse m) s = .next t ∧ reissued t) ∧
    (r.sentAt + 100000 ≤ now s → r.reissued = false → ∃ t, exec .vaultTimeout s = .next t ∧ reissued t) ∧
    (r.sentAt + 100000 ≤ now s → r.reissued = true → r.why = .writeRecord c → ∃ t, exec .vaultTimeout s = .next t ∧ failed t)

/-! ### Call sheets and dirty logging (10 R279 to R297) -/

/-- The CALLSHEET commands with the lock open (R279 to R281, R287 to R292, Table 10.8): the first failed check gives RESULT and REASON and changes
no tenant; CREATE installs a RUNNING tenant, CHANGE replaces its call sheet, whose shares act from the next round, PAUSE and RESUME move its state, REMOVE frees the function and its
objects, READ and READ_IMPORTED fill CS_DATA. -/
def Obligations.CallSheetCommands : Prop :=
  ∀ (src : Source) (f : Func) (s : State), reaches src 0x03000 s → lockOpen src s → s.sheets.busy = false → tablesOk s = true →
    let x := tenantOf s f.toNat
    let passes := fun cmd : Nat => csCheck s cmd f.toNat = none
    let ended := fun (t : State) (st : Status) (reason : Nat) => t.sheets.result = st ∧ t.sheets.reason = reason ∧ t.regs = closedRegs src s
    let others := fun t : State => ∀ g, g ≠ f.toNat → tenantOf t g = tenantOf s g
    let box := fun t : State => { s.sheets with cmd := t.sheets.cmd, result := t.sheets.result, reason := t.sheets.reason }
    (∀ p ∈ [(1, Instr.create src f), (2, .change src f), (3, .pause src f), (4, .resume src f), (5, .remove src f), (6, .read src f),
        (7, .readImported src f)], ∀ e, csCheck s p.1 f.toNat = some e →
      ∃ t, exec p.2 s = .next t ∧ ended t e.1 e.2 ∧ t = { s with sheets := box t, regs := t.regs }) ∧
    (passes 1 → ∃ t, exec (.create src f) s = .next t ∧ ended t 0 0 ∧ others t ∧ (tenantOf t f.toNat).state = .running ∧
      (tenantOf t f.toNat).sheet = sheetOf s.sheets.data ∧ (tenantOf t f.toNat).round = (sheetOf s.sheets.data).shares ∧
      (tenantOf t f.toNat).ownerKey = s.sheets.key ∧ t.keys.slots = s.keys.slots ∧
      t.reels = s.reels ∧ t.dailies = s.dailies ∧ t.takes = s.takes ∧ t.sheets = box t) ∧
    (passes 2 → ∃ t, exec (.change src f) s = .next t ∧ ended t 0 0 ∧ others t ∧ (tenantOf t f.toNat).state = x.state ∧
      (tenantOf t f.toNat).sheet = sheetOf (csData s 2 f.toNat) ∧ (tenantOf t f.toNat).round = x.round ∧
      (tenantOf t f.toNat).ownerKey = x.ownerKey ∧ t.keys = s.keys ∧
      t.reels = s.reels ∧ t.dailies = s.dailies ∧ t.takes = s.takes ∧ t.sheets = box t) ∧
    (passes 3 → ∃ t, exec (.pause src f) s = .next t ∧ ended t 0 0 ∧ others t ∧
      tenantOf t f.toNat = { x with state := .pausing } ∧
      t = { s with tenants := t.tenants, sheets := box t, regs := t.regs }) ∧
    (passes 4 → ∃ t, exec (.resume src f) s = .next t ∧ ended t 0 0 ∧ others t ∧ tenantOf t f.toNat = { x with state := .running } ∧
      t = { s with tenants := t.tenants, sheets := box t, regs := t.regs }) ∧
    (passes 5 → ∃ t, exec (.remove src f) s = .next t ∧ ended t 0 0 ∧ others t ∧ tenantOf t f.toNat = Tenant.reset ∧ t.sheets.busy = true ∧
      t.slates = s.slates.filter (·.tenant ≠ f.toNat) ∧ t.reels = s.reels.filter (fun p => p.1 / 2 ^ 20 ≠ f.toNat) ∧ t.dailies = s.dailies.filter (fun p => p.1 / 2 ^ 20 ≠ f.toNat) ∧
      t.keys.updateNext = (s.keys.updateNext + 1) % 2 ^ 64) ∧
    (passes 6 → ∃ t, exec (.read src f) s = .next t ∧ ended t 0 0 ∧
      t = { s with sheets := { box t with data := putAt 0 (toLe 2 (functionShown s f.toNat)) (sheetBytes f.toNat x) }, regs := t.regs } ∧
      (s.regs.funcCopies = [] → t.sheets.data = sheetBytes f.toNat x)) ∧
    (∀ p, passes 7 → s.keys.importedSheet = some p → ∃ t, exec (.readImported src f) s = .next t ∧ ended t 0 0 ∧
      t = { s with sheets := { box t with data := p.2 }, keys := { s.keys with importedSheet := none }, regs := t.regs })

/-- PAUSE_COMPLETE and the MIGRATION commands (R289, R293 to R296): a quiet tenant with nothing left to write back is PAUSED with event 0xA8;
START_LOG begins a logging period, SWAP and STOP_LOG close it on the other bitmap, QUERY reports; outside a period and on a FREE function the
command is MODE_DENIED. -/
def Obligations.PauseEndsAndLogging : Prop :=
  ∀ (src : Source) (f : Func) (s : State), tablesOk s = true → pairs s.modes.mode = true →
    let x := tenantOf s f.toNat
    let others := fun t : State => ∀ g, g ≠ f.toNat → tenantOf t g = tenantOf s g
    let box := fun t : State => { s.sheets with
      migCmd := t.sheets.migCmd, migResult := t.sheets.migResult, migLogging := t.sheets.migLogging, migActiveB := t.sheets.migActiveB,
      migIncomplete := t.sheets.migIncomplete }
    let closes := fun (c : Instr) (logging : Bool) =>
      (x.logging = true → x.marks = [] → closingOut s f.toNat = false → ∃ t, exec c s = .next t ∧ others t ∧ t.sheets.migResult = 0 ∧
        tenantOf t f.toNat = { x with activeB := !x.activeB, incomplete := false, markStopped := false, logging := logging } ∧
        t = { atPort src s with tenants := t.tenants, sheets := { box t with migClosed := x.incomplete } }) ∧
      (x.logging = false → ∃ t, exec c s = .next t ∧ t.sheets.migResult = stModeDenied ∧ t = { atPort src s with sheets := box t })
    (x.state = .pausing → tenantIdle s f.toNat = true → flushTenant f.toNat s = s → tenantFlushed s f.toNat = true → x.removing = false →
      ∃ t, exec (.pauseComplete f) s = .next t ∧ others t ∧ tenantOf t f.toNat = { x with state := .paused } ∧ raised t 0xA8 = true ∧
        t = { s with tenants := t.tenants, events := t.events }) ∧
    (reaches src 0x09000 s → s.sheets.closing = none →
      (x.state ≠ .free → x.logging = false → x.sheet.pages ≠ 0 → x.sheet.bitmapA ≠ 0 → x.sheet.bitmapB ≠ 0 →
        ∃ t, exec (.startLog src f) s = .next t ∧ others t ∧ t.sheets.migResult = 0 ∧
          tenantOf t f.toNat = { x with logging := true, activeB := false, incomplete := false, markStopped := false, marks := [] } ∧
          t = { atPort src s with tenants := t.tenants, sheets := box t }) ∧
      (x.state = .free ∨ x.logging = true → ∃ t, exec (.startLog src f) s = .next t ∧ t.sheets.migResult = stModeDenied ∧
        t = { atPort src s with sheets := box t }) ∧
      closes (.swap src f) true ∧ closes (.stopLog src f) false ∧
      (∃ t, exec (.query src f) s = .next t ∧ t.sheets.migResult = 0 ∧ t.sheets.migLogging = x.logging ∧ t.sheets.migActiveB = x.activeB ∧
        t.sheets.migIncomplete = x.incomplete ∧ t = { atPort src s with sheets := box t }))

/-! ### The key store (08 R232 to R251) -/

/-- KUM and KUM_COMMIT (R237, R240, Table 8.7): the first failed check gives RESULT and REASON with event 0x61 and changes no slot; a KUM that
passes, with a shielded core free where its payload needs one, waits for the vault write that its counter or kind needs, if any; its commit stores
it, advances UPDATE_NEXT past its COUNTER and raises event 0x60; a roster KUM whose content is there already changes no slot (11 R320). The model's:
what such a repeat leaves (log 99), and a core's time (log 75). -/
def Obligations.KumIsCheckedThenCommitted : Prop :=
  ∀ (c : Checked) (e : Failed) (s : State),
    let b := fit (max 0x70 s.keys.inLen) (kmInput s)
    let islands := fun t : State => { s.gaffer with islands := t.gaffer.islands }
    let refused := fun t : State => t.keys.run = none ∧ t.keys.result = e.1 ∧ t.keys.reason = e.2 ∧ raised t 0x61 = true ∧
      t.keys.slots = s.keys.slots ∧ t.keys.updateNext = s.keys.updateNext ∧ t = withLog { s with keys := t.keys, gaffer := islands t } t
    (s.keys.run = some .kum → kmComplete s = true → (byteAt 4 b = 1 → shieldedFree s) →
      (kumEarly s b = .error e → ∃ t, exec (.kum none) s = .next t ∧ refused t) ∧
      (kumEarly s b = .ok () → kumLate s b = .error e → ∃ t, exec (.kum none) s = .next t ∧ refused t) ∧
      (kumEarly s b = .ok () → kumLate s b = .ok c → kumFloors s c = false → ceilingFor s ((c.counter + 1) % 2 ^ 64) = none →
        ∃ t, exec (.kum none) s = .next t ∧ t = { s with keys := { s.keys with run := some (.checked c) }, gaffer := islands t }) ∧
      (kumEarly s b = .ok () → kumLate s b = .ok c → kumFloors s c = true ∨ (ceilingFor s ((c.counter + 1) % 2 ^ 64)).isSome → vaultIdle s →
        ∃ t, exec (.kum none) s = .next t ∧ t.keys = { s.keys with run := some (.checked { c with waiting := true }) } ∧
          t.vault.outstanding.isSome = true ∧
          t = { s with
            keys := t.keys, vault := t.vault, free := t.free, ao := { s.ao with nonceCounter := t.ao.nonceCounter }, gaffer := islands t }) ∧
      (∀ i : BitVec 17, kumEarly s b = .ok () → groupAt s i.toNat = true → (kumReads b).contains i.toNat = true →
        ∃ t, exec (.kum (some i)) s = .next t ∧ t.keys.run = none ∧ t.keys.result = stFaultDetected ∧ raised t 0x62 = true ∧
          t.keys.updateNext = s.keys.updateNext ∧ t = withLog { s with keys := t.keys } t)) ∧
    (s.keys.run = some (.checked c) → c.waiting = false → kumRepeats c s (kumStore c s) = true → ∃ t, exec .kumCommit s = .next t ∧
      t.keys.run = none ∧ t.keys.result = 0 ∧ t.keys.updateNext = (c.counter + 1) % 2 ^ 64 ∧ t.keys.slots = s.keys.slots ∧
      t = { s with keys := t.keys }) ∧
    (s.keys.run = some (.checked c) → c.waiting = false → kumRepeats c s (kumStore c s) = false → kumHeldUp s c = false → ∃ t, exec .kumCommit s = .next t ∧ t.keys.run = none ∧
      t.keys.result = 0 ∧ t.keys.reason = 0 ∧ t.keys.updateNext = (c.counter + 1) % 2 ^ 64 ∧ raised t 0x60 = true ∧
      t.keys.slots = (kumStore c s).keys.slots ∧ t.keys.migrate = (kumStore c s).keys.migrate ∧ t.keys.imports = (kumStore c s).keys.imports ∧
      t = { s with keys := t.keys, twin := t.twin, events := t.events })

/-- The mailbox's SLOT_QUERY, READ_CERT, FLOOR and ABORT, KM_DATA_WRITE, KM_DATA_READ and MASK_REFRESH (R244, R248, Table 8.13; 13 R354): each
command's output or effect, input taken a word at a time, output given a word at a time with the command's end after the last, and a refresh that
leaves every key as it is. A read of 32 bits gives zero and takes no word; of another register it gives its half; one of a size or alignment the
port does not take is an error. The model's: the statuses of SLOT_QUERY past the last slot and of ABORT (log 38), the reads of other registers
under this row (log 34). -/
def Obligations.KeyMailboxCommands : Prop :=
  ∀ (src : Source) (v : Word) (s : State),
    let latched := { s.keys with inLen := s.keys.len.toNat, inArg := s.keys.arg, reason := 0, result := 0 }
    let gives := fun (cmd : BitVec 8) (t : State) (b : Bytes) =>
      t = { atPort src s with keys := { latched with cmd := cmd, run := some .output, output := b, outLen := b.length, input := [] } }
    let ends := fun (cmd : BitVec 8) (t : State) (st : Status) =>
      t = { atPort src s with keys := { latched with cmd := cmd, run := none, result := st, input := [], output := [], outLen := 0 } }
    (reaches src 0x06000 s →
      (s.keys.run = none → queryMode s.modes.mode = true →
        (bits 0 17 s.keys.arg < slotCount s → ∃ t, exec (.slotQuery src) s = .next t ∧ gives 4 t (recordOf true (slotOf s (bits 0 17 s.keys.arg)))) ∧
        (slotCount s ≤ bits 0 17 s.keys.arg → ∃ t, exec (.slotQuery src) s = .next t ∧ ends 4 t stOwnerMismatch) ∧
        (∃ t, exec (.readCert src) s = .next t ∧ gives 8 t (Config.idkCertificate s.chip.idkPublic))) ∧
      (s.keys.run = none → serves s.modes.mode = true → vaultIdle s → ∃ t, exec (.floor src) s = .next t ∧
        t.keys = { latched with cmd := 5, run := some .floorWait, updateNext := (s.keys.updateNext + 1) % 2 ^ 64 } ∧
        (∃ c, c.floor = some ((s.keys.updateNext + 1) % 2 ^ 64) ∧ vaultWrites (.writeRecord c) 0 (mergedRecord s c) s t)) ∧
      (s.keys.run = none → serves s.modes.mode = false → ∃ t, exec (.floor src) s = .next t ∧ ends 5 t stModeDenied) ∧
      (exec (.abort src) s = .next { packageWithdraw (atPort src s) with
        keys := { latched with cmd := 0x0F, run := none, result := 0, input := [], output := [], outLen := 0 } })) ∧
    (reaches src 0x06010 s → kmTakesInput s = true → kmComplete s = false →
      exec (.kmDataWrite src v) s = .next { atPort src s with keys := { s.keys with input := s.keys.input ++ toLe 8 v.toNat } }) ∧
    (mgrReadable s = true → portFull s = false → (s.regs.held.any fun a => a.src = .manager) = false →
      let port := fun (err : Bool) (w : Word) => { (accept s).regs with rspErr := err, rspData := w, rspTag := (accept s).regs.reqTag }
      (8 < s.keys.output.length → exec (.kmDataRead ⟨.manager, .w64, 0x06010⟩) s = .next { s with
        keys := { s.keys with output := s.keys.output.drop 8 }, regs := port false (wordAt 0 (s.keys.output.take 8)) }) ∧
      (s.keys.output ≠ [] → s.keys.output.length ≤ 8 → s.keys.run = some .output ∨ s.keys.run = some .imageOut →
        ∃ t, exec (.kmDataRead ⟨.manager, .w64, 0x06010⟩) s = .next t ∧ t.keys.run = none ∧ t.keys.result = 0 ∧ t.keys.output = [] ∧
          t.regs = port false (wordAt 0 (fit 8 s.keys.output)) ∧ (s.keys.run = some .imageOut → raised t 0x65 = true) ∧
          t = { s with keys := t.keys, events := t.events, regs := t.regs }) ∧
      (∀ o : BitVec 20, o.toNat / 8 = 0xC02 → o.toNat % 4 = 0 → exec (.kmDataRead ⟨.manager, .w32, o⟩) s = .next { s with regs := port false 0 }) ∧
      (∀ size o, sizeOk size o.toNat = false → exec (.kmDataRead ⟨.manager, size, o⟩) s = .next { s with regs := port true 0 }) ∧
      (∀ o : BitVec 20, o.toNat % 8 = 0 → o.toNat ≠ 0x6010 → o.toNat ≠ 0x7310 → exec (.kmDataRead ⟨.manager, .w64, o⟩) s = .next { s with
        regs := port false (readManager (accept s) o.toNat) })) ∧
    (storeRuns s.modes.mode = true → exec .maskRefresh s = .next { s with keys := { s.keys with refreshes := s.keys.refreshes + 1 } })

/-- IMAGE_EXPORT, IMAGE_RESTORE, PACKAGE_EXPORT, PACKAGE_IMPORT and the ATTEST mailbox (R245 to R247, R250, R251): the output is the sealed image
or the package; a restore or an import that fails a check ends with that check's status and changes no slot, one that passes installs its content;
an attestation answers with the secret's HMAC or the slot's record. The package operations need a free shielded core (07 R198). The model's: the
order inside the checks (log 89), and a core's time (log 75). -/
def Obligations.ImagesPackagesAttestation : Prop :=
  ∀ (src : Source) (f : Func) (e : Failed) (s : State), tablesOk s = true →
    let g := bits 0 11 s.keys.arg
    let x := tenantOf s f.toNat
    let islands := fun t : State => { s.gaffer with islands := t.gaffer.islands }
    let answersWith := fun (t : State) (a : AttestBox) => tenantOf t f.toNat = { x with attest := a } ∧
      (∀ h, h ≠ f.toNat → tenantOf t h = tenantOf s h) ∧ t = { answered (accept s) with tenants := t.tenants }
    (reaches src 0x06000 s → s.keys.run = none → serves s.modes.mode = true → ∃ t, exec (.imageExport src none) s = .next t ∧
      t.keys.run = some .imageOut ∧ t.keys.output = sealedImage s ∧ t.keys.outLen = (sealedImage s).length ∧ t.keys.slots = s.keys.slots ∧
      t = { atPort src s with keys := t.keys, ao := { s.ao with exportNo := (s.ao.exportNo + 1) % 2 ^ 64 } }) ∧
    (s.keys.run = some .imageRestore → kmComplete s = true → s.modes.mode = .sealed →
      (imageCheck s (kmInput s) = .error e → ∃ t, exec .imageRestore s = .next t ∧ t.keys.run = none ∧ t.keys.result = e.1 ∧ t.keys.reason = e.2 ∧
        raised t 0x67 = true ∧ t.keys.slots = s.keys.slots ∧ t = { s with keys := t.keys, events := t.events }) ∧
      (∀ r, imageCheck s (kmInput s) = .ok r → ∃ t, exec .imageRestore s = .next t ∧ t.keys.run = none ∧ t.keys.result = 0 ∧ raised t 0x66 = true ∧
        t.keys.slots = (restoreStore r.1 r.2 s).keys.slots ∧ t.keys.secrets = (restoreStore r.1 r.2 s).keys.secrets ∧
        t.modes.mode = (if fencedByte s = 0 then .operational else .degraded) ∧ t.modes.prev = .sealed ∧ t.tenants = s.tenants)) ∧
    (reaches src 0x06000 s → s.keys.run = none → serves s.modes.mode = true →
      (tableGet [] s.keys.migrate g = [] → ∃ t, exec (.packageExport src none) s = .next t ∧ t.keys.run = none ∧ t.keys.result = stUsageDenied ∧
        t.keys.slots = s.keys.slots) ∧
      (tableGet [] s.keys.migrate g ≠ [] → (tenantOf s g).state = .paused → (∀ u ∈ s.takes, u.tenant ≠ g) → rngServes s = true → s.rng.waiting = [] →
        2 * scalarBytes p384 ≤ s.rng.buffer.length → s.units.idk = [] → shieldedFree s → ∃ t, exec (.packageExport src none) s = .next t ∧ t.keys.run = some (.packageOut g) ∧
          t.keys.output = packageBytes s g (s.rng.buffer.take (2 * scalarBytes p384)) ∧ t.keys.slots = s.keys.slots ∧
          t = { atPort src s with
            keys := t.keys, rng := { s.rng with buffer := s.rng.buffer.drop (2 * scalarBytes p384) }, gaffer := islands t })) ∧
    (s.keys.run = some .packageImport → kmComplete s = true → serves s.modes.mode = true → shieldedFree s →
      (packageCheck s (kmInput s) = .error e → ∃ t, exec .packageImport s = .next t ∧ t.keys.run = none ∧ t.keys.result = e.1 ∧
        t.keys.reason = e.2 ∧ t.keys.slots = s.keys.slots ∧ t = { s with keys := t.keys, gaffer := islands t }) ∧
      (∀ r, packageCheck s (kmInput s) = .ok r → ∃ t, exec .packageImport s = .next t ∧ t.keys.run = none ∧ t.keys.result = 0 ∧
        raised t 0x69 = true ∧ raised t 0xAB = true ∧ t.keys.importedSheet = some (r.1, slice (112 * r.2.1 + 56) 128 r.2.2) ∧
        t.keys.updateNext = s.keys.updateNext ∧ t = { s with keys := t.keys, twin := t.twin, events := t.events, gaffer := islands t })) ∧
    (reachesTenant f s = true → s.modes.mode ≠ .hold → s.modes.mode ≠ .drowse →
      (∃ t, exec (.attestChallenge f) s = .next t ∧ answersWith t { x.attest with
        done := true, result := 0, resp := hmac 3 (secretOf s f.toNat) (attestMessage s f.toNat),
        mode := BitVec.ofNat 4 (modeCode s.modes.mode), fwver := s.regs.fwVersion, digest := slotDigest s f.toNat }) ∧
      (x.sheet.slotBase ≤ bits 0 17 x.attest.arg → bits 0 17 x.attest.arg < x.sheet.slotBase + x.sheet.slots →
        ∃ t, exec (.attestSlotQuery f) s = .next t ∧ answersWith t { x.attest with
          done := true, result := 0, resp := recordOf true (slotOf s (bits 0 17 x.attest.arg)) }) ∧
      (bits 0 17 x.attest.arg < x.sheet.slotBase ∨ x.sheet.slotBase + x.sheet.slots ≤ bits 0 17 x.attest.arg →
        ∃ t, exec (.attestSlotQuery f) s = .next t ∧ answersWith t { x.attest with done := true, result := stOwnerMismatch }))

/-! ### Reels and dailies (02 R29 to R64) -/

/-- REEL_DOORBELL and DAILIES_DOORBELL with the context at hand (R47, R48, Table 2.7): a value that names a position within the fill moves TAIL or
HEAD there; another changes no context, and sets RC_DB_ERR with its reason and event 0xA0, a reserved bit at an object held under R44 too. The
model's: a well-formed doorbell to such an object (log 90). -/
def Obligations.DoorbellsMoveOrAreDiscarded : Prop :=
  ∀ (f : Func) (v : Word) (s : State), tablesOk s = true → mailboxFree f s → s.modes.mode ≠ .hold → s.modes.mode ≠ .drowse →
    let i := bits 0 20 v
    let pos := bits 20 16 v
    let x := tenantOf s f.toNat
    let discarded := fun (t : State) (isDailies : Bool) (reason : BitVec 4) =>
      raised t 0xA0 = true ∧ (∀ e, e ≠ 0xA0 → raised t e = raised s e) ∧ contextsStay s t ∧
      t = { answered (accept s) with tenants := t.tenants, events := t.events, reels := t.reels, dailies := t.dailies, sched := t.sched } ∧
      (∀ g, g ≠ f.toNat → tenantOf t g = tenantOf s g) ∧ tenantOf t f.toNat = { x with rc := { x.rc with
        dbPresent := true, dbDailies := isDailies, dbReason := reason, dbCount := satInc x.rc.dbCount, dbLast := BitVec.ofNat 36 v.toNat } }
    (x.sheet.reels ≤ i → ∃ t, exec (.reelDoorbell f v) s = .next t ∧ discarded t false 1) ∧
    (x.sheet.dailies ≤ i → ∃ t, exec (.dailiesDoorbell f v) s = .next t ∧ discarded t true 1) ∧
    (i < x.sheet.reels → (reelOf s f.toNat i).created = false → ∃ t, exec (.reelDoorbell f v) s = .next t ∧ discarded t false 2) ∧
    (i < x.sheet.dailies → (dailiesOf s f.toNat i).created = false → ∃ t, exec (.dailiesDoorbell f v) s = .next t ∧ discarded t true 2) ∧
    (i < x.sheet.reels → (reelOf s f.toNat i).created = true → (reelOf s f.toNat i).dead = true → (reelOf s f.toNat i).ctx = none →
      (bits 36 28 v ≠ 0 → ∃ t, exec (.reelDoorbell f v) s = .next t ∧ discarded t false 6) ∧
      (bits 36 28 v = 0 → ∃ t, exec (.reelDoorbell f v) s = .next t ∧ contextsStay s t ∧ t.tenants = s.tenants ∧ t.events = s.events)) ∧
    (i < x.sheet.dailies → (dailiesOf s f.toNat i).created = true → (dailiesOf s f.toNat i).dead = true → (dailiesOf s f.toNat i).ctx = none →
      (bits 36 28 v ≠ 0 → ∃ t, exec (.dailiesDoorbell f v) s = .next t ∧ discarded t true 6) ∧
      (bits 36 28 v = 0 → ∃ t, exec (.dailiesDoorbell f v) s = .next t ∧ contextsStay s t ∧ t.tenants = s.tenants ∧ t.events = s.events)) ∧
    (∀ c, i < x.sheet.reels → (reelOf s f.toNat i).created = true → (reelOf s f.toNat i).ctx = some c → c.state = .aborted →
      ∃ t, exec (.reelDoorbell f v) s = .next t ∧ discarded t false 2) ∧
    (∀ c, i < x.sheet.reels → (reelOf s f.toNat i).created = true → (reelOf s f.toNat i).ctx = some c → c.state ≠ .aborted →
      (2 ^ c.log2 ≤ pos → ∃ t, exec (.reelDoorbell f v) s = .next t ∧ discarded t false 3) ∧
      (pos < 2 ^ c.log2 → bits 36 28 v ≠ 0 → ∃ t, exec (.reelDoorbell f v) s = .next t ∧ discarded t false 6) ∧
      (pos < 2 ^ c.log2 → bits 36 28 v = 0 → (pos + 2 ^ c.log2 - c.head) % 2 ^ c.log2 < reelFill c →
        ∃ t, exec (.reelDoorbell f v) s = .next t ∧ discarded t false 4) ∧
      (pos < 2 ^ c.log2 → bits 36 28 v = 0 → reelFill c ≤ (pos + 2 ^ c.log2 - c.head) % 2 ^ c.log2 →
        ∃ t, exec (.reelDoorbell f v) s = .next t ∧ t.dailies = s.dailies ∧
          ∃ d, (reelOf t f.toNat i).ctx = some d ∧ d.tail = pos ∧ d.head = c.head ∧ d.base = c.base ∧ d.inFlight = c.inFlight)) ∧
    (∀ c, i < x.sheet.dailies → (dailiesOf s f.toNat i).created = true → (dailiesOf s f.toNat i).ctx = some c →
      (2 ^ c.log2 ≤ pos → ∃ t, exec (.dailiesDoorbell f v) s = .next t ∧ discarded t true 3) ∧
      (pos < 2 ^ c.log2 → bits 36 28 v ≠ 0 → ∃ t, exec (.dailiesDoorbell f v) s = .next t ∧ discarded t true 6) ∧
      (pos < 2 ^ c.log2 → bits 36 28 v = 0 → dailiesFill c < (pos + 2 ^ c.log2 - c.head) % 2 ^ c.log2 →
        ∃ t, exec (.dailiesDoorbell f v) s = .next t ∧ discarded t true 5) ∧
      (pos < 2 ^ c.log2 → bits 36 28 v = 0 → (pos + 2 ^ c.log2 - c.head) % 2 ^ c.log2 ≤ dailiesFill c →
        ∃ t, exec (.dailiesDoorbell f v) s = .next t ∧ t.reels = s.reels ∧ (dailiesOf t f.toNat i).ctx = some { c with head := pos }))

/-- The REEL_CMD commands on a present context (R59 to R62, Table 2.12): what each leaves of it, RESULT 0 and BUSY clear, and every other reel as
it was. ABORT makes a reel ABORTED with its fill in ABORT_REMAIN, RESET takes it out of HALTED at, past or behind its head, PAUSE stops it, QUERY
reads it. -/
def Obligations.ReelCommandsOnAContext : Prop :=
  ∀ (f : Func) (i : BitVec 20) (c : ReelCtx) (d : DailiesCtx) (s : State), tablesOk s = true → mailboxFree f s → s.modes.mode ≠ .hold →
    s.modes.mode ≠ .drowse → (reelOf s f.toNat i.toNat).ctx = some c → (reelOf s f.toNat i.toNat).created = true →
    (reelOf s f.toNat i.toNat).dead = false → (dailiesOf s f.toNat i.toNat).ctx = some d → (dailiesOf s f.toNat i.toNat).created = true →
    (dailiesOf s f.toNat i.toNat).dead = false →
    let box := (tenantOf s f.toNat).rc
    let passes := fun (op mode : Nat) => rcEarly s f.toNat (rcWord op mode i) = none ∧
      rcLate s f.toNat (rcWord op mode i) box.arg0 box.arg1 box.arg2 = none
    let done := fun t : State => (tenantOf t f.toNat).rc.busy = false ∧ (tenantOf t f.toNat).rc.result = 0
    let others := fun t : State => t.dailies = s.dailies ∧
      ∀ k, k ≠ objKey f.toNat i.toNat → tableGet ReelObj.reset t.reels k = tableGet ReelObj.reset s.reels k
    let becomes := fun (t : State) (e : ReelCtx) => done t ∧ others t ∧ (reelOf t f.toNat i.toNat).ctx = some (settleReel e)
    let fresh := fun e : ReelCtx => paceFresh (now32 s) { e with state := .idle, haltStatus := 0 }
    (passes 5 0 → c.state ≠ .aborted → slatesOf s f.toNat i.toNat = [] → ∃ t, exec (.abortReel f i) s = .next t ∧
      becomes t { c with state := .aborted, abortRemain := reelFill c } ∧ (reelFill c = 0 → c.inFlight = 0 → raised t 0xA4 = true)) ∧
    (passes 6 0 → ∃ t, exec (.resetReelResume f i) s = .next t ∧ becomes t (fresh c)) ∧
    (passes 6 1 → ∃ t, exec (.resetReelSkip f i) s = .next t ∧
      becomes t (fresh { c with head := if c.head = c.tail then c.head else (c.head + 1) % 2 ^ c.log2 })) ∧
    (passes 6 2 → ∃ t, exec (.resetReelDiscard f i) s = .next t ∧ becomes t (fresh { c with head := c.tail })) ∧
    (passes 7 0 → ∃ t, exec (.resetDailies f i) s = .next t ∧ done t ∧ t.reels = s.reels ∧
      (dailiesOf t f.toNat i.toNat).ctx = some { d with halted := false, haltStatus := 0 }) ∧
    (passes 8 0 → ∃ t, exec (.pauseReel f i) s = .next t ∧ becomes t { c with state := .paused }) ∧
    (passes 8 1 → ∃ t, exec (.pauseReelResume f i) s = .next t ∧ becomes t (paceFresh (now32 s) { c with state := .idle })) ∧
    (passes 9 0 → ∃ t, exec (.queryReel f i) s = .next t ∧ done t ∧ contextsStay s t ∧
      (tenantOf t f.toNat).rc.result0 = BitVec.ofNat 64 (reelCode c.state + c.head * 2 ^ 16 + c.tail * 2 ^ 32 + c.inFlight * 2 ^ 48) ∧
      (tenantOf t f.toNat).rc.result1 = BitVec.ofNat 64 (c.haltStatus.toNat + c.abortRemain * 2 ^ 16 + c.dailies * 2 ^ 32)) ∧
    (passes 10 0 → ∃ t, exec (.queryDailies f i) s = .next t ∧ done t ∧ contextsStay s t ∧
      (tenantOf t f.toNat).rc.result0 =
        BitVec.ofNat 64 (dailiesCode d + flagAt 8 d.phase + d.head * 2 ^ 16 + d.tail * 2 ^ 32 + d.credits * 2 ^ 48) ∧
      (tenantOf t f.toNat).rc.result1 = BitVec.ofNat 64 (d.haltStatus.toNat + d.bound * 2 ^ 32))

/-- CREATE_REEL, CREATE_DAILIES, DESTROY_REEL and DESTROY_DAILIES (R61, Table 2.13): a command that fails a check ends with that check's status;
one that passes stays BUSY while the new or freed context is written to the tenant's arena, and no context has changed yet. -/
def Obligations.CreateAndDestroyWriteTheArena : Prop :=
  ∀ (f : Func) (i : BitVec 20) (s : State), tablesOk s = true → mailboxFree f s → s.modes.mode ≠ .hold → s.modes.mode ≠ .drowse →
    let x := tenantOf s f.toNat
    let check := fun op : Nat => (rcEarly s f.toNat (rcWord op 0 i)).orElse fun _ =>
      rcLate s f.toNat (rcWord op 0 i) x.rc.arg0 x.rc.arg1 x.rc.arg2
    let atHand := fun op : Nat => (rcNeeds (rcWord op 0 i) x.rc.arg1).all (ctxReady s f.toNat) = true
    let writes := fun (c : Instr) (op : Nat) (isDailies : Bool) (b : Bytes) =>
      (∀ st, check op = some st → (rcEarly s f.toNat (rcWord op 0 i)).isSome = true ∨ atHand op → ∃ t, exec c s = .next t ∧
        (tenantOf t f.toNat).rc.busy = false ∧ (tenantOf t f.toNat).rc.result = st ∧ contextsStay s t ∧
        t = { answered (accept s) with tenants := t.tenants, reels := t.reels, dailies := t.dailies, sched := t.sched }) ∧
      (check op = none → atHand op → issuable true (ctxAddr s f.toNat isDailies i.toNat) s = true →
        ∃ t, exec c s = .next t ∧ (tenantOf t f.toNat).rc.busy = true ∧ (tenantOf t f.toNat).rc.writing = true ∧
          issued true (ctxAddr s f.toNat isDailies i.toNat) b b.length f.toNat (.commandWrite f.toNat isDailies i.toNat) s t ∧
          contextsStay s t)
    writes (.createDailies f i) 1 true (dailiesBytes 1 (newDailies x.rc.arg0 x.rc.arg1 x.rc.arg2 x.rc.arg3)) ∧
    writes (.createReel f i) 2 false (reelBytes (newReel x.rc.arg0 x.rc.arg1 x.rc.arg2)) ∧
    writes (.destroyReel f i) 3 false (freedBytes s f.toNat false i.toNat) ∧
    writes (.destroyDailies f i) 4 true (freedBytes s f.toNat true i.toNat)

/-- CONTEXT_FETCH_COMPLETION, CONTEXT_WRITEBACK_TIMER, AGE_TIMER_EXPIRY and MODERATION_TIMER_EXPIRY (R43, R44, R50, R53): a fetched context that
passes its check is cached with what it is owed, another makes its object unusable with event 0xA3; a changed context is written back 1 ms later;
an age timer makes its reel eligible, but not while its tenant is PAUSED (10 R289); the moderation timer makes the message due. -/
def Obligations.ContextsAndTheirTimers : Prop :=
  ∀ (f : Func) (i : BitVec 20) (b : Bytes) (s : State), tablesOk s = true → pairs s.modes.mode = true →
    let r := reelOf s f.toNat i.toNat
    let d := dailiesOf s f.toNat i.toNat
    let idle := (tenantOf s f.toNat).waiting = [] ∧ (cachedEntries s).length < 2 ^ cacheLog s
    (r.arrived = some b → r.ctx = none → idle → ∃ t, exec (.contextFetchCompletion f false i) s = .next t ∧ t.dailies = s.dailies ∧
      (reelOf t f.toNat i.toNat).ctx = (reelOfBytes b).map r.settled ∧ (reelOf t f.toNat i.toNat).arrived = none ∧ (reelOf t f.toNat i.toNat).fetching = false ∧
      (reelOfBytes b = none → (reelOf t f.toNat i.toNat).dead = true ∧ raised t 0xA3 = true ∧ raised t 0xA1 = true)) ∧
    (d.arrived = some b → d.ctx = none → d.halting = none → idle → ∃ t, exec (.contextFetchCompletion f true i) s = .next t ∧ t.reels = s.reels ∧
      (dailiesOf t f.toNat i.toNat).ctx = (dailiesOfBytes b).map d.settled ∧ (dailiesOf t f.toNat i.toNat).arrived = none ∧
      (dailiesOf t f.toNat i.toNat).fetching = false ∧
      (dailiesOfBytes b = none → (dailiesOf t f.toNat i.toNat).dead = true ∧ raised t 0xA3 = true)) ∧
    (∀ t0 c, r.changed = some t0 → t0 + 1000 ≤ now s → r.ctx = some c → issuable true (ctxAddr s f.toNat false i.toNat) s = true →
      ∃ t, exec (.contextWritebackTimer f false i) s = .next t ∧ reelOf t f.toNat i.toNat = { r with changed := none } ∧ t.dailies = s.dailies ∧
        issued true (ctxAddr s f.toNat false i.toNat) (reelBytes c) (reelBytes c).length f.toNat (.writeBack f.toNat false i.toNat) s t) ∧
    (∀ t0 c, d.changed = some t0 → t0 + 1000 ≤ now s → d.ctx = some c → issuable true (ctxAddr s f.toNat true i.toNat) s = true →
      ∃ t, exec (.contextWritebackTimer f true i) s = .next t ∧ dailiesOf t f.toNat i.toNat = { d with changed := none } ∧ t.reels = s.reels ∧
        issued true (ctxAddr s f.toNat true i.toNat) (dailiesBytes (dailiesCode c) c) (dailiesBytes (dailiesCode c) c).length f.toNat
          (.writeBack f.toNat true i.toNat) s t) ∧
    ((tenantOf s f.toNat).state = .paused → exec (.ageTimerExpiry f i) s = .next s) ∧
    (∀ c, (tenantOf s f.toNat).state ≠ .paused → r.ctx = some c → c.ageRunning = true → c.ageLimit ≤ since32 s c.ageStart → 0 < reelFill c → ∃ t, exec (.ageTimerExpiry f i) s = .next t ∧
      t.dailies = s.dailies ∧ (reelOf t f.toNat i.toNat).ctx = some (settleReel { c with eligible := true, aged := true, ageRunning := false })) ∧
    (∀ c, d.ctx = some c → c.intEn = true → 1 ≤ c.pending → c.modTime ≠ 0 → c.modTime ≤ since32 s c.modStart →
      ∃ t, exec (.moderationTimerExpiry f i) s = .next t ∧ dailiesOf t f.toNat i.toNat = { d with msgDue := true, msgTimed := true } ∧
        t = { s with dailies := t.dailies })

/-! ### The scheduler and admission (10 R285, R286; 01 R17; 02 R56; 03 R69) -/

/-- SCHEDULER_ROUND of one ready tenant on one sequencer, and BUCKET_REFILL (R285, R286): the slate at the HEAD of the tenant's next reel is read
in two halves with a credit taken and HEAD advanced; a round takes each live tenant's shares from its call sheet as it begins; a refill adds to
each live tenant's buckets and to nothing else, and in DROWSE there is none. The model's: a slate is two reads of 64 bytes (log 25), the rates a
refill uses (log 100). -/
def Obligations.RoundReadsASlate : Prop :=
  ∀ (f i q : Nat) (c : ReelCtx) (d : DailiesCtx) (s : State), tablesOk s = true →
    let r := readShares s
    ((∀ g, tenantOf r g = (if (tenantOf s g).state = .free then tenantOf s g else
        { tenantOf s g with round := (tenantOf s g).sheet.shares })) ∧ r = { s with tenants := r.tenants } ∧
      (readsOn s = false → exec (.schedulerRound [q]) s = .next r)) ∧
    (readsOn s = true → liveTenants s = [f] → fetchForService f r = r → tenantReady r f = true → 1 ≤ (tenantOf s f).sheet.weight →
      nextReel r f = some i → (reelOf s f i).ctx = some c → (dailiesOf s f c.dailies).ctx = some d → mayGrant r 0 f q = true → f < 0x400 →
      ∃ t, exec (.schedulerRound [q]) s = .next t ∧ t.takes = s.takes ∧
        (∃ x, t.slates = s.slates ++ [x] ∧ x.tenant = f ∧ x.reel = i ∧ x.index = c.head ∧ x.seq = q ∧ x.credit = true ∧ x.stage = .reading) ∧
        (∃ e, (reelOf t f i).ctx = some e ∧ e.head = (c.head + 1) % 2 ^ c.log2 ∧ e.tail = c.tail ∧ e.inFlight = c.inFlight) ∧
        (∃ e, (dailiesOf t f c.dailies).ctx = some e ∧ e.credits = d.credits + 1 ∧ e.tail = d.tail ∧ e.head = d.head) ∧
        t.sched.rotation = (f + 1) % tenantCount s) ∧
    (s.modes.mode = .drowse → exec .bucketRefill s = .next s) ∧
    (s.modes.mode ≠ .drowse → s.sched.refillAt < now s → ∃ t, exec .bucketRefill s = .next t ∧ t.sched = { s.sched with refillAt := s.sched.refillAt + 1 } ∧
      (∀ g, tenantOf t g = (if (tenantOf s g).state = .free then tenantOf s g else refillTenant (tenantOf s g))) ∧
      t = { s with tenants := t.tenants, sched := t.sched })

/-- ADMISSION and EXT_PROGRAM_READ (01 R17, Table 1.3; 03 R69): a slate without an extended program that passes every check becomes a take on its
sequencer and counts in flight, once the sequencer's island runs (01 R11); one that fails gets its daily with the first failed check's status; the copy of an extended program is complete
once every byte is there. -/
def Obligations.AdmissionDecidesASlate : Prop :=
  ∀ (f : Func) (i : BitVec 20) (x : Slate) (xs : List Slate) (c : ReelCtx) (d : DailiesCtx) (s : State), tablesOk s = true →
    slatesOf s f.toNat i.toNat = x :: xs → (reelOf s f.toNat i.toNat).dead = false → destroying s f.toNat i.toNat = false →
    let b := joined x.bytes
    let program := programOf b (joined x.ext)
    let answer := notRunDaily (slateSeq b) (slateTag b) (slateClapper b) (zeroBytes 8)
    let at' := d.base + BitVec.ofNat 64 (32 * d.tail)
    ((reelOf s f.toNat i.toNat).ctx = some c → x.stage = .read → wantsExt b = false →
      (admissionCheck s f.toNat b program = none → healthy s 0 x.seq = true → unitReady s 0 x.seq = false → ∃ t, exec (.admission f i) s = .next t ∧
        t = { s with gaffer := { s.gaffer with islands := t.gaffer.islands } }) ∧
      (admissionCheck s f.toNat b program = none → healthy s 0 x.seq = true → unitReady s 0 x.seq = true → ∃ t, exec (.admission f i) s = .next t ∧
        t.takes = s.takes ++ [newTake x b program x.seq] ∧ t.slates = s.slates.filter (fun y => y.id ≠ x.id) ∧ t.dailies = s.dailies ∧
        ∃ e, (reelOf t f.toNat i.toNat).ctx = some e ∧ e.inFlight = c.inFlight + 1 ∧ e.head = c.head ∧ e.tail = c.tail) ∧
      (∀ st, admissionCheck s f.toNat b program = some st → (dailiesOf s f.toNat x.dailies).ctx = some d → d.halted = false →
        (dailiesOf s f.toNat x.dailies).halting = none → issuable true at' s = true → ∃ t, exec (.admission f i) s = .next t ∧ t.takes = s.takes ∧
          t.slates = s.slates.filter (fun y => y.id ≠ x.id) ∧
          issued true at' ((answer st).bytes d.phase) 32 f.toNat (.daily f.toNat i.toNat x.dailies d.intEn) s t ∧
          ∃ e, (dailiesOf t f.toNat x.dailies).ctx = some e ∧ e.tail = (d.tail + 1) % 2 ^ d.log2 ∧ e.credits = d.credits - 1)) ∧
    (x.stage = .extReading → extComplete x = true → x.index < 65536 → exec (.extProgramRead f i (BitVec.ofNat 16 x.index)) s =
      .next (setSlate { x with stage := .extRead } s))

/-! ### Programs (03 R74 to R108) -/

/-- The stage area (R74): bytes written read back, every byte outside a write reads as before, and a write keeps the canonical form. -/
def Obligations.StageReadsWhatWasWritten : Prop :=
  ∀ (t : Take) (off a n : Nat) (bs : Bytes),
    stageRead (stageWrite off bs t) off bs.length = bs ∧
    (tableOk 0 t.stage = true → tableOk 0 (stageWrite off bs t).stage = true) ∧
    (tableOk 0 t.stage = true → a + n ≤ off ∨ off + bs.length ≤ a → stageRead (stageWrite off bs t) a n = stageRead t a n) ∧
    stageWrite off bs t = { t with stage := (stageWrite off bs t).stage }

/-- What stops a code before it runs (R83, R85, R106, R108): an aborted reel ends the take with REEL_ABORTED, the budget with BUDGET_EXCEEDED, a
range outside the stage area with STAGE_RANGE; a parity fault, its own or of a crossing it sends over, fences the sequencer and the take runs again. Said of every code. The model's: the
abort before the budget (log 81). -/
def Obligations.CodesStopBeforeTheyRun : Prop :=
  ∀ (id unit : Nat) (tagOk : Bool) (found : SeqCheck) (t : Take) (s : State), takeOf s id = some t → t.phase = .ready →
    ∀ p ∈ [(1, Instr.move id found), (2, .movi id found), (3, .loop id found), (4, .wait id found), (5, .signal id found), (6, .key id found tagOk),
        (7, .op id found unit), (8, .check id found), (9, .skip id found), (10, .endCode id found)], codeOpcode (codeAt t) = p.1 →
      let ends := fun st : Status => ∃ u, exec p.2 s = .next u ∧ ∃ w, takeOf u id = some w ∧ w.phase = .ended st ∧ w.result = none ∧ w.op = none
      let allowed := t.count + 1 ≤ (tenantOf s t.tenant).sheet.budget
      (aborted s t = true → ends stReelAborted) ∧
      (aborted s t = false → ¬allowed → ends stBudgetExceeded) ∧
      (aborted s t = false → allowed → found = .passed → codeRangesOk (iterIndex t) (codeAt t) = false → ends stStageRange) ∧
      (∀ q, aborted s t = false → allowed → found ≠ .passed → t.seq = some q → healthy s 0 q = true → t.runs < 4 →
        ∃ u, exec p.2 s = .next u ∧ unitFenced u 0 q = true ∧ raised u 0x80 = true ∧
          ∃ w, takeOf u id = some w ∧ w.phase = .stopped ∧ w.seq = none ∧ w.runs = t.runs)

/-- MOVI, LOOP, SKIP, CHECK, WAIT and KEY (R81, R82, R86, R89, R91, R96, R98): the take after each, and that nothing else changes where it goes
on; a WAIT with writes outstanding ends with the last acknowledgement; a CHECK that fails with END_ON_FAIL and a key that fails its checks end the
take. -/
def Obligations.SequencerCodesRun : Prop :=
  ∀ (id : Nat) (port : Bool) (tag : BitVec 10) (r : Request) (t : Take) (s : State),
    let c := codeAt t
    let u := { t with count := t.count + 1 }
    let becomes := fun (i : Instr) (w : Take) => exec i s = .next (setTake w s) ∧ takeOf (setTake w s) id = some w
    let ends := fun (i : Instr) (st : Status) => ∃ v, exec i s = .next v ∧ ∃ w, takeOf v id = some w ∧ w.phase = .ended st ∧ w.result = none
    let taken := skipCond c = 0 || (skipCond c = 1 && t.flag) || (skipCond c = 2 && !t.flag)
    let held := xor (checkHolds t c) (ctrlBits c 4 1 = 1)
    let slotKey := Binding.resident (keySlot c) (slotOf s (keySlot c)).gen (slotKey s (keySlot c))
    let slotOk := slotCheck s t.tenant (keySlot c) (pairedNeeds t.program t.pc)
    let blob := stageRead t (codeStage c) (keyBlobLen c)
    let opened := if keySource c = 1 then nativeOpen s t.tenant blob else x143Open s t.tenant blob
    (codeStarts id 2 t s → becomes (.movi id .passed) (nextCode (stageWrite
      (codeStage c + (if ctrlBits c 4 1 = 1 then moviSize c * iterIndex t else 0)) (slice 8 (moviSize c) c) u))) ∧
    (codeStarts id 3 t s → becomes (.loop id .passed) (if loopCount c = 0 then goTo (t.pc + loopBody c + 1) u else { u with
      pc := t.pc + 1, loops := { first := t.pc + 1, past := t.pc + loopBody c + 1, count := loopCount c, iter := 0 } :: t.loops })) ∧
    (codeStarts id 9 t s → becomes (.skip id .passed) (if taken then goTo (skipTarget t.pc c).toNat u else nextCode u)) ∧
    (codeStarts id 8 t s → held = true ∨ ctrlBits c 5 1 ≠ 1 → becomes (.check id .passed) (nextCode { u with flag := held })) ∧
    (codeStarts id 8 t s → held = false → ctrlBits c 5 1 = 1 → ends (.check id .passed) stCheckFail) ∧
    (codeStarts id 4 t s → becomes (.wait id .passed) (if t.writes = 0 then nextCode u else { u with phase := .waitWrites })) ∧
    (takeOf s t.id = some t → t.phase = .waitWrites → codeOpcode c = 4 → aborted s t = false → s.fabric.held = [] → portRuns s port = true →
      (outstandingOn s port true).find? (fun q => q.tag = tag.toNat) = some r → (∃ n, r.purpose = .takeWrite t.id n) → 1 ≤ t.writes →
      ∃ v, exec (.fabricWriteResponse port tag ⟨0, false⟩) s = .next v ∧
        takeOf v t.id = some (if t.writes = 1 then nextCode { t with writes := 0 } else { t with writes := t.writes - 1 })) ∧
    (codeStarts id 6 t s → keySource c = 0 → t.record[t.cursor]? = none →
      (slotOk = none → becomes (.key id .passed true) (nextCode (bindKey (keyPos c) slotKey (reserve (.binding slotKey) u)))) ∧
      (∀ st, slotOk = some st → ends (.key id .passed true) st) ∧
      (slotOk = none → ends (.key id .passed false) stFaultDetected)) ∧
    (codeStarts id 6 t s → keySource c ≠ 0 →
      (∀ k, opened = .ok k → becomes (.key id .passed true) (nextCode (bindKey (keyPos c) (.blob k) u))) ∧
      (∀ st, opened = .error st → ends (.key id .passed true) st))

/-- MOVE, SIGNAL, END and PARK_TIMEOUT_EXPIRY (R75 to R80, R88, R99, R100, R103): a stage-to-stage MOVE ends at once; one burst to or from an
awake host address is issued, a read leaving the take to wait; an asleep address parks it, and a park longer than PARK_TIMEOUT ends it; END ends
the take with its inline result. -/
def Obligations.HostCodesIssueBursts : Prop :=
  ∀ (id : Nat) (t : Take) (s : State), t.reads = 0 →
    let c := codeAt t
    let u := { t with count := t.count + 1 }
    let n := moveLen c
    let host := moveHost t c
    let from' := stageRead t (moveOff t c) n
    let out := swapped (moveSwap c) from'
    let oneBurst := fun (addr len : Nat) => len ≠ 0 ∧ len ≤ 64 - addr % 64
    let result := match endResult c with | 0 => t.result | 1 => some (stageRead t (codeStage c) 8) | _ => none
    (codeStarts id 1 t s → n = 0 → exec (.move id .passed) s = .next (setTake (nextCode u) s)) ∧
    (codeStarts id 1 t s → n ≠ 0 → moveDir c = 2 → exec (.move id .passed) s = .next (setTake (nextCode (stageWrite (moveOff t c)
      (swapped (moveSwap c) (stageRead t host n)) (feedCrc (stageRead t host n) u))) s)) ∧
    (codeStarts id 1 t s → moveDir c = 0 → oneBurst host n →
      (issuable false (BitVec.ofNat 64 host) s = true → ∃ v, exec (.move id .passed) s = .next v ∧
        issued false (BitVec.ofNat 64 host) [] n t.tenant (.takeRead id 0) s v ∧
        ∃ w, takeOf v id = some w ∧ w.phase = .moving ∧ w.reads = 1 ∧ w.stage = t.stage ∧ w.pc = t.pc) ∧
      (asleep s (BitVec.ofNat 64 host) = true → ∃ v, exec (.move id .passed) s = .next v ∧ v.fabric = s.fabric ∧
        ∃ w, takeOf v id = some w ∧ w.phase = .moving ∧ w.parked = some (now s) ∧ w.pc = t.pc)) ∧
    (codeStarts id 1 t s → n ≠ 0 → moveDir c = 1 → oneBurst host out.length → issuable true (BitVec.ofNat 64 host) s = true →
      ∃ v, exec (.move id .passed) s = .next v ∧ issued true (BitVec.ofNat 64 host) out out.length t.tenant (.takeWrite id (t.count + 1)) s v ∧
        takeOf v id = some { nextCode (feedCrc from' u) with writes := t.writes + 1 }) ∧
    (codeStarts id 5 t s → t.writes = 0 → oneBurst (codeHost c) (signalData t c).length → issuable true (BitVec.ofNat 64 (codeHost c)) s = true →
      ∃ v, exec (.signal id .passed) s = .next v ∧
        issued true (BitVec.ofNat 64 (codeHost c)) (signalData t c) (signalData t c).length t.tenant (.takeWrite id (t.count + 1)) s v ∧
        takeOf v id = some { nextCode u with writes := 1 }) ∧
    (codeStarts id 5 t s → t.writes ≠ 0 → exec (.signal id .passed) s = .next (setTake { u with phase := .waitWrites } s)) ∧
    (codeStarts id 10 t s → endStores c = false → ∃ v, exec (.endCode id .passed) s = .next v ∧
      ∃ w, takeOf v id = some w ∧ w.phase = .ended 0 ∧ w.result = result ∧ w.stage = t.stage ∧ w.crc = t.crc) ∧
    (∀ p, takeOf s id = some t → t.phase = .moving → t.parked = some p → p + (tenantOf s t.tenant).sheet.parkTimeout < now s → aborted s t = false →
      ∃ v, exec (.parkTimeoutExpiry id) s = .next v ∧ ∃ w, takeOf v id = some w ∧ w.phase = .ended stAsleepTimeout ∧ w.result = none)

/-! ### Operations on their units (01 R24, R25; 03 R92 to R94; 04 R123, R124, R137; 06 R186; 07 R221; 09 R272) -/

/-- OP (R92): one that finds a key or a parameter wrong ends the take before it reserves anything; a digest operation with an idle digest unit of
the tenant's share whose island runs starts on it; without one it waits, and an island without power joins the gaffer's queue (01 R11). -/
def Obligations.OpTakesItsUnit : Prop :=
  ∀ (id unit : Nat) (t : Take) (o : OpSpec) (s : State), codeStarts id 7 t s →
    let c := codeAt t
    let u := { t with count := t.count + 1 }
    let refusal := opRefusal u c (tenantOf s t.tenant).sheet.shielded
    (∀ st, refusal = some st → ∃ v, exec (.op id .passed unit) s = .next v ∧
      ∃ w, takeOf v id = some w ∧ w.phase = .ended st ∧ w.record = t.record ∧ w.result = none) ∧
    (refusal = none → opSpec c = some o → o.kind = .digest → opFamily (opCode c) = 3 → t.op = none → t.parked = none → s.units.jobs = [] →
      shareRemains s 3 t.tenant = true →
      (mayGrant s 3 t.tenant unit = true → unitReady s 3 unit = true → ∃ v, exec (.op id .passed unit) s = .next v ∧ v.units.jobs = [] ∧ ∃ w p, takeOf v id = some w ∧
        w.phase = .running ∧ w.op = some p ∧ p.kind = .digest ∧ p.unit = some unit ∧ p.param = opParamBlock u c ∧ w.pc = t.pc) ∧
      (mayGrant s 3 t.tenant unit = false ∨ unitReady s 3 unit = false → ∃ v, exec (.op id .passed unit) s = .next v ∧ v.units.jobs = [id] ∧
        (mayGrant s 3 t.tenant unit = true → (islandAt s (islandOf s 3 unit)).state = .powerGated → tablesOk s = true →
          (islandAt v (islandOf s 3 unit)).queued = true) ∧ ∃ w p, takeOf v id = some w ∧
        w.phase = .waitUnit ∧ w.op = some p ∧ p.kind = .digest ∧ p.unit = none ∧ p.param = opParamBlock u c ∧ w.pc = t.pc))

/-- LANE_OP_COMPLETION, DIGEST_OP_COMPLETION, PK_OP_COMPLETION and RNG_OPERATION_COMPLETE (R24, R25, R94, R95): a sound result is released to
stage and the take goes on, or ends where an end waited for its core (07 R223); a failed operation ends the take with its status; a unit whose
checks failed, or whose result fails a check of 07 Table 7.8, is fenced with event 0x80, nothing is released, and the take runs again. -/
def Obligations.OperationsEndOnTheirUnits : Prop :=
  ∀ (i : Nat) (found : UnitCheck) (t : Take) (o : OpRun) (s : State), takeOf s t.id = some t → t.op = some o → t.phase = .running →
    let c := codeAt t
    let released := fun (v : State) (out : OpOut) => ∃ w, takeOf v t.id = some w ∧ w.lastOk = true ∧ w.op = none ∧ w.phase = .ready ∧
      (out.params = [] → stageRead w (opDst c) out.dst.length = out.dst) ∧
      w.result = (if out.result.isSome then out.result else t.result) ∧ (out.bind = none → w.keys = t.keys)
    let failed := fun (v : State) (out : OpOut) =>
      ∃ w, takeOf v t.id = some w ∧ w.phase = .ended out.status ∧ w.stage = t.stage ∧ w.lastOk = false
    let soft := fun out : OpOut => softStatus out.status && opSoft c
    let atRng := opRun (opUnderWay t c o)
    (∀ p ∈ [(UnitKind.lane, Instr.laneOpCompletion i found), (.digest, .digestOpCompletion i found), (.standard, .pkOpCompletion false i found),
        (.shielded, .pkOpCompletion true i found)], runsOn s p.1 i = some t →
      let x := opOnUnit t c o (regsOf s (kindCode p.1) i)
      let out := opRun x
      let sound := checkedAs p.1 x out found = .passed
      (sound → o.fenceAfter = false → o.after = none → out.status = 0 → ∃ v, exec p.2 s = .next v ∧ released v out) ∧
      (sound → o.fenceAfter = false → out.status ≠ 0 → soft out = false → ∃ v, exec p.2 s = .next v ∧ failed v out) ∧
      (∀ st, sound → o.fenceAfter = false → o.after = some (.ends st) → out.status = 0 → ∃ v, exec p.2 s = .next v ∧
        ∃ w, takeOf v t.id = some w ∧ w.phase = .ended st) ∧
      (¬sound → healthy s (kindCode p.1) i = true → aborted s t = false → t.runs < 4 → (∀ st, o.after ≠ some (.ends st)) →
        ∃ v, exec p.2 s = .next v ∧ unitFenced v (kindCode p.1) i = true ∧ raised v 0x80 = true ∧
        ∃ w, takeOf v t.id = some w ∧ w.phase = .stopped ∧ w.stage = t.stage ∧ w.record = t.record)) ∧
    (o.kind = .rng → (atRng.status = 0 → ∃ v, exec (.rngOperationComplete t.id) s = .next v ∧ released v atRng) ∧
      (atRng.status ≠ 0 → soft atRng = false → ∃ v, exec (.rngOperationComplete t.id) s = .next v ∧ failed v atRng))

/-- ENGINE_SEGMENT_END of a job on stage, and TAKE_REEXECUTION (04 R115, R124, R137; 16 R439): a segment that is not the last leaves the job on
its engine with its input position moved; the last one ends the OP; a failed check fences the engine and stops the take; a stopped take runs again
from its first code with its record. -/
def Obligations.SegmentsAndReexecution : Prop :=
  ∀ (e q : Nat) (found : UnitCheck) (t : Take) (o : OpRun) (s : State), takeOf s t.id = some t → (∀ u ∈ s.takes, u.id = t.id → u = t) →
    let c := codeAt t
    let stop := segmentEnd (opLen c) o.done
    let input := joined ((o.input ++ [(o.done, stageRead t (opSrc c + o.done) (stop - o.done))]).filter fun p => p.1 < stop)
    let out := opRun (opInput t c o.param input o.nonce o.drawn)
    (runsOn s .engine e = some t → t.op = some o → symHost (opCode c) = false → t.parked = none →
      (found = .passed → stop < opLen c → switchTo s e = none → ∃ v, exec (.engineSegmentEnd e found) s = .next v ∧ ∃ w p, takeOf v t.id = some w ∧
        w.phase = .running ∧ w.op = some p ∧ p.unit = some e ∧ p.done = stop ∧ p.nonce = o.nonce ∧ w.pc = t.pc) ∧
      (found = .passed → stop = opLen c → out.status = 0 → ∃ v, exec (.engineSegmentEnd e found) s = .next v ∧ ∃ w, takeOf v t.id = some w ∧
        w.phase = .ready ∧ w.op = none ∧ w.lastOk = true) ∧
      (found ≠ .passed → healthy s 2 e = true → aborted s t = false → t.runs < 4 → ∃ v, exec (.engineSegmentEnd e found) s = .next v ∧
        unitFenced v 2 e = true ∧ raised v 0x80 = true ∧ ∃ w, takeOf v t.id = some w ∧ w.phase = .stopped ∧ w.record = t.record)) ∧
    (t.phase = .stopped →
      (aborted s t = false → shareRemains s 0 t.tenant = true → mayGrant s 0 t.tenant q = true → unitReady s 0 q = false →
        exec (.takeReexecution t.id q) s = .next (queueIsland (islandOf s 0 q) s)) ∧
      (aborted s t = false → shareRemains s 0 t.tenant = true → mayGrant s 0 t.tenant q = true → unitReady s 0 q = true → ∃ v, exec (.takeReexecution t.id q) s = .next v ∧
        takeOf v t.id = some (restarted t q) ∧ raised v 0x84 = true ∧ v.units.retries = satInc s.units.retries ∧ v.tenants = s.tenants ∧
        v.keys = s.keys) ∧
      (aborted s t = false → shareRemains s 0 t.tenant = false → ∃ v, exec (.takeReexecution t.id q) s = .next v ∧
        ∃ w, takeOf v t.id = some w ∧ w.phase = .ended stUnitUnavailable))

/-! ### Dailies and their messages (01 R22, R23; 02 R36, R53, R54, R57, R64, R459) -/

/-- DAILY_WRITE, ABORTED_DAILY_WRITE, DAILY_PARK_TIMEOUT, DAILIES_MESSAGE_WRITE and MESSAGE_PARK_TIMEOUT (01 R22, R23; 02 R53, R57, R64, R459): an
ended take's daily is written at TAIL and the take is over; an unread slate of an aborted reel gets its daily, once its dailies is not HALTED; a daily that waits too long on a
sleeping domain is lost and its dailies halts; a message is a 4-byte write that clears PENDING, or fails with event 0xA5. -/
def Obligations.DailiesAndMessages : Prop :=
  (∀ (f : Func) (i : BitVec 20) (t : Take) (st : Status) (c : ReelCtx) (d : DailiesCtx) (x : Slate) (xs : List Slate) (ok : Bool) (s : State),
    tablesOk s = true →
    let usable := fun g k : Nat => (dailiesOf s g k).ctx = some d ∧ d.halted = false ∧ (dailiesOf s g k).halting = none
    let at' := d.base + BitVec.ofNat 64 (32 * d.tail)
    let advanced := fun (v : State) (g k : Nat) =>
      ∃ e, (dailiesOf v g k).ctx = some e ∧ e.tail = (d.tail + 1) % 2 ^ d.log2 ∧ e.credits = d.credits - 1
    (takeOf s t.id = some t → t.phase = .ended st →
      (t.clapper = true → 0 < t.writes → exec (.dailyWrite t.id) s = .next s) ∧
      ((t.clapper = true → t.writes = 0) → usable t.tenant t.dailies → issuable true at' s = true → ∃ v, exec (.dailyWrite t.id) s = .next v ∧
        takeOf v t.id = none ∧ advanced v t.tenant t.dailies ∧
        issued true at' ((takeDaily t st).bytes d.phase) 32 t.tenant (.daily t.tenant t.reel t.dailies d.intEn) s v)) ∧
    (answersAborted s f.toNat = true → (reelOf s f.toNat i.toNat).ctx = some c → c.state = .aborted → c.abortRemain ≠ 0 →
      slatesOf s f.toNat i.toNat = x :: xs →
      (x.stage = .owed → issuable false (c.base + BitVec.ofNat 64 (128 * x.index)) s = true → ∃ v, exec (.abortedDailyWrite f i) s = .next v ∧
        issued false (c.base + BitVec.ofNat 64 (128 * x.index)) [] 32 f.toNat (.abortHeader x.id) s v ∧ v.dailies = s.dailies) ∧
      (x.stage = .owedRead ok → dailiesStopped s f.toNat x.dailies = true → exec (.abortedDailyWrite f i) s = .next s) ∧
      (x.stage = .owedRead ok → usable f.toNat x.dailies → issuable true at' s = true → ∃ v, exec (.abortedDailyWrite f i) s = .next v ∧
        v.slates = s.slates.filter (fun y => y.id ≠ x.id) ∧ advanced v f.toNat x.dailies ∧
        issued true at' ((abortedDaily x ok).bytes d.phase) 32 f.toNat (.daily f.toNat i.toNat x.dailies d.intEn) s v ∧
        ∃ e, (reelOf v f.toNat i.toNat).ctx = some e ∧ e.head = (c.head + 1) % 2 ^ c.log2 ∧ e.abortRemain = c.abortRemain - 1)) ∧
    (s.takes.find? (dailyLate s f.toNat i.toNat (tenantOf s f.toNat).sheet.parkTimeout) = some t → usable f.toNat i.toNat →
      dailyOut s f.toNat i.toNat = false → ∃ v, exec (.dailyParkTimeout f i) s = .next v ∧ takeOf v t.id = none ∧ advanced v f.toNat i.toNat ∧
        raised v 0xA2 = true ∧ ∃ e, (dailiesOf v f.toNat i.toNat).ctx = some e ∧ e.halted = true ∧ e.haltStatus = stAsleepTimeout ∧ e.pending = d.pending)) ∧
  (∀ (f : Func) (i : BitVec 20) (d : DailiesCtx) (s : State), tablesOk s = true →
    let o := dailiesOf s f.toNat i.toNat
    o.ctx = some d → o.msgDue = true →
      (pairs s.modes.mode = true → d.pending ≠ 0 → dailyOut s f.toNat i.toNat = false → issuable true d.msgAddr s = true →
        ∃ v, exec (.dailiesMessageWrite f i) s = .next v ∧
          issued true d.msgAddr (toLe 4 d.msgData.toNat) 4 f.toNat (.dailiesMessage f.toNat i.toNat) s v ∧
          (dailiesOf v f.toNat i.toNat).ctx = some { d with pending := 0 } ∧ (dailiesOf v f.toNat i.toNat).msgDue = false ∧ v.reels = s.reels) ∧
      (∀ p, asleep s d.msgAddr = true → o.msgSince = some p → p + (tenantOf s f.toNat).sheet.parkTimeout < now s →
        ∃ v, exec (.messageParkTimeout f i) s = .next v ∧ raised v 0xA5 = true ∧ (dailiesOf v f.toNat i.toNat).ctx = some { d with pending := 0 } ∧
          (dailiesOf v f.toNat i.toNat).msgDue = false ∧ v.fabric = s.fabric ∧ v.reels = s.reels))

/-! ### The host fabric (14 R376 to R383) -/

/-- FABRIC_READ_RESPONSE, FABRIC_WRITE_RESPONSE and FABRIC_PORT_RESET with nothing held back (R380, R382): data reaches the request it answers; an
acknowledged write of a take is counted off; an acknowledged context write ends its command; an error is reissued while RETRY allows and then ends
the take; poison ends it at once; an unknown tag, a crossing whose parity fails (01 R12) or a reset with requests outstanding fences the port with event
0x86. The model's: a failed fetch
and the takes of a fenced port (logs 63 and 64). -/
def Obligations.FabricAnswers : Prop :=
  ∀ (port : Bool) (tag : BitVec 10) (data : Bytes) (resp : BitVec 2) (r : Request) (t : Take) (f i pos : Nat) (c : ReelCtx) (s : State),
    tablesOk s = true → s.fabric.held = [] → portRuns s port = true →
    let answers := fun write : Bool => (outstandingOn s port write).find? (fun q => q.tag = tag.toNat) = some r
    let closed := fun (v : State) (write : Bool) => ∀ q ∈ outstandingOn v port write, q.tag ≠ tag.toNat
    let ends := fun (v : State) (st : Status) => ∃ w, takeOf v t.id = some w ∧ w.phase = .ended st ∧ w.result = none
    let command := (tenantOf s f).rc.command
    (answers false → data.length = r.len →
      (r.purpose = .fetch f false i → ∃ v, exec (.fabricReadResponse port tag data ⟨0, false⟩) s = .next v ∧ closed v false ∧
        reelOf v f i = { reelOf s f i with arrived := some data } ∧ v.dailies = s.dailies ∧ v.takes = s.takes) ∧
      (r.purpose = .fetch f true i → ∃ v, exec (.fabricReadResponse port tag data ⟨0, false⟩) s = .next v ∧ closed v false ∧
        dailiesOf v f i = { dailiesOf s f i with arrived := some data } ∧ v.reels = s.reels ∧ v.takes = s.takes) ∧
      (∀ a got, r.purpose = .imageRead → s.fw.run = some (.reading a got) → ∃ v, exec (.fabricReadResponse port tag data ⟨0, false⟩) s = .next v ∧
        closed v false ∧ v.fw = { s.fw with run := some (.reading a (got ++ data)) }) ∧
      (r.purpose = .takeRead t.id pos → takeOf s t.id = some t → t.op = none → t.phase = .moving → 1 < t.reads →
        ∃ v, exec (.fabricReadResponse port tag data ⟨0, false⟩) s = .next v ∧ closed v false ∧
          takeOf v t.id = some { t with reads := t.reads - 1, buffer := tableSet [] t.buffer pos data } ∧ v.reels = s.reels)) ∧
    (answers false → r.purpose = .takeRead t.id pos → takeOf s t.id = some t →
      (∃ v, exec (.fabricReadResponse port tag data ⟨1, false⟩) s = .next v ∧ ends v stBusPoison) ∧
      (2 ≤ resp.toNat → retryOf s r < r.issues → ∃ v, exec (.fabricReadResponse port tag data ⟨resp, false⟩) s = .next v ∧ ends v stBusError) ∧
      (2 ≤ resp.toNat → r.issues ≤ retryOf s r → issuable false r.addr (closeRequest port false tag.toNat s) = true →
        ∃ v, exec (.fabricReadResponse port tag data ⟨resp, false⟩) s = .next v ∧ takeOf v t.id = some t ∧
          ∃ q ∈ outstandingOn v (routePort s (addrPort r.addr)) false, q.addr = r.addr ∧ q.purpose = r.purpose ∧ q.issues = r.issues + 1)) ∧
    (answers true → (∃ n, r.purpose = .takeWrite t.id n) → takeOf s t.id = some t → t.phase ≠ .waitWrites ∨ 1 < t.writes →
      ∃ v, exec (.fabricWriteResponse port tag ⟨0, false⟩) s = .next v ∧ closed v true ∧ takeOf v t.id = some { t with writes := t.writes - 1 }) ∧
    (answers true → r.purpose = .commandWrite f false i → i < 2 ^ 20 → (tenantOf s f).waiting = [] → (cachedEntries s).length < 2 ^ cacheLog s →
      (rcOp command = 2 → reelOfBytes r.data = some c → (reelOf s f i).ctx = none → ∃ v, exec (.fabricWriteResponse port tag ⟨0, false⟩) s = .next v ∧
        (reelOf v f i).created = true ∧ (reelOf v f i).ctx = some c ∧ (tenantOf v f).rc.busy = false ∧ (tenantOf v f).rc.result = 0 ∧
        (∀ d, (dailiesOf s f c.dailies).ctx = some d → (dailiesOf v f c.dailies).ctx = some { d with bound := d.bound + 1 })) ∧
      (rcOp command = 3 → (reelOf s f i).ctx = none → slatesOf s f i = [] → ∃ v, exec (.fabricWriteResponse port tag ⟨0, false⟩) s = .next v ∧
        reelOf v f i = ReelObj.reset ∧ (tenantOf v f).rc.busy = false ∧ (tenantOf v f).rc.result = 0)) ∧
    ((portOf s port).fenced = false → ∀ x ∈ [Instr.fabricReadResponse port tag data ⟨resp, true⟩, .fabricWriteResponse port tag ⟨resp, true⟩],
      ∃ v, exec x s = .next v ∧ (portOf v port).fenced = true ∧ raised v 0x86 = true) ∧
    (outstandingOn s port false = [] → outstandingOn s port true = [] → (portOf s port).fenced = false →
      ∃ v, exec (.fabricReadResponse port tag data ⟨resp, false⟩) s = .next v ∧ (portOf v port).fenced = true ∧ raised v 0x86 = true ∧ v.takes = s.takes) ∧
    ((portOf s port).fenced = false → (portOf s port).reads ≠ [] → (portOf s port).writes = [] →
      (∀ q ∈ (portOf s port).reads, ∃ k, q.purpose = .takeRead t.id k) → takeOf s t.id = some t → t.phase = .moving → t.runs < 4 → aborted s t = false →
      ∃ v, exec (.fabricPortReset port) s = .next v ∧ (portOf v port).fenced = true ∧ (portOf v port).reads = [] ∧ (portOf v port).writes = [] ∧
        raised v 0x86 = true ∧ ∃ w, takeOf v t.id = some w ∧ w.phase = .stopped ∧ w.record = t.record)

/-! ### Twins (11) -/

/-- TWIN_CFG_WRITE and ML_PEER_KEY_WRITE with the lock open, ML_PORT_UP_CHANGE and FEED_CHANGE (R303 to R306, R309, R319): the fields take their
values, a new MEMBER is written to the vault; the partner's key gives its hash and, on a free shielded
core, Z_s, and ends a session with cause 4; a port's change raises
event 0xC2, a feed lost or regained event 0xC6 where feeds are duplicated. -/
def Obligations.TwinRegistersAndSignals : Prop :=
  ∀ (src : Source) (v : Word) (up feedB : Bool) (level : FeedLevel) (s : State),
    let key := setWordAt 11 v s.twin.peerKey
    let feed := if feedB then s.twin.feedB else s.twin.feedA
    (reaches src 0x00040 s → lockOpen src s → ∃ t, exec (.twinCfgWrite src v) s = .next t ∧ t.twin.period = v.extractLsb' 32 16 ∧
      t.twin.missLimit = v.extractLsb' 24 8 ∧ t.twin.dup = v.extractLsb' 4 2 ∧ t.twin.pref = v.getLsbD 2 ∧ t.twin.enable = v.getLsbD 0 ∧
      (s.twin.enable = false → v.getLsbD 0 = true → t.twin.link = .wait) ∧
      (s.twin.enable = true → v.getLsbD 0 = false → t.twin.link = .off ∧ t.twin.role = .solo) ∧
      (bits 55 9 v ≠ s.vault.member → partnerMember s ≠ some (bits 55 9 v) → vaultIdle s → t.vault.outstanding.isSome = true) ∧
      t.regs = closedRegs src s ∧ t.keys = s.keys ∧ t.tenants = s.tenants ∧ t.takes = s.takes ∧ t.modes = s.modes) ∧
    (reaches src 0x0A098 s → lockOpen src s → ∃ t, exec (.mlPeerKeyWrite src v) s = .next t ∧ t.twin.peerKey = key ∧ t.twin.peerHash = sha384 key ∧
      ((pointOf p384 key).isSome = false → t.twin.zs = none ∧ t.units = s.units) ∧
      ((pointOf p384 key).isSome = true → s.units.idk = [] → shieldedFree s →
        t.twin.zs = s.ao.idk.bind (fun d => ecdh p384 d key) ∧ t.units = s.units) ∧
      ((pointOf p384 key).isSome = true → s.units.idk ≠ [] ∨ idleShielded s = [] → t.twin.zs = none ∧ t.units.idk = s.units.idk ++ [.peer]) ∧
      (linked s = false → t.twin.link = s.twin.link ∧ t.events = s.events) ∧
      (linked s = true → t.twin.role = .solo ∧ t.twin.lossCause = 4 ∧ raised t 0xC1 = true) ∧
      t = withLog { withIslands s t with
        twin := t.twin, regs := closedRegs src s, units := { s.units with idk := t.units.idk },
        rng := { s.rng with waiting := t.rng.waiting } } t) ∧
    (managementRuns s.modes.mode = true →
      (∃ t, exec (.mlPortUpChange false up) s = .next t ∧ (up ≠ s.twin.upA → raised t 0xC2 = true) ∧ (up = s.twin.upA → t.events = s.events) ∧
        t = { s with twin := { s.twin with upA := up }, events := t.events }) ∧
      (∃ t, exec (.mlPortUpChange true up) s = .next t ∧ (auxIsLink s = true → up ≠ s.twin.upB → raised t 0xC2 = true) ∧
        (auxIsLink s = false ∨ up = s.twin.upB → t.events = s.events) ∧ t = { s with twin := { s.twin with upB := up }, events := t.events }) ∧
      (∃ t, exec (.feedChange feedB level) s = .next t ∧ (if feedB then t.twin.feedB else t.twin.feedA) = level ∧
        (dupFeeds s = true → (feed = .lost ↔ level ≠ .lost) → raised t 0xC6 = true) ∧ (dupFeeds s = false → t.events = s.events) ∧
        t = { s with twin := t.twin, events := t.events, rng := { s.rng with waiting := t.rng.waiting } }))

/-- The steps of pairing (R309, R310, Tables 11.5, 11.6): an attempt starts with the fleet key present and asks for the random bytes of its ephemeral key; the
HELLO goes once a free shielded core has generated it; a partner's HELLO is taken or refused; the shared secret gives the frame keys and the CONFIRM; a CONFIRM that agrees fixes the roles and
begins sync with event 0xC4; 10 ms without one refuse the attempt. The model's: the transcript over the HELLO payloads, and what discards a frame
(logs 46 and 47). -/
def Obligations.PairingProceedsOrIsRefused : Prop :=
  ∀ (port : Bool) (b p own peer ze zs : Bytes) (eph t0 : Nat) (s : State),
    let x := s.twin.session
    let refused := fun (t : State) (code : Nat) => t.twin.refuse = code ∧ t.twin.retryAt = some (now s + 10000) ∧ t.twin.role = .solo ∧
      raised t 0xC3 = true ∧
      t = withLog { s with twin := t.twin, rng := { s.rng with waiting := s.rng.waiting.filter fun r => r.who ≠ .ephemeral } } t
    let begins := fun (t : State) (d : Option Bytes) => t.twin.link = .handshake ∧ t.twin.role = .solo ∧ t.twin.retryAt = none ∧
      t.twin.session = { Session.reset with drawn := d } ∧ t = { s with twin := t.twin, rng := t.rng }
    let starts := fun c : Instr =>
      ((slotOf s 0x20).state = .active → rngFailed s = false → s.rng.waiting = [] →
        (rngServes s = true → scalarBytes p384 ≤ s.rng.buffer.length → ∃ t, exec c s = .next t ∧
          begins t (some (s.rng.buffer.take (scalarBytes p384))) ∧ t.rng = { s.rng with buffer := s.rng.buffer.drop (scalarBytes p384) }) ∧
        (rngServes s = false → ∃ t, exec c s = .next t ∧ begins t none ∧
          t.rng.waiting = [{ who := .ephemeral, bytes := scalarBytes p384, pr := false, asked := now s }])) ∧
      ((slotOf s 0x20).state ≠ .active → ∃ t, exec c s = .next t ∧ refused t 1)
    let transcript := sha384 (if x.lower then own ++ peer else peer ++ own)
    let keys := linkKeys (groupMaterial s 0x20) zs ze transcript
    (mayPair s = true → s.twin.retryAt = none → starts .pairingStart) ∧
    (mayPair s = true → s.twin.retryAt = some t0 → t0 ≤ now s → starts .helloRetry) ∧
    (∀ d, s.twin.link = .handshake → x.hello = none → x.drawn = some d → shieldedFree s →
      let own := scalarFrom p384.n d
      ∃ t, exec .ephemeralKeygenComplete s = .next t ∧ t.twin.lastSent = helloFrame (helloPayload s own) ∧
        t.twin.session = { x with drawn := none, eph := some own, hello := some (helloPayload s own), helloAt := now s } ∧
        t = { withIslands s t with twin := t.twin }) ∧
    (portHears port s = true →
      (∃ t, exec (.hello port b true) s = .next t ∧ t.twin.rejected = satInc s.twin.rejected ∧ raised t 0xC8 = true ∧ t.twin.session = x ∧
        t = { s with twin := t.twin, events := t.events }) ∧
      (helloShape b = true → s.twin.link = .handshake → x.peerHello = none →
        (helloCheck s (byteAt 0 b) (slice 0x18 160 b) = none → exec (.hello port b false) s = .next { s with twin := { s.twin with
          session := { x with peerHello := some (slice 0x18 160 b), lower := decide (s.vault.member < field 2 2 (slice 0x18 160 b)) } } }) ∧
        (∀ code, helloCheck s (byteAt 0 b) (slice 0x18 160 b) = some code → ∃ t, exec (.hello port b false) s = .next t ∧ refused t code))) ∧
    (s.twin.link = .handshake → x.eph = some eph → x.hello = some own → x.peerHello = some peer → s.twin.zs = some zs →
      ecdh p384 eph (slice 0x38 96 peer) = some ze → x.unacked.length < 256 → shieldedFree s → ∃ t, exec .linkEcdhComplete s = .next t ∧
        t.twin.session.keys = some keys ∧ t.twin.session.transcript = transcript ∧ t.twin.session.eph = none ∧
        t.twin.lastSent = sealFrame keys (!x.lower) 2 (flagAt 1 x.gap) (x.sendSeq + 1) x.recvSeq (confirmPayload transcript own peer) ∧
        t = { withIslands s t with twin := t.twin }) ∧
    (opensAs 2 port b p s → s.twin.link = .handshake → x.hello = some own → x.peerHello = some peer → now s ≤ x.helloAt + 10000 →
      (p = confirmPayload x.transcript own peer → ∃ t, exec (.confirmFrame port b false) s = .next t ∧ t.twin.link = .sync ∧
        t.twin.role = (if seniorMember own peer = field 2 2 own then .senior else .junior) ∧ raised t 0xC4 = true ∧ t.keys = s.keys ∧
        t.tenants = s.tenants) ∧
      (p ≠ confirmPayload x.transcript own peer → ∃ t, exec (.confirmFrame port b false) s = .next t ∧ refused t 6)) ∧
    (s.twin.link = .handshake → x.hello = some own → x.helloAt + 10000 ≤ now s → ∃ t, exec .confirmTimeout s = .next t ∧ refused t 6)

/-- SYNC on a junior, RECORD, RECORD_CLOSE, NOTICE and PARTNER_SILENCE (R311 to R317): the last frame of the senior's part makes the pair PAIRED
with event 0xC0; a whole record is applied and its number kept; the changes of a PERIOD close into the next record; a NOTICE or silence leaves
this core SOLO with its cause, counted, with event 0xC1. The model's: the causes of the losses and what a record brings (log 48). -/
def Obligations.SessionsSyncRecordAndEnd : Prop :=
  ∀ (port : Bool) (b p : Bytes) (e : Entry) (s : State),
    let x := s.twin.session
    let es := x.inParts ++ entriesOf p
    let lost := fun (t : State) (cause : Nat) => t.twin.role = .solo ∧ t.twin.link = (if s.twin.enable then .wait else .off) ∧
      t.twin.lossCause = (if s.twin.link = .sync ∧ s.twin.role = .junior then 3 else cause) ∧ t.twin.losses = satInc s.twin.losses ∧
      raised t 0xC1 = true ∧ t.keys = s.keys ∧ t.tenants = s.tenants
    (opensAs 4 port b p s → s.twin.link = .sync → s.twin.role = .junior → es.any (entryHeldUp s) = false → byteAt 2 b % 2 = 1 →
      ∃ t, exec (.sync port b false) s = .next t ∧ t.twin.link = .paired ∧ t.twin.role = .junior ∧ raised t 0xC0 = true ∧ t.twin.session.inParts = []) ∧
    (opensAs 3 port b p s → s.twin.link = .paired → es.any (entryHeldUp s) = false → byteAt 2 b % 2 = 1 →
      ∃ t, exec (.record port b false) s = .next t ∧ t.twin.link = .paired ∧ t.twin.rx = field 0 8 p ∧ t.twin.session.inParts = [] ∧
        (es = [] → t.keys = s.keys ∧ t.tenants = s.tenants) ∧
        (es = [e] → byteAt 0 e = 1 → entrySame s e = false → conflicts s e = false →
          t.keys.slots = (commitEntry e s).keys.slots ∧ raised t 0x60 = true)) ∧
    (opensAs 3 port b p s → byteAt 2 b % 2 = 0 → ∃ t, exec (.record port b false) s = .next t ∧ t.twin.session.inParts = es ∧ t.keys = s.keys ∧
      t.tenants = s.tenants) ∧
    (s.twin.link = .paired → s.twin.closedAt + linkPeriod s ≤ now s → ∃ t, exec .recordClose s = .next t ∧ t.twin.tx = s.twin.tx + 1 ∧
      t.twin.changes = [] ∧ t.twin.closedAt = now s ∧ t.twin.link = .paired ∧ t = { s with twin := t.twin }) ∧
    (opensAs 5 port b p s → ∃ t, exec (.notice port b false) s = .next t ∧ lost t 2) ∧
    (s.twin.link = .sync ∨ s.twin.link = .paired → s.twin.heardAt + silenceLimit s ≤ now s → ∃ t, exec .partnerSilence s = .next t ∧ lost t 1)

/-! ### TRIPLE fields (13 R362, R363) -/

/-- TRIPLE_SCRUB while the management island runs (R362, R363): one copy that differs is corrected with VOTE_STATUS and event 0xE1; three unequal
copies stop slate reads with event 0xE4, are a failed item in SELFTEST, and fault the group of a slot in the key store. -/
def Obligations.ScrubbingCorrectsOrStops : Prop :=
  ∀ (area : TripleArea) (loc : BitVec 32) (copy : Fin 3) (v : Word) (s : State), scrubs s = true → holdsTriple s area (whereOf area loc) = true →
    exec (.tripleScrub area loc .agree) s = .next s ∧
    (∃ t, exec (.tripleScrub area loc (.differs copy)) s = .next t ∧ raised t 0xE1 = true ∧ t.regs.voteFlag = true ∧
      t.regs.voteCount = satInc s.regs.voteCount ∧ t.regs.voteArea = BitVec.ofNat 4 (areaCode area) ∧ t.regs.voteCopy = BitVec.ofNat 3 (2 ^ copy.val) ∧
      t.regs.voteWhere = BitVec.ofNat 32 (whereOf area loc) ∧ t = withLog { s with regs := t.regs } t) ∧
    (s.modes.mode = .selftest → ∃ t, exec (.tripleScrub area loc (.unequal v)) s = .next t ∧ t.modes.stFail = 7 ∧ raised t 0x22 = true) ∧
    (s.modes.mode ≠ .selftest → area = .keyStore → ∃ t, exec (.tripleScrub area loc (.unequal v)) s = .next t ∧ raised t 0x62 = true ∧
      t = withLog { s with keys := t.keys } t) ∧
    (s.modes.mode ≠ .selftest → area ≠ .keyStore → ∃ t, exec (.tripleScrub area loc (.unequal v)) s = .next t ∧ raised t 0xE4 = true ∧
      readsOn t = false ∧ t.keys = s.keys ∧ t.takes = s.takes)

/-! ### Whole steps -/

/-- No command is refused or faults: from every state each answers a next state. The model's: a command that is not due changes nothing (log 1). -/
def Obligations.EveryCommandAnswers : Prop :=
 ∀ (c : Instr) (s : State), ∃ t, exec c s = .next t

/-- Every step keeps the sparse tables of tenants, reels, dailies, slots, event vectors and islands in their canonical form. The model's: the
tables are the model's form of the objects (log 87). -/
def Obligations.StepKeepsTablesCanonical : Prop :=
 ∀ s t : State, tablesOk s = true → step s = .next t → tablesOk t = true

/-- Every step takes exactly the front of the queue, changes no strap and no fused key, and never clears a fuse. -/
def Obligations.StepKeepsFusesAndQueue : Prop :=
  ∀ s t : State, step s = .next t → t.pending = s.pending.tail ∧ fusesKept s.chip t.chip

/-- Every step keeps DRK and IDK together, and neither is held where the strike flag stands. -/
def Obligations.StepKeepsAStruckCoreEmpty : Prop :=
 ∀ s t : State, struckHoldsNoKey s → step s = .next t → struckHoldsNoKey t

/-- The state after reset meets these invariants, holds an empty queue, is in RESET, and holds no take, no tenant and no slot. The model's: the
fuses and keys of the core after reset (log 20). -/
def Obligations.ResetMeetsTheInvariants : Prop :=
  tablesOk State.reset = true ∧ struckHoldsNoKey State.reset ∧ State.reset.pending = [] ∧ State.reset.modes.mode = .reset ∧
  State.reset.takes = [] ∧ State.reset.tenants = [] ∧ State.reset.keys.slots = [] ∧ State.reset.events.status = 0
end

