-- ==== Sys2Proof/Laws/State.lean ====
section
/-! SUPPORT. What each update of State leaves as it was, one lemma for each field; and the field it writes. -/

namespace Sys2Proof.Machine

variable (s : State)

/-! ### setTenant -/

@[simp] theorem setTenant_pending (f : Nat) (t : Tenant) : (setTenant f t s).pending = s.pending := rfl
@[simp] theorem setTenant_free (f : Nat) (t : Tenant) : (setTenant f t s).free = s.free := rfl
@[simp] theorem setTenant_chip (f : Nat) (t : Tenant) : (setTenant f t s).chip = s.chip := rfl
@[simp] theorem setTenant_ao (f : Nat) (t : Tenant) : (setTenant f t s).ao = s.ao := rfl
@[simp] theorem setTenant_sens (f : Nat) (t : Tenant) : (setTenant f t s).sens = s.sens := rfl
@[simp] theorem setTenant_modes (f : Nat) (t : Tenant) : (setTenant f t s).modes = s.modes := rfl
@[simp] theorem setTenant_regs (f : Nat) (t : Tenant) : (setTenant f t s).regs = s.regs := rfl
@[simp] theorem setTenant_events (f : Nat) (t : Tenant) : (setTenant f t s).events = s.events := rfl
@[simp] theorem setTenant_reels (f : Nat) (t : Tenant) : (setTenant f t s).reels = s.reels := rfl
@[simp] theorem setTenant_dailies (f : Nat) (t : Tenant) : (setTenant f t s).dailies = s.dailies := rfl
@[simp] theorem setTenant_slates (f : Nat) (t : Tenant) : (setTenant f t s).slates = s.slates := rfl
@[simp] theorem setTenant_takes (f : Nat) (t : Tenant) : (setTenant f t s).takes = s.takes := rfl
@[simp] theorem setTenant_fabric (f : Nat) (t : Tenant) : (setTenant f t s).fabric = s.fabric := rfl
@[simp] theorem setTenant_units (f : Nat) (t : Tenant) : (setTenant f t s).units = s.units := rfl
@[simp] theorem setTenant_gaffer (f : Nat) (t : Tenant) : (setTenant f t s).gaffer = s.gaffer := rfl
@[simp] theorem setTenant_direct (f : Nat) (t : Tenant) : (setTenant f t s).direct = s.direct := rfl
@[simp] theorem setTenant_keys (f : Nat) (t : Tenant) : (setTenant f t s).keys = s.keys := rfl
@[simp] theorem setTenant_sheets (f : Nat) (t : Tenant) : (setTenant f t s).sheets = s.sheets := rfl
@[simp] theorem setTenant_vault (f : Nat) (t : Tenant) : (setTenant f t s).vault = s.vault := rfl
@[simp] theorem setTenant_rng (f : Nat) (t : Tenant) : (setTenant f t s).rng = s.rng := rfl
@[simp] theorem setTenant_twin (f : Nat) (t : Tenant) : (setTenant f t s).twin = s.twin := rfl
@[simp] theorem setTenant_log (f : Nat) (t : Tenant) : (setTenant f t s).log = s.log := rfl
@[simp] theorem setTenant_fw (f : Nat) (t : Tenant) : (setTenant f t s).fw = s.fw := rfl
@[simp] theorem setTenant_access (f : Nat) (t : Tenant) : (setTenant f t s).access = s.access := rfl
@[simp] theorem setTenant_tap (f : Nat) (t : Tenant) : (setTenant f t s).tap = s.tap := rfl
@[simp] theorem setTenant_sched (f : Nat) (t : Tenant) : (setTenant f t s).sched = s.sched := rfl

/-! ### setReel -/

@[simp] theorem setReel_pending (f i : Nat) (o : ReelObj) : (setReel f i o s).pending = s.pending := rfl
@[simp] theorem setReel_free (f i : Nat) (o : ReelObj) : (setReel f i o s).free = s.free := rfl
@[simp] theorem setReel_chip (f i : Nat) (o : ReelObj) : (setReel f i o s).chip = s.chip := rfl
@[simp] theorem setReel_ao (f i : Nat) (o : ReelObj) : (setReel f i o s).ao = s.ao := rfl
@[simp] theorem setReel_sens (f i : Nat) (o : ReelObj) : (setReel f i o s).sens = s.sens := rfl
@[simp] theorem setReel_modes (f i : Nat) (o : ReelObj) : (setReel f i o s).modes = s.modes := rfl
@[simp] theorem setReel_regs (f i : Nat) (o : ReelObj) : (setReel f i o s).regs = s.regs := rfl
@[simp] theorem setReel_events (f i : Nat) (o : ReelObj) : (setReel f i o s).events = s.events := rfl
@[simp] theorem setReel_tenants (f i : Nat) (o : ReelObj) : (setReel f i o s).tenants = s.tenants := rfl
@[simp] theorem setReel_dailies (f i : Nat) (o : ReelObj) : (setReel f i o s).dailies = s.dailies := rfl
@[simp] theorem setReel_slates (f i : Nat) (o : ReelObj) : (setReel f i o s).slates = s.slates := rfl
@[simp] theorem setReel_takes (f i : Nat) (o : ReelObj) : (setReel f i o s).takes = s.takes := rfl
@[simp] theorem setReel_fabric (f i : Nat) (o : ReelObj) : (setReel f i o s).fabric = s.fabric := rfl
@[simp] theorem setReel_units (f i : Nat) (o : ReelObj) : (setReel f i o s).units = s.units := rfl
@[simp] theorem setReel_gaffer (f i : Nat) (o : ReelObj) : (setReel f i o s).gaffer = s.gaffer := rfl
@[simp] theorem setReel_direct (f i : Nat) (o : ReelObj) : (setReel f i o s).direct = s.direct := rfl
@[simp] theorem setReel_keys (f i : Nat) (o : ReelObj) : (setReel f i o s).keys = s.keys := rfl
@[simp] theorem setReel_sheets (f i : Nat) (o : ReelObj) : (setReel f i o s).sheets = s.sheets := rfl
@[simp] theorem setReel_vault (f i : Nat) (o : ReelObj) : (setReel f i o s).vault = s.vault := rfl
@[simp] theorem setReel_rng (f i : Nat) (o : ReelObj) : (setReel f i o s).rng = s.rng := rfl
@[simp] theorem setReel_twin (f i : Nat) (o : ReelObj) : (setReel f i o s).twin = s.twin := rfl
@[simp] theorem setReel_log (f i : Nat) (o : ReelObj) : (setReel f i o s).log = s.log := rfl
@[simp] theorem setReel_fw (f i : Nat) (o : ReelObj) : (setReel f i o s).fw = s.fw := rfl
@[simp] theorem setReel_access (f i : Nat) (o : ReelObj) : (setReel f i o s).access = s.access := rfl
@[simp] theorem setReel_tap (f i : Nat) (o : ReelObj) : (setReel f i o s).tap = s.tap := rfl
@[simp] theorem setReel_sched (f i : Nat) (o : ReelObj) : (setReel f i o s).sched = s.sched := rfl

/-! ### setDailies -/

@[simp] theorem setDailies_pending (f i : Nat) (o : DailiesObj) : (setDailies f i o s).pending = s.pending := rfl
@[simp] theorem setDailies_free (f i : Nat) (o : DailiesObj) : (setDailies f i o s).free = s.free := rfl
@[simp] theorem setDailies_chip (f i : Nat) (o : DailiesObj) : (setDailies f i o s).chip = s.chip := rfl
@[simp] theorem setDailies_ao (f i : Nat) (o : DailiesObj) : (setDailies f i o s).ao = s.ao := rfl
@[simp] theorem setDailies_sens (f i : Nat) (o : DailiesObj) : (setDailies f i o s).sens = s.sens := rfl
@[simp] theorem setDailies_modes (f i : Nat) (o : DailiesObj) : (setDailies f i o s).modes = s.modes := rfl
@[simp] theorem setDailies_regs (f i : Nat) (o : DailiesObj) : (setDailies f i o s).regs = s.regs := rfl
@[simp] theorem setDailies_events (f i : Nat) (o : DailiesObj) : (setDailies f i o s).events = s.events := rfl
@[simp] theorem setDailies_tenants (f i : Nat) (o : DailiesObj) : (setDailies f i o s).tenants = s.tenants := rfl
@[simp] theorem setDailies_reels (f i : Nat) (o : DailiesObj) : (setDailies f i o s).reels = s.reels := rfl
@[simp] theorem setDailies_slates (f i : Nat) (o : DailiesObj) : (setDailies f i o s).slates = s.slates := rfl
@[simp] theorem setDailies_takes (f i : Nat) (o : DailiesObj) : (setDailies f i o s).takes = s.takes := rfl
@[simp] theorem setDailies_fabric (f i : Nat) (o : DailiesObj) : (setDailies f i o s).fabric = s.fabric := rfl
@[simp] theorem setDailies_units (f i : Nat) (o : DailiesObj) : (setDailies f i o s).units = s.units := rfl
@[simp] theorem setDailies_gaffer (f i : Nat) (o : DailiesObj) : (setDailies f i o s).gaffer = s.gaffer := rfl
@[simp] theorem setDailies_direct (f i : Nat) (o : DailiesObj) : (setDailies f i o s).direct = s.direct := rfl
@[simp] theorem setDailies_keys (f i : Nat) (o : DailiesObj) : (setDailies f i o s).keys = s.keys := rfl
@[simp] theorem setDailies_sheets (f i : Nat) (o : DailiesObj) : (setDailies f i o s).sheets = s.sheets := rfl
@[simp] theorem setDailies_vault (f i : Nat) (o : DailiesObj) : (setDailies f i o s).vault = s.vault := rfl
@[simp] theorem setDailies_rng (f i : Nat) (o : DailiesObj) : (setDailies f i o s).rng = s.rng := rfl
@[simp] theorem setDailies_twin (f i : Nat) (o : DailiesObj) : (setDailies f i o s).twin = s.twin := rfl
@[simp] theorem setDailies_log (f i : Nat) (o : DailiesObj) : (setDailies f i o s).log = s.log := rfl
@[simp] theorem setDailies_fw (f i : Nat) (o : DailiesObj) : (setDailies f i o s).fw = s.fw := rfl
@[simp] theorem setDailies_access (f i : Nat) (o : DailiesObj) : (setDailies f i o s).access = s.access := rfl
@[simp] theorem setDailies_tap (f i : Nat) (o : DailiesObj) : (setDailies f i o s).tap = s.tap := rfl
@[simp] theorem setDailies_sched (f i : Nat) (o : DailiesObj) : (setDailies f i o s).sched = s.sched := rfl

/-! ### setSlot -/

@[simp] theorem setSlot_pending (i : Nat) (x : Slot) : (setSlot i x s).pending = s.pending := rfl
@[simp] theorem setSlot_free (i : Nat) (x : Slot) : (setSlot i x s).free = s.free := rfl
@[simp] theorem setSlot_chip (i : Nat) (x : Slot) : (setSlot i x s).chip = s.chip := rfl
@[simp] theorem setSlot_ao (i : Nat) (x : Slot) : (setSlot i x s).ao = s.ao := rfl
@[simp] theorem setSlot_sens (i : Nat) (x : Slot) : (setSlot i x s).sens = s.sens := rfl
@[simp] theorem setSlot_modes (i : Nat) (x : Slot) : (setSlot i x s).modes = s.modes := rfl
@[simp] theorem setSlot_regs (i : Nat) (x : Slot) : (setSlot i x s).regs = s.regs := rfl
@[simp] theorem setSlot_events (i : Nat) (x : Slot) : (setSlot i x s).events = s.events := rfl
@[simp] theorem setSlot_tenants (i : Nat) (x : Slot) : (setSlot i x s).tenants = s.tenants := rfl
@[simp] theorem setSlot_reels (i : Nat) (x : Slot) : (setSlot i x s).reels = s.reels := rfl
@[simp] theorem setSlot_dailies (i : Nat) (x : Slot) : (setSlot i x s).dailies = s.dailies := rfl
@[simp] theorem setSlot_slates (i : Nat) (x : Slot) : (setSlot i x s).slates = s.slates := rfl
@[simp] theorem setSlot_takes (i : Nat) (x : Slot) : (setSlot i x s).takes = s.takes := rfl
@[simp] theorem setSlot_fabric (i : Nat) (x : Slot) : (setSlot i x s).fabric = s.fabric := rfl
@[simp] theorem setSlot_units (i : Nat) (x : Slot) : (setSlot i x s).units = s.units := rfl
@[simp] theorem setSlot_gaffer (i : Nat) (x : Slot) : (setSlot i x s).gaffer = s.gaffer := rfl
@[simp] theorem setSlot_direct (i : Nat) (x : Slot) : (setSlot i x s).direct = s.direct := rfl
@[simp] theorem setSlot_sheets (i : Nat) (x : Slot) : (setSlot i x s).sheets = s.sheets := rfl
@[simp] theorem setSlot_vault (i : Nat) (x : Slot) : (setSlot i x s).vault = s.vault := rfl
@[simp] theorem setSlot_rng (i : Nat) (x : Slot) : (setSlot i x s).rng = s.rng := rfl
@[simp] theorem setSlot_twin (i : Nat) (x : Slot) : (setSlot i x s).twin = s.twin := rfl
@[simp] theorem setSlot_log (i : Nat) (x : Slot) : (setSlot i x s).log = s.log := rfl
@[simp] theorem setSlot_fw (i : Nat) (x : Slot) : (setSlot i x s).fw = s.fw := rfl
@[simp] theorem setSlot_access (i : Nat) (x : Slot) : (setSlot i x s).access = s.access := rfl
@[simp] theorem setSlot_tap (i : Nat) (x : Slot) : (setSlot i x s).tap = s.tap := rfl
@[simp] theorem setSlot_sched (i : Nat) (x : Slot) : (setSlot i x s).sched = s.sched := rfl

/-! ### setTake -/

@[simp] theorem setTake_pending (t : Take) : (setTake t s).pending = s.pending := rfl
@[simp] theorem setTake_free (t : Take) : (setTake t s).free = s.free := rfl
@[simp] theorem setTake_chip (t : Take) : (setTake t s).chip = s.chip := rfl
@[simp] theorem setTake_ao (t : Take) : (setTake t s).ao = s.ao := rfl
@[simp] theorem setTake_sens (t : Take) : (setTake t s).sens = s.sens := rfl
@[simp] theorem setTake_modes (t : Take) : (setTake t s).modes = s.modes := rfl
@[simp] theorem setTake_regs (t : Take) : (setTake t s).regs = s.regs := rfl
@[simp] theorem setTake_events (t : Take) : (setTake t s).events = s.events := rfl
@[simp] theorem setTake_tenants (t : Take) : (setTake t s).tenants = s.tenants := rfl
@[simp] theorem setTake_reels (t : Take) : (setTake t s).reels = s.reels := rfl
@[simp] theorem setTake_dailies (t : Take) : (setTake t s).dailies = s.dailies := rfl
@[simp] theorem setTake_slates (t : Take) : (setTake t s).slates = s.slates := rfl
@[simp] theorem setTake_fabric (t : Take) : (setTake t s).fabric = s.fabric := rfl
@[simp] theorem setTake_units (t : Take) : (setTake t s).units = s.units := rfl
@[simp] theorem setTake_gaffer (t : Take) : (setTake t s).gaffer = s.gaffer := rfl
@[simp] theorem setTake_direct (t : Take) : (setTake t s).direct = s.direct := rfl
@[simp] theorem setTake_keys (t : Take) : (setTake t s).keys = s.keys := rfl
@[simp] theorem setTake_sheets (t : Take) : (setTake t s).sheets = s.sheets := rfl
@[simp] theorem setTake_vault (t : Take) : (setTake t s).vault = s.vault := rfl
@[simp] theorem setTake_rng (t : Take) : (setTake t s).rng = s.rng := rfl
@[simp] theorem setTake_twin (t : Take) : (setTake t s).twin = s.twin := rfl
@[simp] theorem setTake_log (t : Take) : (setTake t s).log = s.log := rfl
@[simp] theorem setTake_fw (t : Take) : (setTake t s).fw = s.fw := rfl
@[simp] theorem setTake_access (t : Take) : (setTake t s).access = s.access := rfl
@[simp] theorem setTake_tap (t : Take) : (setTake t s).tap = s.tap := rfl
@[simp] theorem setTake_sched (t : Take) : (setTake t s).sched = s.sched := rfl

/-! ### dropTake -/

@[simp] theorem dropTake_pending (id : Nat) : (dropTake id s).pending = s.pending := rfl
@[simp] theorem dropTake_free (id : Nat) : (dropTake id s).free = s.free := rfl
@[simp] theorem dropTake_chip (id : Nat) : (dropTake id s).chip = s.chip := rfl
@[simp] theorem dropTake_ao (id : Nat) : (dropTake id s).ao = s.ao := rfl
@[simp] theorem dropTake_sens (id : Nat) : (dropTake id s).sens = s.sens := rfl
@[simp] theorem dropTake_modes (id : Nat) : (dropTake id s).modes = s.modes := rfl
@[simp] theorem dropTake_regs (id : Nat) : (dropTake id s).regs = s.regs := rfl
@[simp] theorem dropTake_events (id : Nat) : (dropTake id s).events = s.events := rfl
@[simp] theorem dropTake_tenants (id : Nat) : (dropTake id s).tenants = s.tenants := rfl
@[simp] theorem dropTake_reels (id : Nat) : (dropTake id s).reels = s.reels := rfl
@[simp] theorem dropTake_dailies (id : Nat) : (dropTake id s).dailies = s.dailies := rfl
@[simp] theorem dropTake_slates (id : Nat) : (dropTake id s).slates = s.slates := rfl
@[simp] theorem dropTake_fabric (id : Nat) : (dropTake id s).fabric = s.fabric := rfl
@[simp] theorem dropTake_units (id : Nat) : (dropTake id s).units = s.units := rfl
@[simp] theorem dropTake_gaffer (id : Nat) : (dropTake id s).gaffer = s.gaffer := rfl
@[simp] theorem dropTake_direct (id : Nat) : (dropTake id s).direct = s.direct := rfl
@[simp] theorem dropTake_keys (id : Nat) : (dropTake id s).keys = s.keys := rfl
@[simp] theorem dropTake_sheets (id : Nat) : (dropTake id s).sheets = s.sheets := rfl
@[simp] theorem dropTake_vault (id : Nat) : (dropTake id s).vault = s.vault := rfl
@[simp] theorem dropTake_rng (id : Nat) : (dropTake id s).rng = s.rng := rfl
@[simp] theorem dropTake_twin (id : Nat) : (dropTake id s).twin = s.twin := rfl
@[simp] theorem dropTake_log (id : Nat) : (dropTake id s).log = s.log := rfl
@[simp] theorem dropTake_fw (id : Nat) : (dropTake id s).fw = s.fw := rfl
@[simp] theorem dropTake_access (id : Nat) : (dropTake id s).access = s.access := rfl
@[simp] theorem dropTake_tap (id : Nat) : (dropTake id s).tap = s.tap := rfl
@[simp] theorem dropTake_sched (id : Nat) : (dropTake id s).sched = s.sched := rfl

/-! ### setSlate -/

@[simp] theorem setSlate_pending (x : Slate) : (setSlate x s).pending = s.pending := rfl
@[simp] theorem setSlate_free (x : Slate) : (setSlate x s).free = s.free := rfl
@[simp] theorem setSlate_chip (x : Slate) : (setSlate x s).chip = s.chip := rfl
@[simp] theorem setSlate_ao (x : Slate) : (setSlate x s).ao = s.ao := rfl
@[simp] theorem setSlate_sens (x : Slate) : (setSlate x s).sens = s.sens := rfl
@[simp] theorem setSlate_modes (x : Slate) : (setSlate x s).modes = s.modes := rfl
@[simp] theorem setSlate_regs (x : Slate) : (setSlate x s).regs = s.regs := rfl
@[simp] theorem setSlate_events (x : Slate) : (setSlate x s).events = s.events := rfl
@[simp] theorem setSlate_tenants (x : Slate) : (setSlate x s).tenants = s.tenants := rfl
@[simp] theorem setSlate_reels (x : Slate) : (setSlate x s).reels = s.reels := rfl
@[simp] theorem setSlate_dailies (x : Slate) : (setSlate x s).dailies = s.dailies := rfl
@[simp] theorem setSlate_takes (x : Slate) : (setSlate x s).takes = s.takes := rfl
@[simp] theorem setSlate_fabric (x : Slate) : (setSlate x s).fabric = s.fabric := rfl
@[simp] theorem setSlate_units (x : Slate) : (setSlate x s).units = s.units := rfl
@[simp] theorem setSlate_gaffer (x : Slate) : (setSlate x s).gaffer = s.gaffer := rfl
@[simp] theorem setSlate_direct (x : Slate) : (setSlate x s).direct = s.direct := rfl
@[simp] theorem setSlate_keys (x : Slate) : (setSlate x s).keys = s.keys := rfl
@[simp] theorem setSlate_sheets (x : Slate) : (setSlate x s).sheets = s.sheets := rfl
@[simp] theorem setSlate_vault (x : Slate) : (setSlate x s).vault = s.vault := rfl
@[simp] theorem setSlate_rng (x : Slate) : (setSlate x s).rng = s.rng := rfl
@[simp] theorem setSlate_twin (x : Slate) : (setSlate x s).twin = s.twin := rfl
@[simp] theorem setSlate_log (x : Slate) : (setSlate x s).log = s.log := rfl
@[simp] theorem setSlate_fw (x : Slate) : (setSlate x s).fw = s.fw := rfl
@[simp] theorem setSlate_access (x : Slate) : (setSlate x s).access = s.access := rfl
@[simp] theorem setSlate_tap (x : Slate) : (setSlate x s).tap = s.tap := rfl
@[simp] theorem setSlate_sched (x : Slate) : (setSlate x s).sched = s.sched := rfl

/-! ### dropSlate -/

@[simp] theorem dropSlate_pending (id : Nat) : (dropSlate id s).pending = s.pending := rfl
@[simp] theorem dropSlate_free (id : Nat) : (dropSlate id s).free = s.free := rfl
@[simp] theorem dropSlate_chip (id : Nat) : (dropSlate id s).chip = s.chip := rfl
@[simp] theorem dropSlate_ao (id : Nat) : (dropSlate id s).ao = s.ao := rfl
@[simp] theorem dropSlate_sens (id : Nat) : (dropSlate id s).sens = s.sens := rfl
@[simp] theorem dropSlate_modes (id : Nat) : (dropSlate id s).modes = s.modes := rfl
@[simp] theorem dropSlate_regs (id : Nat) : (dropSlate id s).regs = s.regs := rfl
@[simp] theorem dropSlate_events (id : Nat) : (dropSlate id s).events = s.events := rfl
@[simp] theorem dropSlate_tenants (id : Nat) : (dropSlate id s).tenants = s.tenants := rfl
@[simp] theorem dropSlate_reels (id : Nat) : (dropSlate id s).reels = s.reels := rfl
@[simp] theorem dropSlate_dailies (id : Nat) : (dropSlate id s).dailies = s.dailies := rfl
@[simp] theorem dropSlate_takes (id : Nat) : (dropSlate id s).takes = s.takes := rfl
@[simp] theorem dropSlate_fabric (id : Nat) : (dropSlate id s).fabric = s.fabric := rfl
@[simp] theorem dropSlate_units (id : Nat) : (dropSlate id s).units = s.units := rfl
@[simp] theorem dropSlate_gaffer (id : Nat) : (dropSlate id s).gaffer = s.gaffer := rfl
@[simp] theorem dropSlate_direct (id : Nat) : (dropSlate id s).direct = s.direct := rfl
@[simp] theorem dropSlate_keys (id : Nat) : (dropSlate id s).keys = s.keys := rfl
@[simp] theorem dropSlate_sheets (id : Nat) : (dropSlate id s).sheets = s.sheets := rfl
@[simp] theorem dropSlate_vault (id : Nat) : (dropSlate id s).vault = s.vault := rfl
@[simp] theorem dropSlate_rng (id : Nat) : (dropSlate id s).rng = s.rng := rfl
@[simp] theorem dropSlate_twin (id : Nat) : (dropSlate id s).twin = s.twin := rfl
@[simp] theorem dropSlate_log (id : Nat) : (dropSlate id s).log = s.log := rfl
@[simp] theorem dropSlate_fw (id : Nat) : (dropSlate id s).fw = s.fw := rfl
@[simp] theorem dropSlate_access (id : Nat) : (dropSlate id s).access = s.access := rfl
@[simp] theorem dropSlate_tap (id : Nat) : (dropSlate id s).tap = s.tap := rfl
@[simp] theorem dropSlate_sched (id : Nat) : (dropSlate id s).sched = s.sched := rfl

/-! ### bumpId -/

@[simp] theorem bumpId_pending : (bumpId s).pending = s.pending := rfl
@[simp] theorem bumpId_free : (bumpId s).free = s.free := rfl
@[simp] theorem bumpId_chip : (bumpId s).chip = s.chip := rfl
@[simp] theorem bumpId_ao : (bumpId s).ao = s.ao := rfl
@[simp] theorem bumpId_sens : (bumpId s).sens = s.sens := rfl
@[simp] theorem bumpId_modes : (bumpId s).modes = s.modes := rfl
@[simp] theorem bumpId_regs : (bumpId s).regs = s.regs := rfl
@[simp] theorem bumpId_events : (bumpId s).events = s.events := rfl
@[simp] theorem bumpId_tenants : (bumpId s).tenants = s.tenants := rfl
@[simp] theorem bumpId_reels : (bumpId s).reels = s.reels := rfl
@[simp] theorem bumpId_dailies : (bumpId s).dailies = s.dailies := rfl
@[simp] theorem bumpId_slates : (bumpId s).slates = s.slates := rfl
@[simp] theorem bumpId_takes : (bumpId s).takes = s.takes := rfl
@[simp] theorem bumpId_fabric : (bumpId s).fabric = s.fabric := rfl
@[simp] theorem bumpId_units : (bumpId s).units = s.units := rfl
@[simp] theorem bumpId_gaffer : (bumpId s).gaffer = s.gaffer := rfl
@[simp] theorem bumpId_direct : (bumpId s).direct = s.direct := rfl
@[simp] theorem bumpId_keys : (bumpId s).keys = s.keys := rfl
@[simp] theorem bumpId_sheets : (bumpId s).sheets = s.sheets := rfl
@[simp] theorem bumpId_vault : (bumpId s).vault = s.vault := rfl
@[simp] theorem bumpId_rng : (bumpId s).rng = s.rng := rfl
@[simp] theorem bumpId_twin : (bumpId s).twin = s.twin := rfl
@[simp] theorem bumpId_log : (bumpId s).log = s.log := rfl
@[simp] theorem bumpId_fw : (bumpId s).fw = s.fw := rfl
@[simp] theorem bumpId_access : (bumpId s).access = s.access := rfl
@[simp] theorem bumpId_tap : (bumpId s).tap = s.tap := rfl

/-! ### bumpFree -/

@[simp] theorem bumpFree_pending : (bumpFree s).pending = s.pending := rfl
@[simp] theorem bumpFree_chip : (bumpFree s).chip = s.chip := rfl
@[simp] theorem bumpFree_ao : (bumpFree s).ao = s.ao := rfl
@[simp] theorem bumpFree_sens : (bumpFree s).sens = s.sens := rfl
@[simp] theorem bumpFree_modes : (bumpFree s).modes = s.modes := rfl
@[simp] theorem bumpFree_regs : (bumpFree s).regs = s.regs := rfl
@[simp] theorem bumpFree_events : (bumpFree s).events = s.events := rfl
@[simp] theorem bumpFree_tenants : (bumpFree s).tenants = s.tenants := rfl
@[simp] theorem bumpFree_reels : (bumpFree s).reels = s.reels := rfl
@[simp] theorem bumpFree_dailies : (bumpFree s).dailies = s.dailies := rfl
@[simp] theorem bumpFree_slates : (bumpFree s).slates = s.slates := rfl
@[simp] theorem bumpFree_takes : (bumpFree s).takes = s.takes := rfl
@[simp] theorem bumpFree_fabric : (bumpFree s).fabric = s.fabric := rfl
@[simp] theorem bumpFree_units : (bumpFree s).units = s.units := rfl
@[simp] theorem bumpFree_gaffer : (bumpFree s).gaffer = s.gaffer := rfl
@[simp] theorem bumpFree_direct : (bumpFree s).direct = s.direct := rfl
@[simp] theorem bumpFree_keys : (bumpFree s).keys = s.keys := rfl
@[simp] theorem bumpFree_sheets : (bumpFree s).sheets = s.sheets := rfl
@[simp] theorem bumpFree_vault : (bumpFree s).vault = s.vault := rfl
@[simp] theorem bumpFree_rng : (bumpFree s).rng = s.rng := rfl
@[simp] theorem bumpFree_twin : (bumpFree s).twin = s.twin := rfl
@[simp] theorem bumpFree_log : (bumpFree s).log = s.log := rfl
@[simp] theorem bumpFree_fw : (bumpFree s).fw = s.fw := rfl
@[simp] theorem bumpFree_access : (bumpFree s).access = s.access := rfl
@[simp] theorem bumpFree_tap : (bumpFree s).tap = s.tap := rfl
@[simp] theorem bumpFree_sched : (bumpFree s).sched = s.sched := rfl

/-! ### setStatusBit -/

@[simp] theorem setStatusBit_pending (e : Nat) : (setStatusBit e s).pending = s.pending := rfl
@[simp] theorem setStatusBit_free (e : Nat) : (setStatusBit e s).free = s.free := rfl
@[simp] theorem setStatusBit_chip (e : Nat) : (setStatusBit e s).chip = s.chip := rfl
@[simp] theorem setStatusBit_ao (e : Nat) : (setStatusBit e s).ao = s.ao := rfl
@[simp] theorem setStatusBit_sens (e : Nat) : (setStatusBit e s).sens = s.sens := rfl
@[simp] theorem setStatusBit_modes (e : Nat) : (setStatusBit e s).modes = s.modes := rfl
@[simp] theorem setStatusBit_regs (e : Nat) : (setStatusBit e s).regs = s.regs := rfl
@[simp] theorem setStatusBit_tenants (e : Nat) : (setStatusBit e s).tenants = s.tenants := rfl
@[simp] theorem setStatusBit_reels (e : Nat) : (setStatusBit e s).reels = s.reels := rfl
@[simp] theorem setStatusBit_dailies (e : Nat) : (setStatusBit e s).dailies = s.dailies := rfl
@[simp] theorem setStatusBit_slates (e : Nat) : (setStatusBit e s).slates = s.slates := rfl
@[simp] theorem setStatusBit_takes (e : Nat) : (setStatusBit e s).takes = s.takes := rfl
@[simp] theorem setStatusBit_fabric (e : Nat) : (setStatusBit e s).fabric = s.fabric := rfl
@[simp] theorem setStatusBit_units (e : Nat) : (setStatusBit e s).units = s.units := rfl
@[simp] theorem setStatusBit_gaffer (e : Nat) : (setStatusBit e s).gaffer = s.gaffer := rfl
@[simp] theorem setStatusBit_direct (e : Nat) : (setStatusBit e s).direct = s.direct := rfl
@[simp] theorem setStatusBit_keys (e : Nat) : (setStatusBit e s).keys = s.keys := rfl
@[simp] theorem setStatusBit_sheets (e : Nat) : (setStatusBit e s).sheets = s.sheets := rfl
@[simp] theorem setStatusBit_vault (e : Nat) : (setStatusBit e s).vault = s.vault := rfl
@[simp] theorem setStatusBit_rng (e : Nat) : (setStatusBit e s).rng = s.rng := rfl
@[simp] theorem setStatusBit_twin (e : Nat) : (setStatusBit e s).twin = s.twin := rfl
@[simp] theorem setStatusBit_log (e : Nat) : (setStatusBit e s).log = s.log := rfl
@[simp] theorem setStatusBit_fw (e : Nat) : (setStatusBit e s).fw = s.fw := rfl
@[simp] theorem setStatusBit_access (e : Nat) : (setStatusBit e s).access = s.access := rfl
@[simp] theorem setStatusBit_tap (e : Nat) : (setStatusBit e s).tap = s.tap := rfl
@[simp] theorem setStatusBit_sched (e : Nat) : (setStatusBit e s).sched = s.sched := rfl

/-! ### setPort -/

@[simp] theorem setPort_pending (p : Bool) (x : Port) : (setPort p x s).pending = s.pending := rfl
@[simp] theorem setPort_free (p : Bool) (x : Port) : (setPort p x s).free = s.free := rfl
@[simp] theorem setPort_chip (p : Bool) (x : Port) : (setPort p x s).chip = s.chip := rfl
@[simp] theorem setPort_ao (p : Bool) (x : Port) : (setPort p x s).ao = s.ao := rfl
@[simp] theorem setPort_sens (p : Bool) (x : Port) : (setPort p x s).sens = s.sens := rfl
@[simp] theorem setPort_modes (p : Bool) (x : Port) : (setPort p x s).modes = s.modes := rfl
@[simp] theorem setPort_regs (p : Bool) (x : Port) : (setPort p x s).regs = s.regs := rfl
@[simp] theorem setPort_events (p : Bool) (x : Port) : (setPort p x s).events = s.events := rfl
@[simp] theorem setPort_tenants (p : Bool) (x : Port) : (setPort p x s).tenants = s.tenants := rfl
@[simp] theorem setPort_reels (p : Bool) (x : Port) : (setPort p x s).reels = s.reels := rfl
@[simp] theorem setPort_dailies (p : Bool) (x : Port) : (setPort p x s).dailies = s.dailies := rfl
@[simp] theorem setPort_slates (p : Bool) (x : Port) : (setPort p x s).slates = s.slates := rfl
@[simp] theorem setPort_takes (p : Bool) (x : Port) : (setPort p x s).takes = s.takes := rfl
@[simp] theorem setPort_units (p : Bool) (x : Port) : (setPort p x s).units = s.units := rfl
@[simp] theorem setPort_gaffer (p : Bool) (x : Port) : (setPort p x s).gaffer = s.gaffer := rfl
@[simp] theorem setPort_direct (p : Bool) (x : Port) : (setPort p x s).direct = s.direct := rfl
@[simp] theorem setPort_keys (p : Bool) (x : Port) : (setPort p x s).keys = s.keys := rfl
@[simp] theorem setPort_sheets (p : Bool) (x : Port) : (setPort p x s).sheets = s.sheets := rfl
@[simp] theorem setPort_vault (p : Bool) (x : Port) : (setPort p x s).vault = s.vault := rfl
@[simp] theorem setPort_rng (p : Bool) (x : Port) : (setPort p x s).rng = s.rng := rfl
@[simp] theorem setPort_twin (p : Bool) (x : Port) : (setPort p x s).twin = s.twin := rfl
@[simp] theorem setPort_log (p : Bool) (x : Port) : (setPort p x s).log = s.log := rfl
@[simp] theorem setPort_fw (p : Bool) (x : Port) : (setPort p x s).fw = s.fw := rfl
@[simp] theorem setPort_access (p : Bool) (x : Port) : (setPort p x s).access = s.access := rfl
@[simp] theorem setPort_tap (p : Bool) (x : Port) : (setPort p x s).tap = s.tap := rfl
@[simp] theorem setPort_sched (p : Bool) (x : Port) : (setPort p x s).sched = s.sched := rfl

/-! ### setIsland -/

@[simp] theorem setIsland_pending (i : Nat) (x : Island) : (setIsland i x s).pending = s.pending := rfl
@[simp] theorem setIsland_free (i : Nat) (x : Island) : (setIsland i x s).free = s.free := rfl
@[simp] theorem setIsland_chip (i : Nat) (x : Island) : (setIsland i x s).chip = s.chip := rfl
@[simp] theorem setIsland_ao (i : Nat) (x : Island) : (setIsland i x s).ao = s.ao := rfl
@[simp] theorem setIsland_sens (i : Nat) (x : Island) : (setIsland i x s).sens = s.sens := rfl
@[simp] theorem setIsland_modes (i : Nat) (x : Island) : (setIsland i x s).modes = s.modes := rfl
@[simp] theorem setIsland_regs (i : Nat) (x : Island) : (setIsland i x s).regs = s.regs := rfl
@[simp] theorem setIsland_events (i : Nat) (x : Island) : (setIsland i x s).events = s.events := rfl
@[simp] theorem setIsland_tenants (i : Nat) (x : Island) : (setIsland i x s).tenants = s.tenants := rfl
@[simp] theorem setIsland_reels (i : Nat) (x : Island) : (setIsland i x s).reels = s.reels := rfl
@[simp] theorem setIsland_dailies (i : Nat) (x : Island) : (setIsland i x s).dailies = s.dailies := rfl
@[simp] theorem setIsland_slates (i : Nat) (x : Island) : (setIsland i x s).slates = s.slates := rfl
@[simp] theorem setIsland_takes (i : Nat) (x : Island) : (setIsland i x s).takes = s.takes := rfl
@[simp] theorem setIsland_fabric (i : Nat) (x : Island) : (setIsland i x s).fabric = s.fabric := rfl
@[simp] theorem setIsland_units (i : Nat) (x : Island) : (setIsland i x s).units = s.units := rfl
@[simp] theorem setIsland_direct (i : Nat) (x : Island) : (setIsland i x s).direct = s.direct := rfl
@[simp] theorem setIsland_keys (i : Nat) (x : Island) : (setIsland i x s).keys = s.keys := rfl
@[simp] theorem setIsland_sheets (i : Nat) (x : Island) : (setIsland i x s).sheets = s.sheets := rfl
@[simp] theorem setIsland_vault (i : Nat) (x : Island) : (setIsland i x s).vault = s.vault := rfl
@[simp] theorem setIsland_rng (i : Nat) (x : Island) : (setIsland i x s).rng = s.rng := rfl
@[simp] theorem setIsland_twin (i : Nat) (x : Island) : (setIsland i x s).twin = s.twin := rfl
@[simp] theorem setIsland_log (i : Nat) (x : Island) : (setIsland i x s).log = s.log := rfl
@[simp] theorem setIsland_fw (i : Nat) (x : Island) : (setIsland i x s).fw = s.fw := rfl
@[simp] theorem setIsland_access (i : Nat) (x : Island) : (setIsland i x s).access = s.access := rfl
@[simp] theorem setIsland_tap (i : Nat) (x : Island) : (setIsland i x s).tap = s.tap := rfl
@[simp] theorem setIsland_sched (i : Nat) (x : Island) : (setIsland i x s).sched = s.sched := rfl

/-! ### answered -/

@[simp] theorem answered_pending : (answered s).pending = s.pending := rfl
@[simp] theorem answered_free : (answered s).free = s.free := rfl
@[simp] theorem answered_chip : (answered s).chip = s.chip := rfl
@[simp] theorem answered_ao : (answered s).ao = s.ao := rfl
@[simp] theorem answered_sens : (answered s).sens = s.sens := rfl
@[simp] theorem answered_modes : (answered s).modes = s.modes := rfl
@[simp] theorem answered_events : (answered s).events = s.events := rfl
@[simp] theorem answered_tenants : (answered s).tenants = s.tenants := rfl
@[simp] theorem answered_reels : (answered s).reels = s.reels := rfl
@[simp] theorem answered_dailies : (answered s).dailies = s.dailies := rfl
@[simp] theorem answered_slates : (answered s).slates = s.slates := rfl
@[simp] theorem answered_takes : (answered s).takes = s.takes := rfl
@[simp] theorem answered_fabric : (answered s).fabric = s.fabric := rfl
@[simp] theorem answered_units : (answered s).units = s.units := rfl
@[simp] theorem answered_gaffer : (answered s).gaffer = s.gaffer := rfl
@[simp] theorem answered_direct : (answered s).direct = s.direct := rfl
@[simp] theorem answered_keys : (answered s).keys = s.keys := rfl
@[simp] theorem answered_sheets : (answered s).sheets = s.sheets := rfl
@[simp] theorem answered_vault : (answered s).vault = s.vault := rfl
@[simp] theorem answered_rng : (answered s).rng = s.rng := rfl
@[simp] theorem answered_twin : (answered s).twin = s.twin := rfl
@[simp] theorem answered_log : (answered s).log = s.log := rfl
@[simp] theorem answered_fw : (answered s).fw = s.fw := rfl
@[simp] theorem answered_access : (answered s).access = s.access := rfl
@[simp] theorem answered_tap : (answered s).tap = s.tap := rfl
@[simp] theorem answered_sched : (answered s).sched = s.sched := rfl

/-! ### wipeCores -/

@[simp] theorem wipeCores_pending : (wipeCores s).pending = s.pending := rfl
@[simp] theorem wipeCores_free : (wipeCores s).free = s.free := rfl
@[simp] theorem wipeCores_chip : (wipeCores s).chip = s.chip := rfl
@[simp] theorem wipeCores_ao : (wipeCores s).ao = s.ao := rfl
@[simp] theorem wipeCores_sens : (wipeCores s).sens = s.sens := rfl
@[simp] theorem wipeCores_modes : (wipeCores s).modes = s.modes := rfl
@[simp] theorem wipeCores_regs : (wipeCores s).regs = s.regs := rfl
@[simp] theorem wipeCores_events : (wipeCores s).events = s.events := rfl
@[simp] theorem wipeCores_tenants : (wipeCores s).tenants = s.tenants := rfl
@[simp] theorem wipeCores_reels : (wipeCores s).reels = s.reels := rfl
@[simp] theorem wipeCores_dailies : (wipeCores s).dailies = s.dailies := rfl
@[simp] theorem wipeCores_slates : (wipeCores s).slates = s.slates := rfl
@[simp] theorem wipeCores_takes : (wipeCores s).takes = s.takes := rfl
@[simp] theorem wipeCores_fabric : (wipeCores s).fabric = s.fabric := rfl
@[simp] theorem wipeCores_gaffer : (wipeCores s).gaffer = s.gaffer := rfl
@[simp] theorem wipeCores_direct : (wipeCores s).direct = s.direct := rfl
@[simp] theorem wipeCores_keys : (wipeCores s).keys = s.keys := rfl
@[simp] theorem wipeCores_sheets : (wipeCores s).sheets = s.sheets := rfl
@[simp] theorem wipeCores_vault : (wipeCores s).vault = s.vault := rfl
@[simp] theorem wipeCores_rng : (wipeCores s).rng = s.rng := rfl
@[simp] theorem wipeCores_twin : (wipeCores s).twin = s.twin := rfl
@[simp] theorem wipeCores_log : (wipeCores s).log = s.log := rfl
@[simp] theorem wipeCores_fw : (wipeCores s).fw = s.fw := rfl
@[simp] theorem wipeCores_access : (wipeCores s).access = s.access := rfl
@[simp] theorem wipeCores_tap : (wipeCores s).tap = s.tap := rfl
@[simp] theorem wipeCores_sched : (wipeCores s).sched = s.sched := rfl

/-! ### setLock -/

@[simp] theorem setLock_pending (src : Source) (v : Option Nat) : (setLock src v s).pending = s.pending := by cases src <;> rfl
@[simp] theorem setLock_free (src : Source) (v : Option Nat) : (setLock src v s).free = s.free := by cases src <;> rfl
@[simp] theorem setLock_chip (src : Source) (v : Option Nat) : (setLock src v s).chip = s.chip := by cases src <;> rfl
@[simp] theorem setLock_ao (src : Source) (v : Option Nat) : (setLock src v s).ao = s.ao := by cases src <;> rfl
@[simp] theorem setLock_sens (src : Source) (v : Option Nat) : (setLock src v s).sens = s.sens := by cases src <;> rfl
@[simp] theorem setLock_modes (src : Source) (v : Option Nat) : (setLock src v s).modes = s.modes := by cases src <;> rfl
@[simp] theorem setLock_events (src : Source) (v : Option Nat) : (setLock src v s).events = s.events := by cases src <;> rfl
@[simp] theorem setLock_tenants (src : Source) (v : Option Nat) : (setLock src v s).tenants = s.tenants := by cases src <;> rfl
@[simp] theorem setLock_reels (src : Source) (v : Option Nat) : (setLock src v s).reels = s.reels := by cases src <;> rfl
@[simp] theorem setLock_dailies (src : Source) (v : Option Nat) : (setLock src v s).dailies = s.dailies := by cases src <;> rfl
@[simp] theorem setLock_slates (src : Source) (v : Option Nat) : (setLock src v s).slates = s.slates := by cases src <;> rfl
@[simp] theorem setLock_takes (src : Source) (v : Option Nat) : (setLock src v s).takes = s.takes := by cases src <;> rfl
@[simp] theorem setLock_fabric (src : Source) (v : Option Nat) : (setLock src v s).fabric = s.fabric := by cases src <;> rfl
@[simp] theorem setLock_units (src : Source) (v : Option Nat) : (setLock src v s).units = s.units := by cases src <;> rfl
@[simp] theorem setLock_gaffer (src : Source) (v : Option Nat) : (setLock src v s).gaffer = s.gaffer := by cases src <;> rfl
@[simp] theorem setLock_direct (src : Source) (v : Option Nat) : (setLock src v s).direct = s.direct := by cases src <;> rfl
@[simp] theorem setLock_keys (src : Source) (v : Option Nat) : (setLock src v s).keys = s.keys := by cases src <;> rfl
@[simp] theorem setLock_sheets (src : Source) (v : Option Nat) : (setLock src v s).sheets = s.sheets := by cases src <;> rfl
@[simp] theorem setLock_vault (src : Source) (v : Option Nat) : (setLock src v s).vault = s.vault := by cases src <;> rfl
@[simp] theorem setLock_rng (src : Source) (v : Option Nat) : (setLock src v s).rng = s.rng := by cases src <;> rfl
@[simp] theorem setLock_twin (src : Source) (v : Option Nat) : (setLock src v s).twin = s.twin := by cases src <;> rfl
@[simp] theorem setLock_log (src : Source) (v : Option Nat) : (setLock src v s).log = s.log := by cases src <;> rfl
@[simp] theorem setLock_fw (src : Source) (v : Option Nat) : (setLock src v s).fw = s.fw := by cases src <;> rfl
@[simp] theorem setLock_access (src : Source) (v : Option Nat) : (setLock src v s).access = s.access := by cases src <;> rfl
@[simp] theorem setLock_tap (src : Source) (v : Option Nat) : (setLock src v s).tap = s.tap := by cases src <;> rfl
@[simp] theorem setLock_sched (src : Source) (v : Option Nat) : (setLock src v s).sched = s.sched := by cases src <;> rfl

/-! ### accept -/

@[simp] theorem accept_pending : (accept s).pending = s.pending := rfl
@[simp] theorem accept_free : (accept s).free = s.free := rfl
@[simp] theorem accept_chip : (accept s).chip = s.chip := rfl
@[simp] theorem accept_ao : (accept s).ao = s.ao := rfl
@[simp] theorem accept_sens : (accept s).sens = s.sens := rfl
@[simp] theorem accept_modes : (accept s).modes = s.modes := rfl
@[simp] theorem accept_events : (accept s).events = s.events := rfl
@[simp] theorem accept_tenants : (accept s).tenants = s.tenants := rfl
@[simp] theorem accept_reels : (accept s).reels = s.reels := rfl
@[simp] theorem accept_dailies : (accept s).dailies = s.dailies := rfl
@[simp] theorem accept_slates : (accept s).slates = s.slates := rfl
@[simp] theorem accept_takes : (accept s).takes = s.takes := rfl
@[simp] theorem accept_fabric : (accept s).fabric = s.fabric := rfl
@[simp] theorem accept_units : (accept s).units = s.units := rfl
@[simp] theorem accept_gaffer : (accept s).gaffer = s.gaffer := rfl
@[simp] theorem accept_direct : (accept s).direct = s.direct := rfl
@[simp] theorem accept_keys : (accept s).keys = s.keys := rfl
@[simp] theorem accept_sheets : (accept s).sheets = s.sheets := rfl
@[simp] theorem accept_vault : (accept s).vault = s.vault := rfl
@[simp] theorem accept_rng : (accept s).rng = s.rng := rfl
@[simp] theorem accept_twin : (accept s).twin = s.twin := rfl
@[simp] theorem accept_log : (accept s).log = s.log := rfl
@[simp] theorem accept_fw : (accept s).fw = s.fw := rfl
@[simp] theorem accept_access : (accept s).access = s.access := rfl
@[simp] theorem accept_tap : (accept s).tap = s.tap := rfl
@[simp] theorem accept_sched : (accept s).sched = s.sched := rfl
@[simp] theorem accept_held : (accept s).regs.held = s.regs.held := rfl

/-! ### respond -/

@[simp] theorem respond_pending (v : Word) : (respond v s).pending = s.pending := rfl
@[simp] theorem respond_free (v : Word) : (respond v s).free = s.free := rfl
@[simp] theorem respond_chip (v : Word) : (respond v s).chip = s.chip := rfl
@[simp] theorem respond_ao (v : Word) : (respond v s).ao = s.ao := rfl
@[simp] theorem respond_sens (v : Word) : (respond v s).sens = s.sens := rfl
@[simp] theorem respond_modes (v : Word) : (respond v s).modes = s.modes := rfl
@[simp] theorem respond_events (v : Word) : (respond v s).events = s.events := rfl
@[simp] theorem respond_tenants (v : Word) : (respond v s).tenants = s.tenants := rfl
@[simp] theorem respond_reels (v : Word) : (respond v s).reels = s.reels := rfl
@[simp] theorem respond_dailies (v : Word) : (respond v s).dailies = s.dailies := rfl
@[simp] theorem respond_slates (v : Word) : (respond v s).slates = s.slates := rfl
@[simp] theorem respond_takes (v : Word) : (respond v s).takes = s.takes := rfl
@[simp] theorem respond_fabric (v : Word) : (respond v s).fabric = s.fabric := rfl
@[simp] theorem respond_units (v : Word) : (respond v s).units = s.units := rfl
@[simp] theorem respond_gaffer (v : Word) : (respond v s).gaffer = s.gaffer := rfl
@[simp] theorem respond_direct (v : Word) : (respond v s).direct = s.direct := rfl
@[simp] theorem respond_keys (v : Word) : (respond v s).keys = s.keys := rfl
@[simp] theorem respond_sheets (v : Word) : (respond v s).sheets = s.sheets := rfl
@[simp] theorem respond_vault (v : Word) : (respond v s).vault = s.vault := rfl
@[simp] theorem respond_rng (v : Word) : (respond v s).rng = s.rng := rfl
@[simp] theorem respond_twin (v : Word) : (respond v s).twin = s.twin := rfl
@[simp] theorem respond_log (v : Word) : (respond v s).log = s.log := rfl
@[simp] theorem respond_fw (v : Word) : (respond v s).fw = s.fw := rfl
@[simp] theorem respond_access (v : Word) : (respond v s).access = s.access := rfl
@[simp] theorem respond_tap (v : Word) : (respond v s).tap = s.tap := rfl
@[simp] theorem respond_sched (v : Word) : (respond v s).sched = s.sched := rfl
@[simp] theorem respond_regs (v : Word) : (respond v s).regs =
    { s.regs with rspErr := false, rspData := v, rspTag := s.regs.reqTag } := rfl

/-! ### portError -/

@[simp] theorem portError_pending : (portError s).pending = s.pending := rfl
@[simp] theorem portError_free : (portError s).free = s.free := rfl
@[simp] theorem portError_chip : (portError s).chip = s.chip := rfl
@[simp] theorem portError_ao : (portError s).ao = s.ao := rfl
@[simp] theorem portError_sens : (portError s).sens = s.sens := rfl
@[simp] theorem portError_modes : (portError s).modes = s.modes := rfl
@[simp] theorem portError_events : (portError s).events = s.events := rfl
@[simp] theorem portError_tenants : (portError s).tenants = s.tenants := rfl
@[simp] theorem portError_reels : (portError s).reels = s.reels := rfl
@[simp] theorem portError_dailies : (portError s).dailies = s.dailies := rfl
@[simp] theorem portError_slates : (portError s).slates = s.slates := rfl
@[simp] theorem portError_takes : (portError s).takes = s.takes := rfl
@[simp] theorem portError_fabric : (portError s).fabric = s.fabric := rfl
@[simp] theorem portError_units : (portError s).units = s.units := rfl
@[simp] theorem portError_gaffer : (portError s).gaffer = s.gaffer := rfl
@[simp] theorem portError_direct : (portError s).direct = s.direct := rfl
@[simp] theorem portError_keys : (portError s).keys = s.keys := rfl
@[simp] theorem portError_sheets : (portError s).sheets = s.sheets := rfl
@[simp] theorem portError_vault : (portError s).vault = s.vault := rfl
@[simp] theorem portError_rng : (portError s).rng = s.rng := rfl
@[simp] theorem portError_twin : (portError s).twin = s.twin := rfl
@[simp] theorem portError_log : (portError s).log = s.log := rfl
@[simp] theorem portError_fw : (portError s).fw = s.fw := rfl
@[simp] theorem portError_access : (portError s).access = s.access := rfl
@[simp] theorem portError_tap : (portError s).tap = s.tap := rfl
@[simp] theorem portError_sched : (portError s).sched = s.sched := rfl
@[simp] theorem portError_regs : (portError s).regs = { s.regs with rspErr := true, rspData := 0, rspTag := s.regs.reqTag } := rfl

/-! ### holdAccess -/

@[simp] theorem holdAccess_pending (a : HeldAccess) : (holdAccess a s).pending = s.pending := rfl
@[simp] theorem holdAccess_free (a : HeldAccess) : (holdAccess a s).free = s.free := rfl
@[simp] theorem holdAccess_chip (a : HeldAccess) : (holdAccess a s).chip = s.chip := rfl
@[simp] theorem holdAccess_ao (a : HeldAccess) : (holdAccess a s).ao = s.ao := rfl
@[simp] theorem holdAccess_sens (a : HeldAccess) : (holdAccess a s).sens = s.sens := rfl
@[simp] theorem holdAccess_modes (a : HeldAccess) : (holdAccess a s).modes = s.modes := rfl
@[simp] theorem holdAccess_events (a : HeldAccess) : (holdAccess a s).events = s.events := rfl
@[simp] theorem holdAccess_tenants (a : HeldAccess) : (holdAccess a s).tenants = s.tenants := rfl
@[simp] theorem holdAccess_reels (a : HeldAccess) : (holdAccess a s).reels = s.reels := rfl
@[simp] theorem holdAccess_dailies (a : HeldAccess) : (holdAccess a s).dailies = s.dailies := rfl
@[simp] theorem holdAccess_slates (a : HeldAccess) : (holdAccess a s).slates = s.slates := rfl
@[simp] theorem holdAccess_takes (a : HeldAccess) : (holdAccess a s).takes = s.takes := rfl
@[simp] theorem holdAccess_fabric (a : HeldAccess) : (holdAccess a s).fabric = s.fabric := rfl
@[simp] theorem holdAccess_units (a : HeldAccess) : (holdAccess a s).units = s.units := rfl
@[simp] theorem holdAccess_gaffer (a : HeldAccess) : (holdAccess a s).gaffer = s.gaffer := rfl
@[simp] theorem holdAccess_direct (a : HeldAccess) : (holdAccess a s).direct = s.direct := rfl
@[simp] theorem holdAccess_keys (a : HeldAccess) : (holdAccess a s).keys = s.keys := rfl
@[simp] theorem holdAccess_sheets (a : HeldAccess) : (holdAccess a s).sheets = s.sheets := rfl
@[simp] theorem holdAccess_vault (a : HeldAccess) : (holdAccess a s).vault = s.vault := rfl
@[simp] theorem holdAccess_rng (a : HeldAccess) : (holdAccess a s).rng = s.rng := rfl
@[simp] theorem holdAccess_twin (a : HeldAccess) : (holdAccess a s).twin = s.twin := rfl
@[simp] theorem holdAccess_log (a : HeldAccess) : (holdAccess a s).log = s.log := rfl
@[simp] theorem holdAccess_fw (a : HeldAccess) : (holdAccess a s).fw = s.fw := rfl
@[simp] theorem holdAccess_access (a : HeldAccess) : (holdAccess a s).access = s.access := rfl
@[simp] theorem holdAccess_tap (a : HeldAccess) : (holdAccess a s).tap = s.tap := rfl
@[simp] theorem holdAccess_sched (a : HeldAccess) : (holdAccess a s).sched = s.sched := rfl
@[simp] theorem holdAccess_regs (a : HeldAccess) : (holdAccess a s).regs = { s.regs with held := s.regs.held ++ [a] } := rfl

/-! ### setRegs -/

@[simp] theorem setRegs_pending (k i : Nat) (r : UnitRegs) : (setRegs k i r s).pending = s.pending := rfl
@[simp] theorem setRegs_free (k i : Nat) (r : UnitRegs) : (setRegs k i r s).free = s.free := rfl
@[simp] theorem setRegs_chip (k i : Nat) (r : UnitRegs) : (setRegs k i r s).chip = s.chip := rfl
@[simp] theorem setRegs_ao (k i : Nat) (r : UnitRegs) : (setRegs k i r s).ao = s.ao := rfl
@[simp] theorem setRegs_sens (k i : Nat) (r : UnitRegs) : (setRegs k i r s).sens = s.sens := rfl
@[simp] theorem setRegs_modes (k i : Nat) (r : UnitRegs) : (setRegs k i r s).modes = s.modes := rfl
@[simp] theorem setRegs_regs (k i : Nat) (r : UnitRegs) : (setRegs k i r s).regs = s.regs := rfl
@[simp] theorem setRegs_events (k i : Nat) (r : UnitRegs) : (setRegs k i r s).events = s.events := rfl
@[simp] theorem setRegs_tenants (k i : Nat) (r : UnitRegs) : (setRegs k i r s).tenants = s.tenants := rfl
@[simp] theorem setRegs_reels (k i : Nat) (r : UnitRegs) : (setRegs k i r s).reels = s.reels := rfl
@[simp] theorem setRegs_dailies (k i : Nat) (r : UnitRegs) : (setRegs k i r s).dailies = s.dailies := rfl
@[simp] theorem setRegs_slates (k i : Nat) (r : UnitRegs) : (setRegs k i r s).slates = s.slates := rfl
@[simp] theorem setRegs_takes (k i : Nat) (r : UnitRegs) : (setRegs k i r s).takes = s.takes := rfl
@[simp] theorem setRegs_fabric (k i : Nat) (r : UnitRegs) : (setRegs k i r s).fabric = s.fabric := rfl
@[simp] theorem setRegs_gaffer (k i : Nat) (r : UnitRegs) : (setRegs k i r s).gaffer = s.gaffer := rfl
@[simp] theorem setRegs_direct (k i : Nat) (r : UnitRegs) : (setRegs k i r s).direct = s.direct := rfl
@[simp] theorem setRegs_keys (k i : Nat) (r : UnitRegs) : (setRegs k i r s).keys = s.keys := rfl
@[simp] theorem setRegs_sheets (k i : Nat) (r : UnitRegs) : (setRegs k i r s).sheets = s.sheets := rfl
@[simp] theorem setRegs_vault (k i : Nat) (r : UnitRegs) : (setRegs k i r s).vault = s.vault := rfl
@[simp] theorem setRegs_rng (k i : Nat) (r : UnitRegs) : (setRegs k i r s).rng = s.rng := rfl
@[simp] theorem setRegs_twin (k i : Nat) (r : UnitRegs) : (setRegs k i r s).twin = s.twin := rfl
@[simp] theorem setRegs_log (k i : Nat) (r : UnitRegs) : (setRegs k i r s).log = s.log := rfl
@[simp] theorem setRegs_fw (k i : Nat) (r : UnitRegs) : (setRegs k i r s).fw = s.fw := rfl
@[simp] theorem setRegs_access (k i : Nat) (r : UnitRegs) : (setRegs k i r s).access = s.access := rfl
@[simp] theorem setRegs_tap (k i : Nat) (r : UnitRegs) : (setRegs k i r s).tap = s.tap := rfl
@[simp] theorem setRegs_sched (k i : Nat) (r : UnitRegs) : (setRegs k i r s).sched = s.sched := rfl

end Sys2Proof.Machine
end

