-- ==== Sys2Proof/Laws/Events.lean ====
section
/-! SUPPORT. What raising an event, writing a logbook entry and a register write through its lock can do: one lemma for each says all of it, and
the field lemmas follow. -/

namespace Sys2Proof.Machine

/-! ### Events (13 R371) -/

/-- A message that starts changes the messages started and nothing else. -/
theorem startMessage_frame (v : Nat) (s : State) :
    startMessage v s = { s with events := { s.events with started := (startMessage v s).events.started } } := by
  unfold startMessage; split <;> rfl

/-- A raise sets the STATUS bit, may start a message, and changes nothing else. -/
theorem raise_frame (e : Nat) (s : State) :
    raise e s = { s with events := { s.events with
      status := s.events.status ||| BitVec.twoPow 256 e, started := (raise e s).events.started } } := by
  unfold raise; simp only []
  split
  · rw [startMessage_frame]; rfl
  · rfl

/-- The STATUS bits after a raise. -/
theorem raise_status (e : Nat) (s : State) : (raise e s).events.status = s.events.status ||| BitVec.twoPow 256 e := by
  rw [raise_frame]

/-- Which events stand raised after a raise. -/
theorem raised_raise (e e' : Nat) (s : State) : raised (raise e s) e' = (raised s e' || decide (e' = e ∧ e < 256)) := by
  simp only [raised, raise_status, BitVec.getLsbD_or, BitVec.getLsbD_twoPow]
  congr 1
  rw [Bool.eq_iff_iff]
  simp only [Bool.and_eq_true, decide_eq_true_eq]
  omega

/-- An event below 256 stands raised after its raise. -/
@[simp] theorem raised_raise_self (e : Nat) (s : State) (h : e < 256) : raised (raise e s) e = true := by
  simp [raised_raise, h]

/-- Another event is as it was. -/
theorem raised_raise_ne {e e' : Nat} (s : State) (h : e' ≠ e) : raised (raise e s) e' = raised s e' := by
  simp [raised_raise, h]

@[simp] theorem raise_pending (e : Nat) (s : State) : (raise e s).pending = s.pending := by rw [raise_frame]
@[simp] theorem raise_free (e : Nat) (s : State) : (raise e s).free = s.free := by rw [raise_frame]
@[simp] theorem raise_chip (e : Nat) (s : State) : (raise e s).chip = s.chip := by rw [raise_frame]
@[simp] theorem raise_ao (e : Nat) (s : State) : (raise e s).ao = s.ao := by rw [raise_frame]
@[simp] theorem raise_sens (e : Nat) (s : State) : (raise e s).sens = s.sens := by rw [raise_frame]
@[simp] theorem raise_modes (e : Nat) (s : State) : (raise e s).modes = s.modes := by rw [raise_frame]
@[simp] theorem raise_regs (e : Nat) (s : State) : (raise e s).regs = s.regs := by rw [raise_frame]
@[simp] theorem raise_tenants (e : Nat) (s : State) : (raise e s).tenants = s.tenants := by rw [raise_frame]
@[simp] theorem raise_reels (e : Nat) (s : State) : (raise e s).reels = s.reels := by rw [raise_frame]
@[simp] theorem raise_dailies (e : Nat) (s : State) : (raise e s).dailies = s.dailies := by rw [raise_frame]
@[simp] theorem raise_slates (e : Nat) (s : State) : (raise e s).slates = s.slates := by rw [raise_frame]
@[simp] theorem raise_takes (e : Nat) (s : State) : (raise e s).takes = s.takes := by rw [raise_frame]
@[simp] theorem raise_fabric (e : Nat) (s : State) : (raise e s).fabric = s.fabric := by rw [raise_frame]
@[simp] theorem raise_units (e : Nat) (s : State) : (raise e s).units = s.units := by rw [raise_frame]
@[simp] theorem raise_gaffer (e : Nat) (s : State) : (raise e s).gaffer = s.gaffer := by rw [raise_frame]
@[simp] theorem raise_direct (e : Nat) (s : State) : (raise e s).direct = s.direct := by rw [raise_frame]
@[simp] theorem raise_keys (e : Nat) (s : State) : (raise e s).keys = s.keys := by rw [raise_frame]
@[simp] theorem raise_sheets (e : Nat) (s : State) : (raise e s).sheets = s.sheets := by rw [raise_frame]
@[simp] theorem raise_vault (e : Nat) (s : State) : (raise e s).vault = s.vault := by rw [raise_frame]
@[simp] theorem raise_rng (e : Nat) (s : State) : (raise e s).rng = s.rng := by rw [raise_frame]
@[simp] theorem raise_twin (e : Nat) (s : State) : (raise e s).twin = s.twin := by rw [raise_frame]
@[simp] theorem raise_log (e : Nat) (s : State) : (raise e s).log = s.log := by rw [raise_frame]
@[simp] theorem raise_fw (e : Nat) (s : State) : (raise e s).fw = s.fw := by rw [raise_frame]
@[simp] theorem raise_access (e : Nat) (s : State) : (raise e s).access = s.access := by rw [raise_frame]
@[simp] theorem raise_tap (e : Nat) (s : State) : (raise e s).tap = s.tap := by rw [raise_frame]
@[simp] theorem raise_sched (e : Nat) (s : State) : (raise e s).sched = s.sched := by rw [raise_frame]

/-! ### The logbook (15 R422 to R424) -/

/-- A state that differs from another in its events and its log alone still does after a raise. -/
theorem withLog_raise (e : Nat) {s t : State} (h : t = withLog s t) : raise e t = withLog s (raise e t) := by
  have hr : raise e t = { t with events := (raise e t).events } := by rw [raise_frame]
  have ht : withLog s (raise e t) = { withLog s t with events := (raise e t).events } := by
    simp only [withLog, raise_log, raise_ao]
  rw [ht, ← h]; exact hr

/-- It does after a raise made on a condition. -/
theorem withLog_raiseIf (e : Nat) (c : Prop) [Decidable c] {s t : State} (h : t = withLog s t) :
    (if c then raise e t else t) = withLog s (if c then raise e t else t) := by
  split
  · exact withLog_raise e h
  · exact h

/-- An entry changes the log, the last entry the always-on island keeps, and the events it raises. -/
theorem chainEntry_frame (b : Bytes) (s : State) : chainEntry b s = withLog s (chainEntry b s) := by
  unfold chainEntry
  exact withLog_raiseIf 0xEA _ (withLog_raiseIf 0xEB _ rfl)

/-- Differing in events and log alone is transitive. -/
theorem withLog_trans {s t u : State} (h : t = withLog s t) (k : u = withLog t u) : u = withLog s u := by
  rw [h] at k; rw [k]; rfl

/-- Entries change no more than one entry does. -/
theorem chainEntries_frame (bs : List Bytes) (s : State) :
    bs.foldl (fun t b => chainEntry b t) s = withLog s (bs.foldl (fun t b => chainEntry b t) s) := by
  induction bs generalizing s with
  | nil => rfl
  | cons b bs ih => exact withLog_trans (chainEntry_frame b s) (ih (chainEntry b s))

/-- Chaining what waits changes no more than entries do. -/
theorem chainQueue_frame (s : State) : chainQueue s = withLog s (chainQueue s) := by
  unfold chainQueue
  split
  · exact withLog_trans rfl (chainEntries_frame _ _)
  · rfl

/-- Writing an entry changes no more than entries do. -/
theorem logAs_frame (m : Mode) (time code flags event object value extra : Nat) (s : State) :
    logAs m time code flags event object value extra s = withLog s (logAs m time code flags event object value extra s) :=
  withLog_trans rfl (chainQueue_frame _)

/-- Writing an entry with its event changes no more than the events and the log. -/
theorem logEvent_frame (code event object value extra : Nat) (s : State) :
    logEvent code event object value extra s = withLog s (logEvent code event object value extra s) :=
  logAs_frame _ _ _ _ _ _ _ _ s

/-- Writing an entry without an event changes no more than the events and the log. -/
theorem logPlain_frame (code object value extra : Nat) (s : State) :
    logPlain code object value extra s = withLog s (logPlain code object value extra s) :=
  logAs_frame _ _ _ _ _ _ _ _ s

/-- A raise with an entry changes no more than the events and the log. -/
theorem raiseLog_frame (event code object value extra : Nat) (s : State) :
    raiseLog event code object value extra s = withLog s (raiseLog event code object value extra s) :=
  withLog_trans (withLog_raise event rfl) (logEvent_frame _ _ _ _ _ _)

/-! ### What an entry leaves, field by field -/

@[simp] theorem raiseLog_pending (e c o v x : Nat) (s : State) : (raiseLog e c o v x s).pending = s.pending := by rw [raiseLog_frame]; rfl
@[simp] theorem raiseLog_free (e c o v x : Nat) (s : State) : (raiseLog e c o v x s).free = s.free := by rw [raiseLog_frame]; rfl
@[simp] theorem raiseLog_chip (e c o v x : Nat) (s : State) : (raiseLog e c o v x s).chip = s.chip := by rw [raiseLog_frame]; rfl
@[simp] theorem raiseLog_sens (e c o v x : Nat) (s : State) : (raiseLog e c o v x s).sens = s.sens := by rw [raiseLog_frame]; rfl
@[simp] theorem raiseLog_modes (e c o v x : Nat) (s : State) : (raiseLog e c o v x s).modes = s.modes := by rw [raiseLog_frame]; rfl
@[simp] theorem raiseLog_regs (e c o v x : Nat) (s : State) : (raiseLog e c o v x s).regs = s.regs := by rw [raiseLog_frame]; rfl
@[simp] theorem raiseLog_tenants (e c o v x : Nat) (s : State) : (raiseLog e c o v x s).tenants = s.tenants := by rw [raiseLog_frame]; rfl
@[simp] theorem raiseLog_reels (e c o v x : Nat) (s : State) : (raiseLog e c o v x s).reels = s.reels := by rw [raiseLog_frame]; rfl
@[simp] theorem raiseLog_dailies (e c o v x : Nat) (s : State) : (raiseLog e c o v x s).dailies = s.dailies := by rw [raiseLog_frame]; rfl
@[simp] theorem raiseLog_slates (e c o v x : Nat) (s : State) : (raiseLog e c o v x s).slates = s.slates := by rw [raiseLog_frame]; rfl
@[simp] theorem raiseLog_takes (e c o v x : Nat) (s : State) : (raiseLog e c o v x s).takes = s.takes := by rw [raiseLog_frame]; rfl
@[simp] theorem raiseLog_fabric (e c o v x : Nat) (s : State) : (raiseLog e c o v x s).fabric = s.fabric := by rw [raiseLog_frame]; rfl
@[simp] theorem raiseLog_units (e c o v x : Nat) (s : State) : (raiseLog e c o v x s).units = s.units := by rw [raiseLog_frame]; rfl
@[simp] theorem raiseLog_gaffer (e c o v x : Nat) (s : State) : (raiseLog e c o v x s).gaffer = s.gaffer := by rw [raiseLog_frame]; rfl
@[simp] theorem raiseLog_direct (e c o v x : Nat) (s : State) : (raiseLog e c o v x s).direct = s.direct := by rw [raiseLog_frame]; rfl
@[simp] theorem raiseLog_keys (e c o v x : Nat) (s : State) : (raiseLog e c o v x s).keys = s.keys := by rw [raiseLog_frame]; rfl
@[simp] theorem raiseLog_sheets (e c o v x : Nat) (s : State) : (raiseLog e c o v x s).sheets = s.sheets := by rw [raiseLog_frame]; rfl
@[simp] theorem raiseLog_vault (e c o v x : Nat) (s : State) : (raiseLog e c o v x s).vault = s.vault := by rw [raiseLog_frame]; rfl
@[simp] theorem raiseLog_rng (e c o v x : Nat) (s : State) : (raiseLog e c o v x s).rng = s.rng := by rw [raiseLog_frame]; rfl
@[simp] theorem raiseLog_twin (e c o v x : Nat) (s : State) : (raiseLog e c o v x s).twin = s.twin := by rw [raiseLog_frame]; rfl
@[simp] theorem raiseLog_fw (e c o v x : Nat) (s : State) : (raiseLog e c o v x s).fw = s.fw := by rw [raiseLog_frame]; rfl
@[simp] theorem raiseLog_access (e c o v x : Nat) (s : State) : (raiseLog e c o v x s).access = s.access := by rw [raiseLog_frame]; rfl
@[simp] theorem raiseLog_tap (e c o v x : Nat) (s : State) : (raiseLog e c o v x s).tap = s.tap := by rw [raiseLog_frame]; rfl
@[simp] theorem raiseLog_sched (e c o v x : Nat) (s : State) : (raiseLog e c o v x s).sched = s.sched := by rw [raiseLog_frame]; rfl
@[simp] theorem logPlain_pending (c o v x : Nat) (s : State) : (logPlain c o v x s).pending = s.pending := by rw [logPlain_frame]; rfl
@[simp] theorem logPlain_free (c o v x : Nat) (s : State) : (logPlain c o v x s).free = s.free := by rw [logPlain_frame]; rfl
@[simp] theorem logPlain_chip (c o v x : Nat) (s : State) : (logPlain c o v x s).chip = s.chip := by rw [logPlain_frame]; rfl
@[simp] theorem logPlain_sens (c o v x : Nat) (s : State) : (logPlain c o v x s).sens = s.sens := by rw [logPlain_frame]; rfl
@[simp] theorem logPlain_modes (c o v x : Nat) (s : State) : (logPlain c o v x s).modes = s.modes := by rw [logPlain_frame]; rfl
@[simp] theorem logPlain_regs (c o v x : Nat) (s : State) : (logPlain c o v x s).regs = s.regs := by rw [logPlain_frame]; rfl
@[simp] theorem logPlain_tenants (c o v x : Nat) (s : State) : (logPlain c o v x s).tenants = s.tenants := by rw [logPlain_frame]; rfl
@[simp] theorem logPlain_reels (c o v x : Nat) (s : State) : (logPlain c o v x s).reels = s.reels := by rw [logPlain_frame]; rfl
@[simp] theorem logPlain_dailies (c o v x : Nat) (s : State) : (logPlain c o v x s).dailies = s.dailies := by rw [logPlain_frame]; rfl
@[simp] theorem logPlain_slates (c o v x : Nat) (s : State) : (logPlain c o v x s).slates = s.slates := by rw [logPlain_frame]; rfl
@[simp] theorem logPlain_takes (c o v x : Nat) (s : State) : (logPlain c o v x s).takes = s.takes := by rw [logPlain_frame]; rfl
@[simp] theorem logPlain_fabric (c o v x : Nat) (s : State) : (logPlain c o v x s).fabric = s.fabric := by rw [logPlain_frame]; rfl
@[simp] theorem logPlain_units (c o v x : Nat) (s : State) : (logPlain c o v x s).units = s.units := by rw [logPlain_frame]; rfl
@[simp] theorem logPlain_gaffer (c o v x : Nat) (s : State) : (logPlain c o v x s).gaffer = s.gaffer := by rw [logPlain_frame]; rfl
@[simp] theorem logPlain_direct (c o v x : Nat) (s : State) : (logPlain c o v x s).direct = s.direct := by rw [logPlain_frame]; rfl
@[simp] theorem logPlain_keys (c o v x : Nat) (s : State) : (logPlain c o v x s).keys = s.keys := by rw [logPlain_frame]; rfl
@[simp] theorem logPlain_sheets (c o v x : Nat) (s : State) : (logPlain c o v x s).sheets = s.sheets := by rw [logPlain_frame]; rfl
@[simp] theorem logPlain_vault (c o v x : Nat) (s : State) : (logPlain c o v x s).vault = s.vault := by rw [logPlain_frame]; rfl
@[simp] theorem logPlain_rng (c o v x : Nat) (s : State) : (logPlain c o v x s).rng = s.rng := by rw [logPlain_frame]; rfl
@[simp] theorem logPlain_twin (c o v x : Nat) (s : State) : (logPlain c o v x s).twin = s.twin := by rw [logPlain_frame]; rfl
@[simp] theorem logPlain_fw (c o v x : Nat) (s : State) : (logPlain c o v x s).fw = s.fw := by rw [logPlain_frame]; rfl
@[simp] theorem logPlain_access (c o v x : Nat) (s : State) : (logPlain c o v x s).access = s.access := by rw [logPlain_frame]; rfl
@[simp] theorem logPlain_tap (c o v x : Nat) (s : State) : (logPlain c o v x s).tap = s.tap := by rw [logPlain_frame]; rfl
@[simp] theorem logPlain_sched (c o v x : Nat) (s : State) : (logPlain c o v x s).sched = s.sched := by rw [logPlain_frame]; rfl

/-! ### A register write (13 R354, R358 to R360) -/

/-- The word, the tag and the tags given play no part in whether an access is held up. -/
theorem heldUp_accept (src : Source) (size : AccSize) (o : BitVec 20) (w : Bool) (v v' : Word) (g g' : BitVec 6) (s : State) :
    heldUp { src := src, size := size, offset := o, write := w, value := v, tag := g } (accept s) =
      heldUp { src := src, size := size, offset := o, write := w, value := v', tag := g' } s := rfl

/-- The MP's write that nothing holds up is carried out at once. -/
theorem arrive_mp (size : AccSize) (o : BitVec 20) (w : Bool) (v : Word) (f : State → State) (s : State) (hm : s.modes.mode ≠ .hold)
    (h : heldUp { src := .mp, size := size, offset := o, write := w, value := 0, tag := 0 } s = false) : arrive .mp size o w v f s = f s := by
  have hd : s.modes.mode ≠ .drowse := fun hc => by simp [heldUp, hc] at h
  have h' : heldUp { src := .mp, size := size, offset := o, write := w, value := v, tag := s.regs.reqTag } s = false := h
  simp [arrive, hm, hd, h']

/-- An access the port takes and nothing holds up is carried out at once, on the state the port has accepted it in. -/
theorem arrive_port (src : Source) (size : AccSize) (o : BitVec 20) (w : Bool) (v : Word) (f : State → State) (s : State) (hs : src ≠ .mp)
    (hp : portAnswers s = true) (hf : portFull s = false)
    (h : heldUp { src := src, size := size, offset := o, write := w, value := 0, tag := 0 } s = false) :
    arrive src size o w v f s = f (accept s) := by
  have h' : heldUp { src := src, size := size, offset := o, write := w, value := v, tag := (accept s).regs.reqTag } (accept s) = false :=
    (heldUp_accept src size o w v 0 (accept s).regs.reqTag 0 s).trans h
  simp [arrive, hs, hp, hf, h']

/-- A write that reaches its register is the register's own change, on the state the port has answered. -/
theorem mgrWrite_reaches (src : Source) (o : BitVec 20) (v : Word) (f : State → State) (s : State) (h : reaches src o s = true) :
    mgrWrite src o v f s = f (atPort src s) := by
  cases src with
  | manager =>
    simp only [reaches, notHeld, Bool.and_eq_true, Bool.not_eq_true'] at h
    obtain ⟨⟨h1, h2⟩, h3⟩ := h
    have hp : portAnswers s = true := by
      have hm : s.modes.mode ≠ .hold ∧ s.modes.mode ≠ .reset := by constructor <;> intro hc <;> simp [writable, hc] at h1
      simp [portAnswers, hm.1, hm.2]
    have hw : writable o (accept s) = true := h1
    simp only [mgrWrite, arrive_port .manager .w64 o true v _ s (by decide) hp h2 h3, hw, if_true]
    rfl
  | mp =>
    simp only [reaches, notHeld, Bool.and_eq_true, Bool.not_eq_true', decide_eq_true_eq] at h
    exact arrive_mp .w64 o true v f s h.1 h.2
  | function f => simp [reaches] at h
  | outranked mp => simp [reaches] at h

/-- A write that reaches a tenant's window is the register's own change. -/
theorem tenantWrite_reaches (f : Func) (o : BitVec 20) (v : Word) (g : State → State) (s : State) (h : reachesTenant f s = true) :
    tenantWrite f o v g s = g (answered (accept s)) := by
  simp only [reachesTenant, notHeld, Bool.and_eq_true, Bool.not_eq_true'] at h
  obtain ⟨⟨h1, h2⟩, h3⟩ := h
  have hp : portAnswers s = true := by
    have hm : s.modes.mode ≠ .hold ∧ s.modes.mode ≠ .reset := by
      simp only [windowOpen, Bool.and_eq_true] at h1
      constructor <;> intro hc <;> simp [pairs, serves, hc] at h1
    simp [portAnswers, hm.1, hm.2]
  have hh : heldUp { src := .function f, size := .w64, offset := o, write := true, value := 0, tag := 0 } s = false := by
    simpa [heldUp, directHolds] using h3
  have hw : windowOpen f (accept s) = true := h1
  simp only [tenantWrite, arrive_port (.function f) .w64 o true v _ s (by simp) hp h2 hh, hw, if_true]

/-- A guarded write with the lock open applies every field and closes the lock. -/
theorem guarded_open (src : Source) (o : BitVec 20) (c : Bool) (plain keyed : State → State) (s : State) (h : lockOpen src s = true) :
    guarded src o c plain keyed s = setLock src none (keyed (plain s)) := by
  simp [guarded, h]

/-- A guarded write with the lock closed that would change a KEY field is refused. -/
theorem guarded_closed (src : Source) (o : BitVec 20) (plain keyed : State → State) (s : State) (h : lockOpen src s = false) :
    guarded src o true plain keyed s = deny src o (plain s) := by
  simp [guarded, h]

/-- One that changes no KEY field applies the others. -/
theorem guarded_same (src : Source) (o : BitVec 20) (plain keyed : State → State) (s : State) (h : lockOpen src s = false) :
    guarded src o false plain keyed s = plain s := by
  simp [guarded, h]

/-- The port's answer leaves the lock as it is. -/
@[simp] theorem lockOpen_atPort (src : Source) (s : State) : lockOpen src (atPort src s) = lockOpen src s := by
  cases src <;> rfl

/-- A closed lock is closed. -/
@[simp] theorem lockOpen_setLock_none (src : Source) (s : State) : lockOpen src (setLock src none s) = false := by
  cases src <;> rfl

end Sys2Proof.Machine
end

