-- ==== Sys2Proof/Laws/Fabric.lean ====
section
/-! SUPPORT. Tags, and what putting a request on a port can do. -/

namespace Sys2Proof.Machine

/-- A tag given out is below the bound and in no outstanding request. -/
theorem freeTag_unused {rs : List Request} {n tag : Nat} (h : freeTag rs n = some tag) : tag < n ∧ ∀ r ∈ rs, r.tag ≠ tag := by
  induction n with
  | zero => simp [freeTag] at h
  | succ n ih =>
    unfold freeTag at h
    split at h
    · rename_i t ht
      obtain ⟨h1, h2⟩ := ih (ht.trans h)
      exact ⟨by omega, h2⟩
    · split at h
      · simp at h
      · rename_i hany
        simp only [Option.some.injEq] at h
        subst h
        refine ⟨by omega, fun r hr heq => hany ?_⟩
        exact List.any_eq_true.mpr ⟨r, hr, by simp [heq]⟩

/-- No outstanding request, and the lowest tag is free. -/
@[simp] theorem freeTag_nil (n : Nat) : freeTag [] (n + 1) = some 0 := by
  induction n with
  | zero => rfl
  | succ n ih => unfold freeTag; rw [ih]

/-- Charging a byte bucket changes the tenants alone. -/
theorem chargeBytes_frame (f len : Nat) (s : State) : chargeBytes f len s = { s with tenants := (chargeBytes f len s).tenants } := by
  unfold chargeBytes; split <;> rfl

/-- Marking a page changes the tenants, and the events where the page lies outside the log. -/
theorem markDirty_frame (f : Nat) (addr : Word) (s : State) :
    markDirty f addr s = { s with tenants := (markDirty f addr s).tenants, events := (markDirty f addr s).events } := by
  unfold markDirty; simp only []
  split
  · rfl
  · split
    · rfl
    · rw [raise_frame]; rfl

/-- A request changes the fabric, the tenants' buckets and marks, and the events, and nothing else. -/
theorem issueHeld_frame (h : Held) (s : State) :
    issueHeld h s = { s with
      fabric := (issueHeld h s).fabric, tenants := (issueHeld h s).tenants, events := (issueHeld h s).events } := by
  unfold issueHeld; simp only []
  split
  · split
    · rfl
    · split
      · rw [markDirty_frame, chargeBytes_frame]; rfl
      · rw [chargeBytes_frame]; rfl
  · rfl

/-- A refused guarded write sets LOCK_STATE and raises event 0xE2. -/
theorem deny_frame (src : Source) (o : BitVec 20) (s : State) :
    deny src o s = { s with events := (deny src o s).events, regs := (deny src o s).regs } := by
  unfold deny; rw [raise_frame]

end Sys2Proof.Machine
end

