-- ==== Sys2Proof/Laws/Frames.lean ====
section
/-! SUPPORT. Sealed link frames (11 R307, R308): a frame that one core seals opens on the other to the payload it was sealed over. -/

namespace Sys2Proof.Machine

/-! ### Little-endian fields -/

theorem leNat_toLe (n v : Nat) : leNat (toLe n v) = v % 256 ^ n := by
  induction n generalizing v with
  | zero => simp [toLe, leNat, Nat.mod_one]
  | succ n ih =>
    rw [toLe, leNat, ih, BitVec.toNat_ofNat, Nat.pow_succ (n := 256), Nat.mul_comm _ 256, Nat.mod_mul]

@[simp] theorem toLe_length (n v : Nat) : (toLe n v).length = n := by
  induction n generalizing v with
  | zero => rfl
  | succ n ih => simp [toLe, ih]

/-- A slice that ends before a string ends does not see what follows it. -/
theorem slice_append_left {off len : Nat} (a b : Bytes) (h : off + len ≤ a.length) : slice off len (a ++ b) = slice off len a := by
  rw [slice, slice, List.drop_append_of_le_length (by omega), List.take_append_of_le_length (by simp; omega)]

/-! ### Counter mode -/

@[simp] theorem xorBytes_length (a b : Bytes) : (xorBytes a b).length = min a.length b.length := by simp [xorBytes]

theorem xorBytes_cancel (a b : Bytes) (h : a.length ≤ b.length) : xorBytes (xorBytes a b) b = a := by
  induction a generalizing b with
  | nil => simp [xorBytes]
  | cons x a ih =>
    cases b with
    | nil => simp at h
    | cons y b =>
      simp only [List.length_cons, Nat.add_le_add_iff_right] at h
      have := ih b h
      simp only [xorBytes, List.zipWith_cons_cons, List.cons.injEq] at this ⊢
      exact ⟨by rw [BitVec.xor_assoc, BitVec.xor_self, BitVec.xor_zero], this⟩

/-- The counter mode of GCM from a block number on; fuel bounds the blocks. -/
def ctrFrom (enc : Bytes → Bytes) (iv : Bytes) (n k : Nat) (m : Bytes) : Bytes :=
  ((chunksAux 16 n m).zipIdx k).flatMap fun p => xorBytes p.1 (enc (iv ++ toBe 4 (p.2 + 2)))

theorem ctrFrom_nil (enc : Bytes → Bytes) (iv : Bytes) (n k : Nat) : ctrFrom enc iv n k [] = [] := by cases n <;> rfl

theorem ctrFrom_step (enc : Bytes → Bytes) (iv : Bytes) (n k : Nat) (m : Bytes) (h : m ≠ []) :
    ctrFrom enc iv (n + 1) k m = xorBytes (m.take 16) (enc (iv ++ toBe 4 (k + 2))) ++ ctrFrom enc iv n (k + 1) (m.drop 16) := by
  cases m with
  | nil => exact absurd rfl h
  | cons b m => simp [ctrFrom, chunksAux, List.zipIdx_cons]

theorem ctrFrom_length (enc : Bytes → Bytes) (iv : Bytes) (henc : ∀ x, (enc x).length = 16) (n : Nat) :
    ∀ (k : Nat) (m : Bytes), m.length ≤ 16 * n → (ctrFrom enc iv n k m).length = m.length := by
  induction n with
  | zero => intro k m h; rw [List.length_eq_zero_iff.mp (by omega : m.length = 0), ctrFrom_nil]
  | succ n ih =>
    intro k m h
    by_cases hm : m = []
    · rw [hm, ctrFrom_nil]
    · rw [ctrFrom_step _ _ _ _ _ hm, List.length_append, ih _ _ (by rw [List.length_drop]; omega), xorBytes_length, henc, List.length_take,
        List.length_drop]
      omega

/-- The counter mode twice is the string itself. -/
theorem ctrFrom_twice (enc : Bytes → Bytes) (iv : Bytes) (henc : ∀ x, (enc x).length = 16) (n : Nat) :
    ∀ (k : Nat) (m : Bytes), m.length ≤ 16 * n → ctrFrom enc iv n k (ctrFrom enc iv n k m) = m := by
  induction n with
  | zero => intro k m h; rw [List.length_eq_zero_iff.mp (by omega : m.length = 0), ctrFrom_nil, ctrFrom_nil]
  | succ n ih =>
    intro k m h
    by_cases hm : m = []
    · rw [hm, ctrFrom_nil, ctrFrom_nil]
    · have hpos : 0 < m.length := List.length_pos_iff.mpr hm
      have hd : (m.drop 16).length ≤ 16 * n := by rw [List.length_drop]; omega
      have hx : (xorBytes (m.take 16) (enc (iv ++ toBe 4 (k + 2)))).length = min 16 m.length := by
        rw [xorBytes_length, henc, List.length_take]; omega
      have hc := ctrFrom_step enc iv n k m hm
      have hne : ctrFrom enc iv (n + 1) k m ≠ [] := by
        intro h0
        have := ctrFrom_length enc iv henc (n + 1) k m h
        rw [h0] at this
        simp at this
        omega
      rw [ctrFrom_step _ _ _ _ _ hne, hc]
      by_cases hl : 16 ≤ m.length
      · rw [List.take_append_of_le_length (by omega), List.take_of_length_le (by omega), List.drop_append_of_le_length (by omega),
          List.drop_of_length_le (by omega), List.nil_append, ih _ _ hd,
          xorBytes_cancel _ _ (by rw [henc, List.length_take]; omega), List.take_append_drop]
      · have h0 : m.drop 16 = [] := List.drop_of_length_le (by omega)
        rw [h0, ctrFrom_nil, List.append_nil, List.take_of_length_le (by omega), List.drop_of_length_le (by omega), ctrFrom_nil,
          List.append_nil, xorBytes_cancel _ _ (by rw [henc, List.length_take]; omega), List.take_of_length_le (by omega)]

theorem gcmCtr_length (enc : Bytes → Bytes) (iv m : Bytes) (henc : ∀ x, (enc x).length = 16) : (gcmCtr enc iv m).length = m.length :=
  ctrFrom_length enc iv henc (m.length / 16 + 1) 0 m (by omega)

theorem gcmCtr_twice (enc : Bytes → Bytes) (iv m : Bytes) (henc : ∀ x, (enc x).length = 16) : gcmCtr enc iv (gcmCtr enc iv m) = m := by
  have h := ctrFrom_twice enc iv henc (m.length / 16 + 1) 0 m (by omega)
  have hl := gcmCtr_length enc iv m henc
  unfold gcmCtr chunks at hl ⊢
  rw [hl]
  exact h

/-- What GCM has encrypted it decrypts. -/
theorem gcmDec_gcmEnc (enc : Bytes → Bytes) (iv aad m : Bytes) (henc : ∀ x, (enc x).length = 16) :
    gcmDec enc iv aad (gcmEnc enc iv aad m).1 (gcmEnc enc iv aad m).2 = some m := by
  rw [gcmDec, gcmEnc, if_pos rfl, gcmCtr_twice _ _ _ henc]

/-- A key whose schedule ends in a whole round key gives blocks of 16 bytes. -/
theorem aesEnc_length (key : Bytes) (h1 : (aesRoundKeys key).tail.getLast?.map List.length = some 16) (x : Bytes) : (aesEnc key x).length = 16 := by
  unfold aesEnc aesEncWith
  split
  · next h => rw [h] at h1; simp at h1
  · next k0 ks h =>
    rw [h] at h1
    simp only [List.tail_cons] at h1
    cases hk : ks.getLast? with
    | none => rw [hk] at h1; simp at h1
    | some k =>
      rw [hk] at h1
      simp only [Option.map_some, Option.some.injEq] at h1
      rw [xorBytes_length, List.getLastD_eq_getLast?, hk]
      simp [shiftRows, h1]

/-! ### Frames -/

theorem frameHead_length (type flags len seq ack : Nat) : (frameHead type flags len seq ack).length = 24 := by simp [frameHead, zeroBytes]

/-- The parts of a sealed frame. -/
theorem sealFrame_parts (keys : Bytes) (high : Bool) (type flags seq ack : Nat) (p : Bytes)
    (henc : ∀ x, (aesEnc (frameKey keys high) x).length = 16) (hp : p.length ≤ 4096) (hs : seq < 2 ^ 64) (ht : type < 256) (hf : flags < 256) :
    let b := sealFrame keys high type flags seq ack p
    b.length = 0x28 + p.length ∧ byteAt 0 b = 1 ∧ byteAt 1 b = type ∧ byteAt 2 b = flags ∧ byteAt 3 b = 0 ∧ field 4 2 b = p.length ∧
    field 6 2 b = 0 ∧ field 8 8 b = seq ∧
    gcmDec (aesEnc (frameKey keys high)) (frameNonce high seq) (b.take 0x18) (slice 0x18 p.length b) (b.drop (b.length - 16)) = some p := by
  intro b
  let h := frameHead type flags p.length seq ack
  let c := gcmEnc (aesEnc (frameKey keys high)) (frameNonce high seq) h p
  have hb : b = h ++ (c.1 ++ c.2) := by simp [b, sealFrame, h, c]
  have hh : h.length = 24 := frameHead_length ..
  have hc1 : c.1.length = p.length := gcmCtr_length _ _ _ henc
  have hc2 : c.2.length = 16 := by simp [c, gcmEnc, gcmTag, henc, toBe]
  have hlen : b.length = 0x28 + p.length := by rw [hb]; simp [hh, hc1, hc2]; omega
  have hbyte : ∀ i, i < 24 → byteAt i b = byteAt i h := by
    intro i hi
    rw [byteAt, byteAt, hb, List.getD_eq_getElem?_getD, List.getD_eq_getElem?_getD, List.getElem?_append_left (by omega)]
  have hfield : ∀ o n, o + n ≤ 24 → field o n b = field o n h := by
    intro o n hn
    rw [field, field, hb, slice_append_left _ _ (by omega)]
  have htake : b.take 0x18 = h := by rw [hb, List.take_append_of_le_length (by omega), List.take_of_length_le (by omega)]
  have hslice : slice 0x18 p.length b = c.1 := by
    rw [slice, hb, List.drop_append_of_le_length (by omega), List.drop_of_length_le (by omega), List.nil_append,
      List.take_append_of_le_length (by omega), List.take_of_length_le (by omega)]
  have hdrop : b.drop (b.length - 16) = c.2 := by
    rw [hlen, hb, ← List.append_assoc, List.drop_append_of_le_length (by simp [hh, hc1]; omega), List.drop_of_length_le (by simp [hh, hc1]; omega),
      List.nil_append]
  have h0 : byteAt 0 h = 1 := rfl
  have h1 : byteAt 1 h = type := by
    have : byteAt 1 h = type % 256 := rfl
    omega
  have h2 : byteAt 2 h = flags := by
    have : byteAt 2 h = flags % 256 := rfl
    omega
  have h3 : byteAt 3 h = 0 := rfl
  have h4 : field 4 2 h = p.length := by
    have : field 4 2 h = leNat (toLe 2 p.length) := rfl
    rw [this, leNat_toLe]
    exact Nat.mod_eq_of_lt (by omega)
  have h6 : field 6 2 h = 0 := rfl
  have h8 : field 8 8 h = seq := by
    have : field 8 8 h = leNat (toLe 8 seq) := rfl
    rw [this, leNat_toLe]
    exact Nat.mod_eq_of_lt (by omega)
  rw [htake, hslice, hdrop, hlen, hbyte 0 (by omega), hbyte 1 (by omega), hbyte 2 (by omega), hbyte 3 (by omega), hfield 4 2 (by omega),
    hfield 6 2 (by omega), hfield 8 8 (by omega), h0, h1, h2, h3, h4, h6, h8]
  exact ⟨rfl, rfl, rfl, rfl, rfl, rfl, rfl, rfl, gcmDec_gcmEnc _ _ _ _ henc⟩

/-- A frame sealed under the keys of the session, in the partner's direction and next in sequence, opens to its payload. -/
theorem sealFrame_opens (keys : Bytes) (type flags ack : Nat) (p : Bytes) (port : Bool) (s : State) (hk : s.twin.session.keys = some keys)
    (hport : portHears port s = true) (ht : 1 ≤ type ∧ type ≤ 5) (hf : flags < 4) (hp : p.length ≤ 4096) (hs : s.twin.session.recvSeq + 1 < 2 ^ 64)
    (h1 : (aesRoundKeys (frameKey keys s.twin.session.lower)).tail.getLast?.map List.length = some 16) :
    opensAs type port (sealFrame keys s.twin.session.lower type flags (s.twin.session.recvSeq + 1) ack p) p s := by
  have h := sealFrame_parts keys s.twin.session.lower type flags (s.twin.session.recvSeq + 1) ack p (aesEnc_length _ h1) hp hs (by omega) (by omega)
  obtain ⟨hl, b0, b1, b2, b3, f4, f6, f8, hg⟩ := h
  refine ⟨hport, ?_, b1, f8, keys, hk, ?_⟩
  · simp only [frameOk, hl, b0, b1, b2, b3, f4, f6]
    simp
    omega
  · rw [f8, f4]
    exact hg

end Sys2Proof.Machine
end

