-- ==== Sys2Proof/Laws/Keeps.lean ====
section
/-! SUPPORT. What most operations leave alone: the queue, the chip, the keys of the always-on island and the strike flag. -/

namespace Sys2Proof.Machine

/-- One state keeps of another the queue, the chip, DRK, IDK and the strike flag. -/
def Keeps (s t : State) : Prop :=
  t.pending = s.pending ∧ t.chip = s.chip ∧ t.ao.drk = s.ao.drk ∧ t.ao.idk = s.ao.idk ∧ t.ao.strikeFlag = s.ao.strikeFlag

/-- A state keeps its own. -/
theorem Keeps.refl (s : State) : Keeps s s := ⟨rfl, rfl, rfl, rfl, rfl⟩

/-- Keeping is transitive. -/
theorem Keeps.trans {s t u : State} (h : Keeps s t) (k : Keeps t u) : Keeps s u :=
  ⟨k.1.trans h.1, k.2.1.trans h.2.1, k.2.2.1.trans h.2.2.1, k.2.2.2.1.trans h.2.2.2.1, k.2.2.2.2.trans h.2.2.2.2⟩

/-- What is kept holds no key while the strike flag stands, where the other state does not. -/
theorem Keeps.struckHoldsNoKey {s t : State} (h : Keeps s t) (k : struckHoldsNoKey s) : struckHoldsNoKey t := by
  obtain ⟨_, _, h3, h4, h5⟩ := h
  unfold Machine.struckHoldsNoKey at k ⊢
  rw [h3, h4, h5]; exact k

/-- A state that differs in its events and its log alone keeps the rest. -/
theorem keeps_withLog (s t : State) : Keeps s (withLog s t) := ⟨rfl, rfl, rfl, rfl, rfl⟩

theorem keeps_raise (e : Nat) (s : State) : Keeps s (raise e s) := by rw [raise_frame]; exact ⟨rfl, rfl, rfl, rfl, rfl⟩

theorem keeps_logAs (m : Mode) (a b c d e f g : Nat) (s : State) : Keeps s (logAs m a b c d e f g s) := by
  rw [logAs_frame]; exact keeps_withLog _ _

theorem keeps_logEvent (a b c d e : Nat) (s : State) : Keeps s (logEvent a b c d e s) := by rw [logEvent_frame]; exact keeps_withLog _ _

theorem keeps_logPlain (a b c d : Nat) (s : State) : Keeps s (logPlain a b c d s) := by rw [logPlain_frame]; exact keeps_withLog _ _

theorem keeps_raiseLog (a b c d e : Nat) (s : State) : Keeps s (raiseLog a b c d e s) := by rw [raiseLog_frame]; exact keeps_withLog _ _

theorem keeps_chainQueue (s : State) : Keeps s (chainQueue s) := by rw [chainQueue_frame]; exact keeps_withLog _ _

theorem keeps_issueHeld (h : Held) (s : State) : Keeps s (issueHeld h s) := by rw [issueHeld_frame]; exact ⟨rfl, rfl, rfl, rfl, rfl⟩

theorem keeps_issue (w p : Bool) (r : Request) (s : State) : Keeps s (issue w p r s) := keeps_issueHeld _ s

theorem keeps_issueRead (a : Word) (l f t : Nat) (p : Purpose) (s : State) : Keeps s (issueRead a l f t p s) := keeps_issue _ _ _ s

theorem keeps_issueWrite (a : Word) (b : Bytes) (f t : Nat) (p : Purpose) (s : State) : Keeps s (issueWrite a b f t p s) := keeps_issue _ _ _ s

theorem keeps_atPort (src : Source) (s : State) : Keeps s (atPort src s) := by cases src <;> exact ⟨rfl, rfl, rfl, rfl, rfl⟩

theorem keeps_setLock (src : Source) (v : Option Nat) (s : State) : Keeps s (setLock src v s) := by
  cases src <;> exact ⟨rfl, rfl, rfl, rfl, rfl⟩

theorem keeps_deny (src : Source) (o : BitVec 20) (s : State) : Keeps s (deny src o s) := by
  rw [deny_frame]; exact ⟨rfl, rfl, rfl, rfl, rfl⟩

/-- Operations in turn keep what each keeps. -/
theorem keeps_foldl {α : Type} (f : State → α → State) (xs : List α) (hf : ∀ s x, Keeps s (f s x)) (s : State) : Keeps s (xs.foldl f s) := by
  induction xs generalizing s with
  | nil => exact Keeps.refl s
  | cons x xs ih => exact (hf s x).trans (ih (f s x))

theorem keeps_raiseAll (es : List Nat) (s : State) : Keeps s (raiseAll es s) := keeps_foldl _ es (fun s e => keeps_raise e s) s

theorem keeps_pumpHeld (s : State) : Keeps s (pumpHeld s) :=
  Keeps.trans ⟨rfl, rfl, rfl, rfl, rfl⟩ (keeps_foldl _ s.fabric.held (fun t h => keeps_issueHeld h t) _)

/-- A guarded write keeps what its two parts keep. -/
theorem keeps_guarded (src : Source) (o : BitVec 20) (c : Bool) (plain keyed : State → State) (s : State) (hp : ∀ s, Keeps s (plain s))
    (hk : ∀ s, Keeps s (keyed s)) : Keeps s (guarded src o c plain keyed s) := by
  unfold guarded
  split
  · exact ((hp s).trans (hk _)).trans (keeps_setLock src none _)
  · split
    · exact (hp s).trans (keeps_deny src o _)
    · exact hp s

/-- An access keeps what carrying it out keeps, whether it is taken, held or not. -/
theorem keeps_arrive (src : Source) (size : AccSize) (o : BitVec 20) (w : Bool) (v : Word) (f : State → State) (s : State)
    (hf : ∀ s, Keeps s (f s)) : Keeps s (arrive src size o w v f s) := by
  have ha : Keeps s (accept s) := ⟨rfl, rfl, rfl, rfl, rfl⟩
  have hh : ∀ (a : HeldAccess) (t : State), Keeps t (holdAccess a t) := fun _ _ => ⟨rfl, rfl, rfl, rfl, rfl⟩
  unfold arrive; simp only []
  split
  · split
    · exact Keeps.refl s
    · split
      · exact hh _ s
      · exact hf s
  · split
    · exact Keeps.refl s
    · split
      · exact ha.trans (hh _ _)
      · exact ha.trans (hf _)

/-- LOST of a command register keeps the rest. -/
theorem keeps_setLost (o : Nat) (s : State) : Keeps s (setLost o s) := by
  unfold setLost; (repeat' split) <;> exact ⟨rfl, rfl, rfl, rfl, rfl⟩

/-- A command turned away for a higher priority's keeps the rest. -/
theorem keeps_outrankedWrite (mp : Bool) (o : BitVec 20) (s : State) : Keeps s (outrankedWrite mp o s) := by
  have ho : ∀ (src : Source) (t : State), Keeps s t → Keeps s (if !lostGuarded o.toNat || t.modes.mode = .struck then setLost o.toNat t
      else if lockOpen src t then setLock src none (setLost o.toNat t) else t) := by
    intro src t ht
    split
    · exact ht.trans (keeps_setLost _ _)
    · split
      · exact (ht.trans (keeps_setLost _ _)).trans (keeps_setLock _ none _)
      · exact ht
  unfold outrankedWrite; simp only []
  split
  · exact Keeps.refl s
  · cases mp
    · exact ho .manager _ ⟨rfl, rfl, rfl, rfl, rfl⟩
    · exact ho .mp s (Keeps.refl s)

/-- The answer the port gives keeps the rest. -/
theorem keeps_answered (s : State) : Keeps s (answered s) := ⟨rfl, rfl, rfl, rfl, rfl⟩

/-- A register write keeps what the register's own change keeps, whether it reaches the register or not. -/
theorem keeps_mgrWrite (src : Source) (o : BitVec 20) (v : Word) (f : State → State) (s : State) (hf : ∀ s, Keeps s (f s)) :
    Keeps s (mgrWrite src o v f s) := by
  cases src with
  | manager =>
    refine keeps_arrive _ _ _ _ _ _ s fun s => ?_
    split
    · exact (keeps_answered s).trans (hf _)
    · exact keeps_answered s
  | mp => exact keeps_arrive _ _ _ _ _ _ s hf
  | function _ => exact Keeps.refl s
  | outranked mp => exact keeps_outrankedWrite mp o s

/-- The same of a write to a tenant's window. -/
theorem keeps_tenantWrite (fn : Func) (o : BitVec 20) (v : Word) (f : State → State) (s : State) (hf : ∀ s, Keeps s (f s)) :
    Keeps s (tenantWrite fn o v f s) := by
  refine keeps_arrive _ _ _ _ _ _ s fun s => ?_
  split
  · exact (keeps_answered s).trans (hf _)
  · exact keeps_answered s

end Sys2Proof.Machine
end

