-- ==== Sys2Proof/Laws/Tables.lean ====
section
/-! SUPPORT. The sparse tables and the stage area: what a read gives after a write, and that a write keeps the canonical form. -/

namespace Sys2Proof.Machine

variable {α : Type} [DecidableEq α] (d : α)

/-- A bound may be lowered. -/
theorem tableFrom_mono {m : Map α} {a b : Nat} (h : tableFrom d b m = true) (hab : a ≤ b) : tableFrom d a m = true := by
  cases m with
  | nil => rfl
  | cons p m =>
    simp only [tableFrom, Bool.and_eq_true, decide_eq_true_eq] at h ⊢
    exact ⟨⟨by omega, h.1.2⟩, h.2⟩

/-- Below the bound of a table every read gives the default. -/
theorem tableGet_below {m : Map α} {a i : Nat} (h : tableFrom d a m = true) (hi : i < a) : tableGet d m i = d := by
  induction m generalizing a with
  | nil => rfl
  | cons p m ih =>
    simp only [tableFrom, Bool.and_eq_true, decide_eq_true_eq] at h
    rw [tableGet, if_neg (by omega)]
    exact ih h.2 (by omega)

/-- A write keeps the canonical form above a bound it does not go below. -/
theorem tableFrom_set {m : Map α} {a i : Nat} (v : α) (h : tableFrom d a m = true) (hi : a ≤ i) : tableFrom d a (tableSet d m i v) = true := by
  induction m generalizing a with
  | nil => by_cases hv : v = d <;> simp [tableSet, hv, tableFrom, hi]
  | cons p m ih =>
    have hp := h
    simp only [tableFrom, Bool.and_eq_true, decide_eq_true_eq] at hp
    obtain ⟨⟨hap, hpd⟩, hm⟩ := hp
    unfold tableSet
    split
    · simp [tableFrom, hap, hpd, ih hm (by omega)]
    · split
      · split
        · exact tableFrom_mono d hm (by omega)
        · rename_i hi' hv
          subst hi'
          simp [tableFrom, hap, hv, hm]
      · split
        · exact h
        · rename_i hlt hne hv
          simp [tableFrom, hi, hv, hpd, hm]
          omega

/-- A write keeps the canonical form. -/
theorem tableOk_set {m : Map α} (i : Nat) (v : α) (h : tableOk d m = true) : tableOk d (tableSet d m i v) = true :=
  tableFrom_set d v h (Nat.zero_le i)

/-- What a read gives after a write. -/
theorem tableGet_set {m : Map α} {a : Nat} (i j : Nat) (v : α) (h : tableFrom d a m = true) :
    tableGet d (tableSet d m i v) j = if j = i then v else tableGet d m j := by
  induction m generalizing a with
  | nil =>
    by_cases hv : v = d <;> by_cases hj : j = i
    · simp [tableSet, tableGet, hv, hj]
    · simp [tableSet, tableGet, hv, hj]
    · simp [tableSet, tableGet, hv, hj]
    · simp [tableSet, tableGet, hv, hj, Ne.symm hj]
  | cons p m ih =>
    simp only [tableFrom, Bool.and_eq_true, decide_eq_true_eq] at h
    obtain ⟨_, hm⟩ := h
    unfold tableSet
    split
    · rw [tableGet, ih hm]
      by_cases hj : p.1 = j
      · have : j ≠ i := by omega
        simp [hj, this, tableGet]
      · simp [hj, tableGet]
    · split
      · rename_i hpi
        split
        · rename_i hv
          by_cases hj : j = i
          · subst hj hpi
            simp [tableGet_below d hm (Nat.lt_succ_self p.1), hv]
          · have : p.1 ≠ j := by omega
            simp [hj, tableGet, this]
        · by_cases hj : j = i
          · simp [hj, tableGet]
          · have : p.1 ≠ j := by omega
            simp [hj, tableGet, this, Ne.symm hj]
      · rename_i hlt hne
        split
        · rename_i hv
          by_cases hj : j = i
          · subst hj
            have : p.1 ≠ j := hne
            simp [tableGet, this, tableGet_below d hm (show j < p.1 + 1 by omega), hv]
          · simp [hj]
        · by_cases hj : j = i
          · simp [hj, tableGet]
          · simp [hj, tableGet, Ne.symm hj]

/-- A read at the key written. -/
@[simp] theorem tableGet_set_self {m : Map α} (i : Nat) (v : α) (h : tableOk d m = true) : tableGet d (tableSet d m i v) i = v := by
  rw [tableGet_set d i i v h, if_pos rfl]

/-- A read at another key. -/
theorem tableGet_set_ne {m : Map α} {i j : Nat} (v : α) (h : tableOk d m = true) (hj : j ≠ i) :
    tableGet d (tableSet d m i v) j = tableGet d m j := by
  rw [tableGet_set d i j v h, if_neg hj]

/-! ### Cells -/

/-- Cells below an address, from a bound, are in canonical form from that bound, and joined to any from that address on. -/
theorem tableFrom_below_append {m n : List Host.Cell} {a b : Nat} (hm : tableFrom (0 : Byte) a m = true) (hn : tableFrom (0 : Byte) b n = true)
    (hab : a ≤ b) : tableFrom (0 : Byte) a (cellsBelow b m ++ n) = true := by
  induction m generalizing a with
  | nil => exact tableFrom_mono 0 hn hab
  | cons c m ih =>
    simp only [tableFrom, Bool.and_eq_true, decide_eq_true_eq] at hm
    unfold cellsBelow
    split
    · rename_i hc
      simp only [List.cons_append, tableFrom, Bool.and_eq_true, decide_eq_true_eq]
      exact ⟨hm.1, ih hm.2 (by omega)⟩
    · exact tableFrom_mono 0 hn hab

/-- The cells of bytes are in canonical form, joined to any that begin after them. -/
theorem tableFrom_from_append {n : List Host.Cell} (bs : Bytes) {a : Nat} (hn : tableFrom (0 : Byte) (a + bs.length) n = true) :
    tableFrom (0 : Byte) a (cellsFrom a bs ++ n) = true := by
  induction bs generalizing a with
  | nil => exact hn
  | cons b bs ih =>
    have hn' : tableFrom (0 : Byte) (a + 1 + bs.length) n = true := by
      rw [show a + 1 + bs.length = a + (b :: bs).length by simp; omega]; exact hn
    unfold cellsFrom
    split
    · exact tableFrom_mono 0 (ih hn') (by omega)
    · rename_i hb
      simp only [List.cons_append, tableFrom, Bool.and_eq_true, decide_eq_true_eq]
      exact ⟨⟨Nat.le_refl a, hb⟩, ih hn'⟩

/-- Cells from an address on are in canonical form from it. -/
theorem tableFrom_above {m : List Host.Cell} {a b : Nat} (hm : tableFrom (0 : Byte) a m = true) : tableFrom (0 : Byte) b (cellsAbove b m) = true := by
  induction m generalizing a with
  | nil => rfl
  | cons c m ih =>
    simp only [tableFrom, Bool.and_eq_true, decide_eq_true_eq] at hm
    unfold cellsAbove
    split
    · exact ih hm.2
    · rename_i hc
      simp only [tableFrom, Bool.and_eq_true, decide_eq_true_eq]
      exact ⟨⟨by omega, hm.1.2⟩, hm.2⟩

/-- A write of cells keeps the canonical form. -/
theorem writeCells_ok {m : List Host.Cell} (off : Nat) (bs : Bytes) (h : tableOk (0 : Byte) m = true) :
    tableOk (0 : Byte) (writeCells m off bs) = true := by
  unfold writeCells tableOk
  rw [List.append_assoc]
  exact tableFrom_below_append h (tableFrom_from_append bs (tableFrom_above h)) (Nat.zero_le off)

end Sys2Proof.Machine
end

