-- ==== Sys2Proof/Tests/Slice0.lean ====
section
/-! SUPPORT. Our own tests: commands that are not well formed, a state for the hypotheses of each statement, and single steps against values
worked out from the spec. -/

namespace Sys2Proof.Tests

set_option Elab.async false

open Sys2Proof Sys2Proof.Machine

/-! ### Small states -/

/-- The block after reset, moved to a mode. -/
def up (m : Mode) : State := { State.reset with modes := { State.reset.modes with mode := m } }

/-- OPERATIONAL. -/
def op : State := up .operational

/-- A state at another CORE_TIME. -/
def later (t : Nat) (s : State) : State := { s with regs := { s.regs with coreTime := t } }

/-- Islands in a state. -/
def inIslands (is : List Nat) (st : IslandState) (s : State) : State :=
  { s with gaffer := { s.gaffer with islands := is.map fun i => (i, { Island.reset with state := st }) } }

/-- Every island running. -/
def started (s : State) : State := inIslands (List.range 99) .running s

/-- The Manager's lock opened now. -/
def unlocked (s : State) : State := setLock .manager (some (now s)) s

/-! ### Commands that are not well formed -/

theorem illFormed_fabricReadResponse : (Instr.fabricReadResponse false 0 (List.replicate 65 0) ⟨0, false⟩).wellFormed = false := by decide
theorem illFormed_trimWindowEnd : (Instr.trimWindowEnd 0 1025).wellFormed = false := by decide
theorem illFormed_adaptiveProportionWindowEnd : (Instr.adaptiveProportionWindowEnd 0 (List.replicate 127 0)).wellFormed = false := by decide +kernel
theorem illFormed_vaultResponse : (Instr.vaultResponse (List.replicate 183 0)).wellFormed = false := by decide +kernel
theorem illFormed_meshEnrolComplete : (Instr.meshEnrolComplete (List.replicate 9 0)).wellFormed = false := by decide
theorem illFormed_tripleScrub : (Instr.tripleScrub .registerFile 0x100000 .agree).wellFormed = false ∧
    (Instr.tripleScrub .callSheet 0x400 .agree).wellFormed = false ∧ (Instr.tripleScrub .keyStore 0x20000 .agree).wellFormed = false ∧
    (Instr.tripleScrub .alwaysOn 1 .agree).wellFormed = false := by decide
theorem illFormed_firmwareAuthenticated : (Instr.firmwareAuthenticated (some []) []).wellFormed = false := by decide
theorem illFormed_firmwareRetry : (Instr.firmwareRetry (some []) []).wellFormed = false := by decide
theorem wellFormed_plain : (Instr.unlock .manager 0).wellFormed = true ∧ (Instr.trimWindowEnd 0 1024).wellFormed = true := by decide

/-! ### A state for the hypotheses of each statement -/

theorem witness_IdleStepCountsTime : op.pending = [] ∧ op.modes.mode ≠ .factory ∧ op.modes.resetDue = false ∧ op.regs.held = [] := by
  decide +kernel

theorem witness_LocksOpenAndClose : reaches .manager 0x00010 op = true ∧ lockTime .manager (later 1 (unlocked op)) = some 0 ∧
    0 + 1 ≤ now (later 1 (unlocked op)) := by decide +kernel

/-- An access of the Manager that is held. -/
def anAccess : HeldAccess := { src := .manager, size := .w64, offset := 0x0F000, write := true, value := 1, tag := 0 }
/-- The port with accesses held. -/
def holdingAt (as : List HeldAccess) (s : State) : State := { s with regs := { s.regs with held := as } }

theorem witness_RegisterPortWrites :
    (let s := holdingAt (List.replicate 64 anAccess) op; portAnswers s = true ∧ portFull s = true) ∧
    (let s := holdingAt [anAccess] op; portAnswers s = true ∧ portFull s = false ∧ (s.regs.held.any fun a => a.src = .manager) = true) ∧
    (portAnswers op = true ∧ portFull op = false ∧ (op.regs.held.any fun a => a.src = .manager) = false ∧ op.modes.mode ≠ .drowse ∧
      sizeOk .w64 0x4 = false) ∧
    reaches .manager (BitVec.ofNat 20 (0x100 + 8 * 0)) op = true ∧ reaches .manager (BitVec.ofNat 20 (0x100 + 8 * 3)) op = true := by decide +kernel

theorem witness_GuardedWriteNeedsTheLock : lockOpen .manager op = false ∧
    (reaches .manager 0x04000 op ∧ (0 : Word) &&& 0xFFFFFF0F ≠ gfCtrl op) ∧ (reaches .manager 0x08000 op ∧ usValue 1 0 0 ≠ op.units.cmd) ∧
    (reaches .manager 0x05010 op ∧ bits 0 32 0 ≠ rngCfgValue op) ∧ reaches .manager 0x07028 op ∧
    (reaches .manager 0x00188 op ∧ bits 0 8 0xFF ≠ 0) := by decide +kernel

/-- A message that has started on vector 7. -/
def messaging : State := { op with events := { op.events with
  started := [(7, { Vec.reset with addr := 0x1000, data := 5 })] } }

theorem witness_EventBlockCommands : tableOk Vec.reset op.events.vectors = true ∧ reaches .manager (BitVec.ofNat 20 (0x120 + 8 * 3)) op ∧
    reaches .manager 0x00198 op ∧ reaches .manager (BitVec.ofNat 20 (0x1000 + 16 * 255 + 8)) op ∧
    (reaches .manager 0x00188 (unlocked op) ∧ lockOpen .manager (unlocked op)) ∧
    (messaging.events.started.find? (fun m => m.1 = 7) = some (7, { Vec.reset with addr := 0x1000, data := 5 }) ∧
      messagesGo messaging.modes.mode = true ∧ asleep messaging ((0x1000 : Word) &&& ~~~3) = false ∧
      (routePort messaging false = false ∨ messaging.chip.fp1Present = true) ∧
      (portOf messaging (routePort messaging false)).fenced = false ∧ (portOf messaging (routePort messaging false)).writes = []) := by
  decide +kernel

/-- A message of 8 bytes of SHA-256 under way on the direct-feed port. -/
def feeding : State := { op with direct := { op.direct with active := true, owner := some .manager, msgAlg := 2, msgLen := 8 } }
/-- With its one word written. -/
def fed : State := { feeding with direct := { feeding.direct with words := 1, message := List.replicate 8 1 } }

theorem witness_DirectPortTakesAMessage :
    (reaches .manager 0x0F000 op ∧ directRuns op.modes.mode = true ∧ op.direct.busy = false ∧ op.direct.active = false ∧ bits 0 2 0x21 = 1 ∧
      directAlg (BitVec.ofNat 4 (bits 4 4 0x21)) = true) ∧
    (directRuns feeding.modes.mode = true ∧ feeding.direct.busy = false ∧ feeding.direct.active = true ∧ feeding.direct.owner = some .manager ∧
      reaches .manager 0x0F010 feeding ∧ reaches .manager 0x0F000 feeding ∧ bits 0 2 3 = 3) := by decide +kernel

theorem witness_DirectPortEndsAMessage :
    (reaches .manager 0x0F000 fed ∧ directRuns fed.modes.mode = true ∧ fed.direct.busy = false ∧ fed.direct.active = true ∧
      fed.direct.owner = some .manager ∧ bits 0 2 2 = 2 ∧ fed.direct.words = ceilDiv fed.direct.msgLen 8) ∧
    (reaches .manager 0x0F000 feeding ∧ feeding.direct.words ≠ ceilDiv feeding.direct.msgLen 8) ∧
    (let s := { fed with direct := { fed.direct with busy := true, finishing := true } }
     directRuns s.modes.mode = true ∧ s.direct.busy = true ∧ s.direct.finishing = true ∧ s.regs.held = []) ∧
    (later 1000 feeding).direct.lastWrite + 1000 ≤ now (later 1000 feeding) := by decide +kernel

/-- The RNG serving, with bytes in its buffer. -/
def drawing (n : Nat) (s : State) : State := { s with rng := { s.rng with state := .ready, buffer := List.replicate n 7 } }

theorem witness_LogbookCommands : (reaches .manager 0x07018 op ∧ reaches .manager 0x07010 op ∧
      (op.log.entries.find? (fun q => q.1 = 3) = none)) ∧
    (let s := { op with log := { op.log with entries := [(3, zeros 64)] } }; s.log.entries.find? (fun q => q.1 = 3) = some (3, zeros 64)) ∧
    (let s := unlocked (drawing 56 (started op))
     reaches .manager 0x07028 s ∧ lockOpen .manager s ∧ checkpointMode s.modes.mode = true ∧ checkpointBusy s = false ∧ s.rng.waiting = [] ∧
      rngServes s = true ∧ scalarBytes p384 ≤ s.rng.buffer.length ∧ s.units.idk = [] ∧ shieldedFree s) ∧
    (let s := { op with log := { op.log with entries := (List.range 4096).map fun i => (i + 5, []) } }
     4096 ≤ s.log.entries.length ∧ s.log.ack.toNat < (s.log.entries.headD (0, [])).1) := by unfold shieldedFree; decide +kernel

theorem witness_UnitsAreFencedAndReturned :
    (let s := unlocked op
     reaches .manager 0x08000 s ∧ lockOpen .manager s ∧ pairs s.modes.mode = true ∧ (5 : BitVec 4).toNat ≤ 5 ∧
      (3 : BitVec 10).toNat < unitCount s 5 ∧ unitFenced s 5 3 = false ∧ s.takes = []) ∧
    (let s := setFenced 0 255 true (unlocked op)
     reaches .manager 0x08000 s ∧ lockOpen .manager s ∧ pairs s.modes.mode = true ∧ (255 : BitVec 10).toNat < unitCount s 0 ∧
      unitFenced s 0 255 = true) := by decide +kernel

/-- Island 1 running at a time by which it has been idle for its limits. -/
def idling : State := later 5000 (inIslands [20] .running op)

theorem witness_GafferAndIslands : (reaches .manager 0x04000 (unlocked op) ∧ lockOpen .manager (unlocked op)) ∧
    tableOk Island.reset idling.gaffer.islands = true ∧ (clockIdle idling 20 = true ∧ (islandAt idling 20).state = .running) ∧
    powerIdle idling 20 = true ∧
    (let s := inIslands [20] .starting op
     tableOk Island.reset s.gaffer.islands = true ∧ (islandAt s 20).state = .starting ∧ s.modes.mode ≠ .reset) ∧
    (let u := started { State.reset with modes := { State.reset.modes with authenticated := true } }
     let s := setIsland 20 { islandAt u 20 with state := .starting } u
     tableOk Island.reset s.gaffer.islands = true ∧ (islandAt s 20).state = .starting ∧ s.modes.mode = .reset ∧ s.modes.authenticated = true ∧
      islandsStarted (islandRuns 20 s) = true) := by decide +kernel

theorem witness_DomainSleepHandshake : op.fabric.held = [] ∧ messageWaits op = false := by decide +kernel

theorem witness_TestPortInstructions : op.chip.fieldLock = true ∧ op.modes.mode ∉ [Mode.struck, .maintenance, .factory, .retired] ∧
    (up .maintenance).modes.mode ∈ [Mode.maintenance, .factory, .retired] := by decide +kernel

theorem witness_RequestsRefusedOrDrained :
    (let s := unlocked (up .maintenance)
     reaches .manager 0x00028 s ∧ lockOpen .manager s ∧ s.modes.busy = false ∧
      (bits 0 4 1 = 1 ∧ permits s.modes.mode .hold = false) ∧ (bits 0 4 5 = 5 ∧ permits s.modes.mode .ceremony = false) ∧
      (bits 0 4 6 = 6 ∧ permits s.modes.mode .operational = false) ∧ (bits 0 4 8 = 8 ∧ permits s.modes.mode .drowse = false)) ∧
    (let s := unlocked op
     reaches .manager 0x00028 s ∧ lockOpen .manager s ∧ s.modes.busy = false ∧ (bits 0 4 0xA = 0xA ∧ permits s.modes.mode .factory = false) ∧
      permits s.modes.mode .hold = true ∧ (bits 0 5 0x12 = 0x12 ∧ permits s.modes.mode .reset = true) ∧
      permits s.modes.mode .drowse = true ∧ permits s.modes.mode .ceremony = true ∧ s.modes.mode ≠ .sealed) ∧
    (let s := unlocked (up .struck)
     reaches .manager 0x00028 s ∧ lockOpen .manager s ∧ s.modes.busy = false ∧ (bits 0 4 0xB = 0xB ∧ permits s.modes.mode .struck = false)) ∧
    (let s := setLock .mp (some 0) (up .retired)
     reaches .mp 0x00028 s ∧ lockOpen .mp s ∧ s.modes.busy = false ∧ permits s.modes.mode .reset = false ∧ bits 0 5 0x02 = 0x02 ∧
      (bits 0 4 0xC = 0xC ∧ permits s.modes.mode .retired = false)) := by decide +kernel

theorem witness_RequestsEnterAtOnce :
    (let s := unlocked op
     reaches .manager 0x00028 s ∧ lockOpen .manager s ∧ s.modes.busy = false ∧ serves s.modes.mode = true ∧ bits 0 4 6 = 6) ∧
    (let s := unlocked (up .sealed)
     reaches .manager 0x00028 s ∧ lockOpen .manager s ∧ s.modes.busy = false ∧ 4 ≤ healthyCount s ∧
      permits s.modes.mode .operational = true ∧ permits s.modes.mode .ceremony = true ∧ s.modes.mode = .sealed) ∧
    (let s := unlocked (up .maintenance)
     reaches .manager 0x00028 s ∧ lockOpen .manager s ∧ s.modes.busy = false ∧ 4 ≤ healthyCount s ∧ permits s.modes.mode .factory = true) := by
  decide +kernel

theorem witness_ResetsWithoutDrain :
    (let s := unlocked op
     reaches .manager 0x00028 s ∧ lockOpen .manager s ∧ bits 0 5 0x02 = 0x02 ∧ permits s.modes.mode .reset = true) ∧
    op.modes.mode ∉ [Mode.hold, .reset, .drowse] := by decide +kernel

theorem witness_StrikesAndRetirement :
    (let s := unlocked op
     reaches .manager 0x00028 s ∧ lockOpen .manager s ∧ bits 0 4 0xB = 0xB ∧ permits s.modes.mode .struck = true ∧ bits 0 4 0xC = 0xC ∧
      permits s.modes.mode .retired = true ∧ s.modes.busy = false ∧ (s.modes.armed.all fun t0 => decide (t0 + 1000 ≤ now s)) = true) ∧
    (let s := unlocked (later 999 { op with modes := { op.modes with armed := some 0 } })
     reaches .manager 0x00028 s ∧ lockOpen .manager s ∧ s.modes.armed = some 0 ∧ now s < 0 + 1000 ∧ s.ao.drk.isSome = true) ∧
    (let s := later 1000 { op with modes := { op.modes with armed := some 0 } }; s.modes.armed = some 0 ∧ 0 + 1000 ≤ now s) ∧
    (let s := later 10000 (up .drowse); s.modes.mode = .drowse ∧ s.modes.refreshAt + 10000 ≤ now s) := by decide +kernel

/-- A drain under way to a mode. -/
def draining (m : Mode) : State := { op with modes := { op.modes with pending := some m, busy := true } }
/-- A slate being read. -/
def aSlate : Slate :=
  { id := 0, tenant := 0, reel := 0, dailies := 0, index := 0, seq := 0, credit := true, stage := .reading, bytes := [], ext := [] }

theorem witness_DrainEndsInTheTarget : (draining .ceremony).modes.pending = some .ceremony ∧ drainIdle (draining .ceremony) = true ∧
    (draining .reset).modes.pending = some .reset ∧ drainIdle (draining .reset) = true ∧
    drainIdle { draining .reset with slates := [aSlate] } = false := by decide +kernel

theorem witness_SuppliesAndResets : op.modes.mode ≠ .hold ∧
    (let s := { up .hold with modes := { (up .hold).modes with coreOk := false } }
     s.modes.mode = .hold ∧ (s.modes.coreOk = false ∨ s.modes.sramOk = false) ∧ s.modes.rstLow = false) ∧ 100 ≤ 100 ∧
    { op with modes := { op.modes with rstLow := true } }.modes.rstLow = true := by decide +kernel

theorem witness_SelftestItems :
    let s := started { up .selftest with modes := { (up .selftest).modes with items := [.drk, .idk, .keyStore, .registerFile, .lane 511, .rng] } }
    (itemReady s .drk = true ∧ s.modes.items.filter (· ≠ .drk) ≠ []) ∧ itemReady s .idk = true ∧ itemReady s .keyStore = true ∧
    itemReady s .registerFile = true ∧
    (itemReady s (.lane 511) = true ∧ itemUnit (.lane 511) = some (1, 511) ∧ unitFenced s 1 511 = false ∧ 511 < unitCount s 1) := by decide +kernel

theorem witness_WakeRestoresService :
    (let s := up .drowse; s.modes.mode = .drowse ∧ wakes s .access = true ∧ wakeReady s = false ∧ tablesOk s = true) ∧
    (let s := later 30 (started (up .drowse))
     s.modes.mode = .drowse ∧ wakes s .access = true ∧ wakeReady s = true ∧ s.regs.held = [] ∧ s.fabric.held = []) := by decide +kernel

/-- Every source in a state. -/
def sourced (x : NoiseSource) (s : State) : State := { s with rng := { s.rng with sources := List.replicate 16 x } }
/-- A source that is tested. -/
def testing (st : SourceState) : NoiseSource := { NoiseSource.reset with state := st, inBand := true, windows := 4 }

theorem witness_SourcesTrimAndTest :
    (let s := later 1000 op
     s.rng.sources.length = 16 ∧ rngRuns s.modes.mode = true ∧ sourceHealthy s 15 = true ∧ 5 ≤ healthyCount s ∧ s.rng.pattern = false ∧
      1024 ≤ 1024 ∧ (sourceOf s 15).trimFrom + 1000 ≤ now s) ∧
    (let s := later 40000 op; (sourceOf s 15).state = .trim ∧ (sourceOf s 15).trimAt + 40000 ≤ now s) ∧
    (let s := sourced (testing .contrib) op
     s.rng.sources.length = 16 ∧ s.rng.pattern = false ∧ testsRun s 15 = true ∧ 5 ≤ healthyCount s ∧ (sourceOf s 15).state = .contrib ∧
      s.rng.state ≠ .failed ∧ (List.replicate 128 0xF7 : Bytes).length = 128 ∧
      (repetition (sourceOf s 15) (bitsOfBytes (List.replicate 128 0xFF))).2.2 = true ∧
      (repetition (sourceOf s 15) (bitsOfBytes (List.replicate 128 0xF7))).2.2 = false ∧ 793 ≤ recurrences (List.replicate 128 0xF7) ∧
      (repetition (sourceOf s 15) (bitsOfBytes (List.replicate 128 0x56))).2.2 = false ∧ recurrences (List.replicate 128 0x56) < 793) ∧
    (let s := sourced (testing .startup) op; testsRun s 15 = true ∧ (sourceOf s 15).state = .startup ∧ 4 ≤ (sourceOf s 15).windows) := by
  decide +kernel

/-- The header of an image of 4,096 zero bytes, version 5, SECURITY_VERSION 3, signed by the private key 1. -/
def fwHead : Bytes := toBe 272 0x5437465701000701050000000000000003000000000000000010000000000000c0e59a3e3ffbd3b5c75428fb36432facabc745944296ff515f737c4fef4efc64586809f7a16f56354a1eaecf2aa8d774aa87ca22be8b05378eb1c71ef320ad746e1d3b628ba79b9859f741e082542a385502f25dbf55296c3a545e3872760ab73617de4a96262c6f5d9e98bf9292dc29f8f41dbd289a147ce9da3113b5f0b8c00a60b1ce1d7e819d7a431d7c90ea0e5faa87ca22be8b05378eb1c71ef320ad746e1d3b628ba79b9859f741e082542a385502f25dbf55296c3a545e3872760ab775f7c09e152423fe4da9c89d26b3238b309b560ed10d6db49adecdfce382cba78ad6ffd0032144ba7f40345945097bad

/-- SHA-384 of that key. -/
def fwKeyHash : Bytes := toBe 48 0xa19d4db171b582eb8052b0cfe555e17894aa22d1c8a9770950697dd8f796d2fa4bf0a56ad80006b7ea08e1191f814b65

/-- The image. -/
def fwImage : Bytes := fwHead ++ zeroBytes 4096

theorem fwBody_digest : sha384 (zeroBytes 4096) = slice 0x20 48 fwHead := by decide +kernel
theorem fwSignature : sha384 (slice 0x50 96 fwHead) = fwKeyHash ∧
    ecdsaVerify p384 (slice 0x50 96 fwHead) (sha384 (fwHead.take 0xB0)) (slice 0xB0 96 fwHead) = true := by decide +kernel
theorem fwHead_fields : fwHead.length = 0x110 ∧ fwHead.take 6 = ascii "T7FW" ++ [1, 0] ∧ byteAt 6 fwHead = 7 ∧ byteAt 7 fwHead = 1 ∧
    field 0x14 4 fwHead = 0 ∧ field 0x1C 4 fwHead = 0 ∧ field 0x18 4 fwHead = 4096 ∧ field 0x10 4 fwHead = 3 := by decide +kernel

/-- What lies in the header of the image is as in the header alone. -/
theorem fwImage_head : (∀ i, i < 0x110 → byteAt i fwImage = byteAt i fwHead) ∧ (∀ o n, o + n ≤ 0x110 → slice o n fwImage = slice o n fwHead) ∧
    (∀ n, n ≤ 0x110 → fwImage.take n = fwHead.take n) := by
  have hl := fwHead_fields.1
  refine ⟨fun i hi => ?_, fun o n hn => slice_append_left _ _ (by omega), fun n hn => List.take_append_of_le_length (by omega)⟩
  rw [byteAt, byteAt, fwImage, List.getD_eq_getElem?_getD, List.getD_eq_getElem?_getD, List.getElem?_append_left (by omega)]

/-- The image's header is in order and names the bytes that follow it. -/
theorem fwImage_ok : fwHeaderOk fwImage = true ∧ fwImage.length = fwLength fwImage := by
  obtain ⟨hl, h0, h6, h7, h14, h1c, h18, h10⟩ := fwHead_fields
  obtain ⟨hb, hs, ht⟩ := fwImage_head
  have hfd : ∀ o n, o + n ≤ 0x110 → field o n fwImage = field o n fwHead := fun o n hn => by rw [field, field, hs o n hn]
  have hlen : fwImage.length = 4368 := by rw [fwImage, List.length_append, hl, zeroBytes, List.length_replicate]
  constructor
  · rw [fwHeaderOk, ht 6 (by omega), hb 6 (by omega), hb 7 (by omega), hfd 0x14 4 (by omega), hfd 0x1C 4 (by omega), hfd 0x18 4 (by omega), h0, h6,
      h7, h14, h1c, h18, hlen]
    decide
  · rw [fwLength, hfd 0x18 4 (by omega), h18, hlen]

/-- The image passes every check on a core of any size with that key and address. -/
theorem fwImage_passes (s : State) (h : s.chip.fwKeyHash = fwKeyHash) (floor : Nat) (hf : floor ≤ 3) :
    fwCheck s 0 floor (.image fwImage) = .ok fwImage := by
  obtain ⟨hl, h0, h6, h7, h14, h1c, h18, h10⟩ := fwHead_fields
  obtain ⟨hb, hs, ht⟩ := fwImage_head
  have hfd : ∀ o n, o + n ≤ 0x110 → field o n fwImage = field o n fwHead := fun o n hn => by rw [field, field, hs o n hn]
  have hbody : slice 0x110 4096 fwImage = zeroBytes 4096 := by
    rw [slice, fwImage, List.drop_append_of_le_length (by omega), List.drop_of_length_le (by omega), List.nil_append]
    exact List.take_of_length_le (l := zeroBytes 4096) (Nat.le_of_eq List.length_replicate)
  have hsize : byteAt 6 fwImage / 2 ^ configCode s % 2 ≠ 0 := by
    rw [hb 6 (by omega), h6]
    simp only [configCode, perSize]
    cases s.chip.size <;> decide
  have hc : fwHeaderCheck s fwImage = none := by
    simp [fwHeaderCheck, fwImage_ok.1, hsize, hs 0x50 96 (by omega), hs 0xB0 96 (by omega), ht 0xB0 (by omega), fwSignature.1, fwSignature.2, h]
  simp only [fwCheck, hc, fwImage_ok.2, hs 0x20 48 (by omega), hfd 0x18 4 (by omega), hfd 0x10 4 (by omega), h18, h10, hbody, fwBody_digest]
  simp
  omega

/-- In RESET with every island started and the fuses of the image's key. -/
def booting : State := started { State.reset with chip := { State.reset.chip with fwKeyHash := fwKeyHash } }

theorem booting_chooses (s : State) (h : s.chip.fwKeyHash = fwKeyHash) (hd : s.chip.fwDefault = 0) :
    bootChoice s none [.image fwImage] = some (none, 0, fwImage) := by
  have hc : candidates s none = [(none, 0)] := by simp [candidates, hd]
  have hf : b1Floor blankBlock1 ≤ 3 := by decide +kernel
  simp only [bootChoice, hc, List.zip_cons_cons, List.zip_nil_left, List.findSome?, Option.getD_none, fwImage_passes s h _ hf]

/-- A block 1 whose slot A, at 0, is active while the other one is on trial, and a core in which that trial has had its run. -/
def trialBlock : Bytes := sealBlock (putAt 7 [1] blankBlock1)
def afterTrial : State := { booting with ao := { booting.ao with trialRun := true } }

theorem afterTrial_chooses : bootChoice afterTrial (some trialBlock) [.image fwImage] = some (some false, 0, fwImage) := by
  have hc : candidates afterTrial (some trialBlock) = [(some false, 0), (some true, 0), (none, 0)] := by decide +kernel
  have hf : b1Floor trialBlock ≤ 3 := by decide +kernel
  simp only [bootChoice, hc, List.zip_cons_cons, List.zip_nil_right, List.findSome?, Option.getD_some, fwImage_passes afterTrial rfl _ hf]

theorem witness_FirmwareStartsTheCore_fallback :
    afterTrial.modes.mode = .reset ∧ (islandAt afterTrial 1).state = .running ∧ afterTrial.chip.retired = false ∧
    (islandAt afterTrial (islandOf afterTrial 4 0)).state = .running ∧ afterTrial.modes.authenticated = false ∧
    afterTrial.chip.vaultKey.isSome = true ∧ (some trialBlock).filter block1Ok = some trialBlock ∧ fallsBack afterTrial (some trialBlock) = true ∧
    islandsStarted afterTrial = true ∧ bootChoice afterTrial (some trialBlock) [.image fwImage] = some (some false, 0, fwImage) :=
  ⟨by decide +kernel, by decide +kernel, by decide +kernel, by decide +kernel, by decide +kernel, by decide +kernel, by decide +kernel,
    by decide +kernel, by decide +kernel, afterTrial_chooses⟩

theorem witness_FirmwareStartsTheCore :
    (let s := { booting with chip := { booting.chip with retired := true } }
     s.modes.mode = .reset ∧ (islandAt s 1).state = .running ∧ s.chip.retired = true) ∧
    booting.modes.mode = .reset ∧ (islandAt booting 1).state = .running ∧ booting.chip.retired = false ∧
    (islandAt booting (islandOf booting 4 0)).state = .running ∧ booting.modes.authenticated = false ∧
    (bootChoice booting none [.image fwImage] = some (none, 0, fwImage) ∧ islandsStarted booting = true) ∧
    (let s := setIsland 20 { islandAt booting 20 with state := .off } booting
     s.modes.mode = .reset ∧ (islandAt s 1).state = .running ∧ s.chip.retired = false ∧ (islandAt s (islandOf s 4 0)).state = .running ∧
      s.modes.authenticated = false ∧ bootChoice s none [.image fwImage] = some (none, 0, fwImage) ∧ islandsStarted s = false) ∧
    bootChoice booting none [] = none ∧ booting.modes.fwRetryAt = none ∧
    (let s := { booting with modes := { booting.modes with fwRetryAt := some 0 } }; s.modes.fwRetryAt = some 0 ∧ 0 ≤ now s) := by
  refine ⟨by decide +kernel, by decide +kernel, by decide +kernel, by decide +kernel, by decide +kernel, by decide +kernel,
    ⟨booting_chooses booting (by decide +kernel) (by decide +kernel), by decide +kernel⟩,
    ⟨by decide +kernel, by decide +kernel, by decide +kernel, by decide +kernel, by decide +kernel,
      booting_chooses _ (by decide +kernel) (by decide +kernel), by decide +kernel⟩,
    by decide +kernel, by decide +kernel, by decide +kernel⟩

/-- 512 released bytes, with every source contributing. -/
def released (s : State) : State :=
  sourced (testing .contrib) { s with rng := { s.rng with bits := List.replicate 512 { since := 0, byte := 0x5A } } }
/-- A DRBG seeded. -/
def seeded (s : State) : State := { s with rng := { s.rng with drbg := some (zeroBytes 32, zeroBytes 16) } }

theorem witness_SeedsAndGeneration :
    (let s := { up .factory with chip := { op.chip with condKey := none } }
     s.chip.condKey = none ∧ s.modes.mode = .factory ∧ s.rng.bits = [] ∧ { op with chip := s.chip }.modes.mode ≠ .factory) ∧
    (let s := released op
     rngRuns s.modes.mode = true ∧ s.rng.state ≠ .failed ∧ 1 ≤ contribCount s ∧ s.rng.waiting = [] ∧ 512 ≤ s.rng.bits.length ∧
      fourRelease s = true ∧ s.rng.drbg = none ∧ s.rng.state = .starting ∧ RngCheck.parity ≠ .passed ∧ s.chip.condKey.isSome = true) ∧
    (let s := released (seeded { op with rng := { op.rng with state := .stalled, dueAt := some 0 } })
     s.rng.state ≠ .failed ∧ 1 ≤ contribCount s ∧ s.rng.waiting = [] ∧ 512 ≤ s.rng.bits.length ∧ fourRelease s = true ∧
      s.rng.drbg = some (zeroBytes 32, zeroBytes 16) ∧ s.rng.dueAt.isSome = true ∧ s.chip.condKey.isSome = true) ∧
    (let s := seeded op
     s.rng.drbg = some (zeroBytes 32, zeroBytes 16) ∧ rngRuns s.modes.mode = true ∧ s.rng.buffer.length + 4096 ≤ 65536 ∧ s.rng.waiting = []) := by
  decide +kernel

/-- A take that waits for random bytes. -/
def aTake (ph : TakePhase) : Take :=
  { id := 5, tenant := 0, reel := 0, dailies := 0, index := 0, seqNo := 0, userTag := 0, clapper := false, crcFlag := false, program := [],
    seq := some 0, pc := 0, stage := [], keys := List.replicate 16 none, loops := [], flag := false, count := 0, crc := 0, result := none,
    lastOk := false, phase := ph, todo := [], buffer := [], reads := 0, writes := 0, parked := none, op := none, record := [], cursor := 0,
    runs := 0, ending := false, dailySince := none, fenceSeq := false, used := [] }

theorem witness_ReseedsAndRngRegisters :
    (let s := later 20000 (seeded { op with rng := { op.rng with state := .ready } })
     mayFallDue s = true ∧ s.rng.reseedAt + periodMicros s ≤ now s ∧ reaches .manager 0x05000 s ∧ s.rng.state = .ready ∧ s.rng.dueAt = none) ∧
    (let s := later 100000 { op with rng := { op.rng with state := .ready, dueAt := some 0 } }
     s.rng.dueAt = some 0 ∧ 0 + 100000 ≤ now s ∧ rngRuns s.modes.mode = true ∧ s.rng.state = .ready) ∧
    (let s := later 100000 { op with
        takes := [aTake .waitRandom], rng := { op.rng with waiting := [{ who := .take 5, bytes := 4, pr := false, asked := 0 }] } }
     s.rng.waiting = [{ who := .take 5, bytes := 4, pr := false, asked := 0 }] ∧ 0 + 100000 ≤ now s ∧ takeOf s 5 = some (aTake .waitRandom) ∧
      (aTake .waitRandom).phase = .waitRandom) ∧
    (let s := unlocked op
     lockOpen .manager s ∧ 4 ≤ healthyCount s ∧ s.rng.state ≠ .failed ∧ reaches .manager 0x05000 s ∧ restartMode s.modes.mode = true ∧
      reaches .manager 0x05010 s ∧ reaches .manager 0x05018 s) ∧
    (let s := unlocked (up .factory)
     lockOpen .manager s ∧ 4 ≤ healthyCount s ∧ s.rng.state ≠ .failed ∧ reaches .manager 0x05000 s ∧ s.modes.mode = .factory ∧ s.rng.pattern ≠ true) := by
  decide +kernel

/-- Baselines of 1,000 on every channel. -/
def measured (s : State) : State := { s with ao := { s.ao with baseline := List.replicate 8 1000 } }

theorem witness_TamperCommands :
    (let s := measured op
     s.ao.meshFault.getD 7 0 = 0 ∧ drifts s 7 1301 30 = true ∧ s.modes.mode ∉ [Mode.hold, .struck, .retired] ∧ drifts s 0 849 15 = true ∧
      (setResist 0 849 s).ao.meshDrift.getLsbD 0 = false ∧ s.modes.mode ≠ .hold ∧ drifts s 0 850 15 = false) ∧
    (let s := { measured op with ao := { (measured op).ao with meshDrift := 1 } }
     drifts s 0 849 15 = true ∧ (setResist 0 849 s).ao.meshDrift.getLsbD 0 = true ∧ (setResist 0 850 s).ao.meshDrift.getLsbD 0 = false) ∧
    (let s := measured (up .hold); s.ao.meshFault.getD 0 0 = 0 ∧ MeshFault.openLine ≠ .drift ∧ s.modes.mode = .hold) ∧
    responseTo (.temperature 3) (judged (.temperature 3) 0 (setSensor (.temperature 3) 0 op)) = .none ∧
    (responseTo .light (judged .light 3001 (setSensor .light 3001 op)) = .warn ∧ responseTo .light (judged .light (sensorValue .light op) op) ≠ .warn) ∧
    (responseTo .vddCore (judged .vddCore 689 (setSensor .vddCore 689 op)) = .guard ∧ op.modes.guardHeld = false) ∧
    responseTo .vddAo (judged .vddAo 951 (setSensor .vddAo 951 op)) = .strike ∧
    { op with modes := { op.modes with guardHeld := true } }.modes.guardHeld = true ∧
    (let s := { op with ao := { op.ao with strikeOut := some 0, time := 10 } }; s.ao.strikeOut = some 0 ∧ 0 + 10 ≤ s.ao.time) ∧
    (let s := { up .retired with ao := { op.ao with strikeFlag := true } }
     s.ao.strikeFlag = true ∧ s.ao.verified = false ∧ (s.modes.mode = .struck ∨ s.modes.mode = .retired)) ∧
    (reaches .manager 0x07128 (unlocked (up .factory)) ∧ lockOpen .manager (unlocked (up .factory))) ∧
    ({ op with ao := { op.ao with enrolling := true } }.ao.enrolling = true ∧ (List.replicate 8 (3 : BitVec 16)).length = 8) := by decide +kernel

/-- A take-up of the image at 0 by the MP, with the bytes it has read. -/
def readingFw (got : Bytes) (s : State) : State :=
  { s with chip := { s.chip with fwKeyHash := fwKeyHash }, fw := { s.fw with run := some (.reading 0 got) } }

theorem witness_StageAndConfirmWriteBlockOne :
    bits 0 8 (0x101 : Word) = 1 ∧
    (let s := unlocked (up .factory)
     reaches .manager 0x07200 s ∧ lockOpen .manager s ∧ s.fw.run = none ∧ stageMode s.modes.mode = false ∧ s.ao.trialRun = false) ∧
    (let s := unlocked { op with fw := { op.fw with arg := 1 } }
     reaches .manager 0x07200 s ∧ lockOpen .manager s ∧ s.fw.run = none ∧ stageMode s.modes.mode = true ∧ s.fw.arg.toNat % 4096 ≠ 0) ∧
    (let s := unlocked (started op)
     reaches .manager 0x07200 s ∧ lockOpen .manager s ∧ s.fw.run = none ∧ stageMode s.modes.mode = true ∧ s.fw.arg.toNat % 4096 = 0 ∧
      managementUp s = true ∧ (∀ r ∈ allRequests s, r.purpose ≠ .imageRead) ∧ issuable false s.fw.arg s = true) ∧
    (let s := readingFw [] (started op)
     s.fw.run = some (.reading 0 []) ∧ managementUp s = true ∧ (∀ r ∈ allRequests s, r.purpose ≠ .imageRead) ∧
      ([] : Bytes).length < imageWanted [] ∧ issuable false (0 + BitVec.ofNat 64 ([] : Bytes).length) s = true) ∧
    (let s := readingFw (zeroBytes 0x110) (started op)
     s.fw.run = some (.reading 0 (zeroBytes 0x110)) ∧ managementUp s = true ∧ (∀ r ∈ allRequests s, r.purpose ≠ .imageRead) ∧
      imageWanted (zeroBytes 0x110) ≤ (zeroBytes 0x110).length ∧
      fwCheck s 0 (b1Floor (block1Of s)) (.image (zeroBytes 0x110)) = .error stBlobInvalid) ∧
    (let s := readingFw fwImage (started op)
     s.fw.run = some (.reading 0 fwImage) ∧ managementUp s = true ∧ (∀ r ∈ allRequests s, r.purpose ≠ .imageRead) ∧
      imageWanted fwImage ≤ fwImage.length ∧ fwCheck s 0 (b1Floor (block1Of s)) (.image fwImage) = .ok fwImage ∧ vaultIdle s) ∧
    (let s := unlocked { op with ao := { op.ao with trialRun := true } }
     reaches .manager 0x07200 s ∧ lockOpen .manager s ∧ s.fw.run = none ∧ s.ao.trialRun = true ∧ vaultIdle s) := by
  refine ⟨by decide, by decide +kernel, by decide +kernel, by decide +kernel, by decide +kernel,
    ⟨rfl, by decide +kernel, by decide +kernel, by decide +kernel, rfl⟩,
    ⟨rfl, by decide +kernel, by decide +kernel, ?_, fwImage_passes _ rfl _ (by decide +kernel), ?_⟩,
    by unfold vaultIdle; decide +kernel⟩
  · rw [imageWanted]
    have h := fwImage_ok
    have hl : ¬fwImage.length < 0x110 := by rw [h.2, fwLength]; omega
    rw [if_neg hl, if_pos h.1, h.2] <;> exact Nat.le_refl _
  · unfold vaultIdle; exact ⟨rfl, rfl, rfl, rfl⟩

/-- An officer statement with COUNTER 0 for the core of the private key 1, and its signature under `officerSigner`. -/
def officerStatement : Bytes := toBe 256 0x5437534f000000000000000000000000a19d4db171b582eb8052b0cfe555e17894aa22d1c8a9770950697dd8f796d2fa4bf0a56ad80006b7ea08e1191f814b65000000000000000000000000000000000000000000000000000000000000000000000000000000000000000000000000000000000000000000000000000000000000000000000000000000000000000000000000000000000000000000000001a77decd4ea39b3540e3b045bf69886d2695c9178a7df6c57cc2b462f28b9ff10398964f638aa6831d75a64f5cd721fb3a77decd4ea39b3540e3b045bf69886d2695c9178a7df6c57cc2b462f28b9ff10398964f638aa6831d75a64f5cd721fb3

/-- The key it verifies under. -/
def officerSigner : Bytes := toBe 96 0xb4e2cc95ae83e6d2ce5899bb8d4a23bdf71235f6c2b3ed7beec658cb4f9e836accb493018f847241ab3cbdd55b9f4b17c64fdaa3239778ba7b540f7ce3f7b614bbe927f2ee2813c83694ee73636fa6a573c738e357306da69a8999ed872cbff1

/-- A challenge. -/
def aChallenge : Bytes := toBe 128 0x0000000000000000000000000000000000000000000000000000000000000000000000000000000000000000000000000000000000000000000000000000000000000000000000000000000000000000000000000000000000000000000000000000000000000000000000000000000000000000000000000000000000000000

/-- A key. -/
def responder : Bytes := toBe 96 0x52312adf777e72d17b62692457a03e79e812b8d12874d9892fb25574764c191453a28d904a5cf0e7d405b2c79fc4a1a1448c3080d21107d03a16b645ceffceae9ed8d6b73676323c81f6d7d8b17225bccc7d83d651d8f5d522f181227f1d856c

/-- The signature of the challenge under it. -/
def responseSig : Bytes := toBe 96 0xf809b88323411f24a6f152e5e9d9d1b5466b77e0f3c7550f8b242c31b6e7b99bcb45bdecb6124bc23283db3b9fc4f5b3f809b88323411f24a6f152e5e9d9d1b5466b77e0f3c7550f8b242c31b6e7b99bcb45bdecb6124bc23283db3b9fc4f5b3

/-- A KUM that erases slot 2, COUNTER 0, with its signature under `eraseSigner`. -/
def eraseKum : Bytes := toBe 208 0x010004000000000400000000000000000200000000000000000000000000000000000000000000000000000000000000a19d4db171b582eb8052b0cfe555e17894aa22d1c8a9770950697dd8f796d2fa4bf0a56ad80006b7ea08e1191f814b65000000000000000000000000000000007ec1ab8b4ba02bebb83d0eee0a5b34ef9c26510db55d62cd371cae51339837eb383fa72ecc909c80ff9def6eaf94e5e37ec1ab8b4ba02bebb83d0eee0a5b34ef9c26510db55d62cd371cae51339837eb383fa72ecc909c80ff9def6eaf94e5e3

/-- The key it verifies under. -/
def eraseSigner : Bytes := toBe 96 0xb83928f14409a7c4612d00094a209be92036eabbcbeb21589ceb2dd353032eeb2d7a245f33bf263ff26521261dc6332071c4a38650c5556dda4366c96eb5719026f495371d55e4799a1afc61f7f50f4bfd0113c2ada7fb1814df4b9e7ac96d2d

/-- A KUM that takes every usage from slot 2, COUNTER 0, with its signature under `attributesSigner`. -/
def attributesKum : Bytes := toBe 208 0x010003000000000400000000000000000200000000000000000000000000000003000000000000000000000000000000a19d4db171b582eb8052b0cfe555e17894aa22d1c8a9770950697dd8f796d2fa4bf0a56ad80006b7ea08e1191f814b6500000000000000000000000000000000beddd4f18a093b5039e636708f1258e45d200ef3ab6e0115df823d540e431a80ae96a733f20b38a762465021f66a80cdbeddd4f18a093b5039e636708f1258e45d200ef3ab6e0115df823d540e431a80ae96a733f20b38a762465021f66a80cd

/-- The key it verifies under. -/
def attributesSigner : Bytes := toBe 96 0x72cba8d9c3b2c2701b2b2bb27e00515ca69b991400a6598b91e63604d6103cdc795d9cf36c78f553e2a370edd0f8b23b07d55d1e56b6dba544b62128d9e06eb75ec25e20284b111a8668e27322f5caf76049f62564a3170d431dcc029bda816a

/-- An ACTIVE system key of class P-384 public in slot 0, with usage UPDATE_AUTHORITY. -/
def authority (key : Bytes) (s : State) : State :=
  setSlot 1 { Slot.reset with owner := 0x400, cls := 0x25, cont := true, state := .active, share := key.drop 56 }
    (setSlot 0 { Slot.reset with
      owner := 0x400, cls := 0x25, size := 1, usage := 0x2000000, state := .active, keyBytes := 96, share := key.take 56, scope := 0x7FF } s)

/-- A mailbox command whose input has come. -/
def access (run : AcRun) (b : Bytes) (s : State) : State :=
  { s with access := { s.access with run := some run, input := b ++ zeroBytes 8, inLen := b.length } }

theorem witness_PasswordAndOfficerWriteBlockOne :
    (let s := access .password [] (up .ceremony)
     acComplete s = true ∧ s.modes.mode = .ceremony ∧ vaultIdle s ∧ s.access.run = some .password ∧ s.access.inLen = 0) ∧
    (let s := access .password (ascii "password") (drawing 16 (up .ceremony))
     acComplete s = true ∧ s.modes.mode = .ceremony ∧ vaultIdle s ∧ s.access.run = some .password ∧ s.access.inLen ≠ 0 ∧
      s.access.salt = none ∧ rngServes s = true ∧ s.rng.waiting = [] ∧ 16 ≤ s.rng.buffer.length) ∧
    (let s := access .password (ascii "password") (up .ceremony)
     acComplete s = true ∧ s.modes.mode = .ceremony ∧ vaultIdle s ∧ s.access.run = some .password ∧ s.access.inLen ≠ 0 ∧
      s.access.salt = none ∧ rngServes s = false ∧ rngFailed s = false ∧ (∀ r ∈ s.rng.waiting, r.who ≠ .password)) ∧
    (let s := access .officer officerStatement (authority officerSigner { up .ceremony with vault := { op.vault with ceiling := 1 } })
     acComplete s = true ∧ s.modes.mode = .ceremony ∧ vaultIdle s ∧ s.access.run = some .officer ∧ officerCheck s (officerInput s) = none ∧
      ceilingFor s ((field 8 8 (officerInput s) + 1) % 2 ^ 64) = none) ∧
    (let s := access .officer [] (up .ceremony)
     acComplete s = true ∧ s.modes.mode = .ceremony ∧ vaultIdle s ∧ s.access.run = some .officer ∧
      officerCheck s (officerInput s) = some stBlobInvalid) := by
  unfold vaultIdle; decide +kernel

/-- A block 1 with an officer's key. -/
def officerBlock (key : Bytes) : Bytes := putAt 0x20 (sha384 key) blankBlock1

/-- In STRUCK, with a challenge that has an hour left. -/
def challenged (s : State) : State :=
  { s with
    chip := { s.chip with maintKeyHash := sha384 responder }, fw := { s.fw with block1 := some (officerBlock responder) },
    access := { s.access with challenge := some aChallenge, expires := 3600000000 } }

theorem witness_ChallengeAndResponse :
    (let s := unlocked { up .struck with ao := { op.ao with verified := true } }
     reaches .manager 0x07300 s ∧ lockOpen .manager s ∧ s.access.run = none ∧ challengeAllowed s = true) ∧
    (let s := unlocked op; reaches .manager 0x07300 s ∧ lockOpen .manager s ∧ s.access.run = none ∧ challengeAllowed s = false) ∧
    (let s := access .response (responder ++ responseSig ++ responder ++ responseSig) (challenged (up .struck))
     s.access.run = some .response ∧ acComplete s = true ∧ responseCheck s (acInput s) = none) ∧
    (let s := access .response (zeroBytes 384) (challenged (up .struck))
     s.access.run = some .response ∧ acComplete s = true ∧ responseCheck s (acInput s) = some stOwnerMismatch ∧ s.access.challenge.isSome = true) ∧
    (let s := later 3600000000 (challenged (up .struck)); s.access.challenge.isSome = true ∧ s.access.expires ≤ now s) ∧
    (let s := { up .struck with access := { op.access with refusedUntil := some 0 } }; s.access.refusedUntil = some 0 ∧ 0 ≤ now s) := by
  decide +kernel

/-- A console payload in its frame, on a core with an open session or none. -/
def said (p : Bytes) (s : State) : Prop := consoleUp s = true ∧ consolePayload (consoleFrame p) = some p

/-- With a diagnostic session open. -/
def inSession (s : State) : State := { s with access := { s.access with diag := some 0 } }

theorem witness_ConsoleServesAnOpenSession :
    (said ([0x10] ++ ascii "password") (started op) ∧ diagLocked (started op) = false ∧
      passwordOk (started op) (ascii "password") = false) ∧
    (let p : Bytes := [0x11] ++ toLe 4 0x7000 ++ [16]
     said p (inSession (started op)) ∧ (inSession (started op)).access.diag.isSome = true ∧ p.length = 6 ∧ 1 ≤ byteAt 5 p ∧ byteAt 5 p ≤ 16 ∧
      ((List.range (byteAt 5 p)).map fun i => field 1 4 p + 8 * i).all diagReadable = true) ∧
    (let p : Bytes := [0x12] ++ toLe 8 1 ++ [32]
     said p (inSession (started op)) ∧ (inSession (started op)).access.diag.isSome = true ∧ p.length = 10 ∧ 1 ≤ byteAt 9 p ∧ byteAt 9 p ≤ 32) ∧
    (said [0x11] (started op) ∧ said [0x12] (started op) ∧ (started op).access.diag = none ∧ said [0x13] (started op)) ∧
    (let s := later 1800000000 (inSession op); s.access.diag = some 0 ∧ 0 + 1800000000 ≤ now s) ∧
    (let s := { op with ao := { op.ao with lockedUntil := some 0 } }; s.ao.lockedUntil = some 0 ∧ 0 ≤ s.ao.time) := by
  unfold said; decide +kernel

/-- The remaining hypothesis of DIAG_OPEN, a password that opens the session. A verifier is 4,096 steps of SHA-256, too long to evaluate here: a
password of permitted length opens a session wherever block 1 holds its verifier, unless that verifier is zero (which 15 R429 has stand for no
password). -/
theorem witness_password (salt password : Bytes) (hs : salt.length = 16) (hp : passwordLen password.length = true)
    (hv : (verifierOf salt password).length = 16) (hz : allZero (verifierOf salt password) = false) :
    passwordOk { started op with fw := { op.fw with block1 := some (zeroBytes 0x50 ++ (salt ++ verifierOf salt password)) } } password = true := by
  have h1 : b1Salt (zeroBytes 0x50 ++ (salt ++ verifierOf salt password)) = salt := by
    rw [b1Salt, slice, List.drop_append_of_le_length (by simp [zeroBytes]), List.drop_of_length_le (by simp [zeroBytes]),
      List.nil_append, List.take_append_of_le_length (by omega), List.take_of_length_le (by omega)]
  have h2 : b1Verifier (zeroBytes 0x50 ++ (salt ++ verifierOf salt password)) = verifierOf salt password := by
    rw [b1Verifier, slice, ← List.append_assoc, List.drop_append_of_le_length (by simp [zeroBytes, hs]),
      List.drop_of_length_le (by simp [zeroBytes, hs]), List.nil_append, List.take_of_length_le (by omega)]
  simp [passwordOk, block1Of, h1, h2, hp, hz]

/-- A package with no slot record for the core of the private key 1, and its signature under `packageSigner`. -/
def aPackage : Bytes := toBe 504 0x54375450010000000000000000000000000000000000000000000000000000000000000000000000000000000000000000000000000000000000000000000000a19d4db171b582eb8052b0cfe555e17894aa22d1c8a9770950697dd8f796d2fa4bf0a56ad80006b7ea08e1191f814b65aa87ca22be8b05378eb1c71ef320ad746e1d3b628ba79b9859f741e082542a385502f25dbf55296c3a545e3872760ab73617de4a96262c6f5d9e98bf9292dc29f8f41dbd289a147ce9da3113b5f0b8c00a60b1ce1d7e819d7a431d7c90ea0e5f000000000000000000000000000000000000000000000000000000000000000000000000000000000000000000000000000000000000000000000000000000000000000000000000000000000000000000000000000000000000000000000000000000000000000000000000000000000000000000000000000000000000000000000000000000000000000000000000000000000000000000000000000000000000000000000000000000000000000000000000000000004f15835aa0b725df4978aeb043747dfd64348a81b837f3a6c51404294346d8c0c848ca53970e183a21e410426021ba50132cffb1ba922316f0a1766c3e4a44b264348a81b837f3a6c51404294346d8c0c848ca53970e183a21e410426021ba50132cffb1ba922316f0a1766c3e4a44b2

/-- The key it verifies under. -/
def packageSigner : Bytes := toBe 96 0xe9bc882ddf41261462c229b2a554023dc4725083d8c8220d3709e13ad342de44b0ae9d7ba1eced6e5f2fea8ee4531e0699bcf8cc5e1c14a9c65854cc18f68a2a73edc2bbba64e45e776777da0b8c0fd7efaeac2031d726ffadb331f1a297f6df

/-- The sealed image of an empty store (08 Table 8.15) under the keys that log 20 chooses. -/
def anImage : Bytes := toBe 112 0x5437534901000000000000000000000000000000000000000000000000000000a19d4db171b582eb8052b0cfe555e17894aa22d1c8a9770950697dd8f796d2fa4bf0a56ad80006b7ea08e1191f814b6500000000000000000000000000000000002479cb6f6e59fb1b5105b1fffb8fea

/-- The MAC of the answer with status 0. -/
def macOk : Bytes := toBe 32 0xffdc8e9b2235ea791abfdc02834099268fa82b531ae9767fba99e1be9909a1ae

/-- The MAC of the answer with status 5. -/
def macBusy : Bytes := toBe 32 0x542929cec5858a1fb6c0c7c543cd0879e529bfa23e100563a2bc7ecdcae8fd1e

/-- A check that passes with an answer of some kind. -/
theorem ok_any {ε α : Type} {x : Except ε α} (p : α → Bool) (h : (match x with | .ok a => p a | .error _ => false) = true) : ∃ a, x = .ok a ∧ p a = true := by
  cases x with
  | ok a => exact ⟨a, rfl, h⟩
  | error e => simp at h

/-- A check that fails. -/
theorem error_any {ε α : Type} {x : Except ε α} (h : (match x with | .ok _ => false | .error _ => true) = true) : ∃ e, x = .error e := by
  cases x with
  | ok a => simp at h
  | error e => exact ⟨e, rfl⟩

/-- A check without an answer that passes. -/
theorem ok_unit {ε : Type} {x : Except ε Unit} (h : (match x with | .ok _ => true | .error _ => false) = true) : x = .ok () := by
  cases x with
  | ok a => rfl
  | error e => simp at h

/-- A vault request outstanding. -/
def requested (why : VaultWhy) (again : Bool) (s : State) : State :=
  { s with vault := { s.vault with outstanding := some {
      why := why, message := vaultMessage (zeroBytes 32) 2 1 0 (zeroBytes 16) (zeroBytes 128), reissued := again, sentAt := 0 } } }
/-- A change of the floor. -/
def floorChange : VaultChange := { VaultChange.none with floor := some 9 }
/-- The vault's answer to it, with a status and its MAC. -/
def answer (status : Nat) (mac : Bytes) : Bytes := [0x82] ++ toLe 1 status ++ [1, 0] ++ toLe 4 1 ++ zeroBytes 144 ++ mac

/-- Whether an answer matches a request outstanding at a state, with its status. -/
def matched (s : State) (m : Bytes) (status : Nat) : Bool :=
  s.vault.outstanding.any fun r => vaultMacOk s m && vaultMatches r m && decide (byteAt 1 m = status) && vaultCountOk r m

theorem answer_matches : matched (requested (.writeRecord floorChange) false op) (answer 0 macOk) 0 = true ∧
    matched (requested (.writeRecord floorChange) false op) (answer 5 macBusy) 5 = true := by decide +kernel

theorem witness_VaultAnswersAndTimeouts :
    (∀ why again, let s := requested why again op
      managementRuns s.modes.mode = true ∧ s.vault.queued = VaultChange.none ∧ s.vault.block1 = [] ∧ s.chip.vaultKey.isSome = true ∧
      floorChange.waiters = [] ∧ floorChange.member = none ∧ matched s (answer 0 macOk) 0 = true ∧ matched s (answer 5 macBusy) 5 = true ∧ vaultMacOk s [] = false) ∧
    (let s := { requested (.writeBlock1 .stage) false op with fw := { op.fw with run := some (.staging 4096 3) } }
     s.fw.run = some (.staging 4096 3) ∧ matched s (answer 0 macOk) 0 = true) ∧
    (let s := later 100000 (requested (.writeRecord floorChange) true op)
     managementRuns s.modes.mode = true ∧ s.vault.outstanding.all (fun r => decide (r.sentAt + 100000 ≤ now s ∧ r.reissued = true)) = true) := by
  refine ⟨fun why again => ⟨rfl, rfl, rfl, rfl, rfl, rfl, answer_matches.1, answer_matches.2, rfl⟩, ⟨by decide +kernel, answer_matches.1⟩, by decide +kernel⟩

/-- A call sheet with a share of every unit. -/
def aSheet : Sheet :=
  { Sheet.reset with
    weight := 1, budget := 64, parkTimeout := 1000, reels := 2, dailies := 2, slotBase := 0x40, slots := 4, seqMax := 4, laneMax := 4,
    digestMax := 2, pkMax := 2, shMax := 1, shielded := true, pages := 8, bitmapA := 0x10000, bitmapB := 0x20000, region := 0x100000 }
/-- A tenant of function 0 in a state. -/
def tenant (st : TenantState) : Tenant := { Tenant.reset with state := st, sheet := aSheet, round := aSheet.shares }
/-- With that tenant. -/
def holding (t : Tenant) (s : State) : State := { s with tenants := [(0, t)] }
/-- With that call sheet in the mailbox. -/
def offered (s : State) : State :=
  { s with sheets := { s.sheets with data := sheetBytes 0 (tenant .free), key := unitPublic } }
/-- The Manager at the call-sheet mailbox. -/
def atSheets (s : State) : Prop := reaches .manager 0x03000 s ∧ lockOpen .manager s ∧ s.sheets.busy = false ∧ tablesOk s = true

theorem witness_CallSheetCommands :
    (atSheets (unlocked op) ∧ csCheck (unlocked op) 6 0x7FF = some (stOwnerMismatch, 3)) ∧
    (let s := unlocked (offered op); atSheets s ∧ csCheck s 1 0 = none) ∧
    (let s := unlocked (offered (holding (tenant .running) op)); atSheets s ∧ csCheck s 2 0 = none ∧ csCheck s 3 0 = none ∧ csCheck s 6 0 = none) ∧
    (let s := unlocked (holding (tenant .paused) op); atSheets s ∧ csCheck s 4 0 = none ∧ csCheck s 5 0 = none) ∧
    (let s := unlocked { op with keys := { op.keys with importedSheet := some (0, zeroBytes 128) } }
     atSheets s ∧ csCheck s 7 0 = none ∧ s.keys.importedSheet = some (0, zeroBytes 128)) := by
  unfold atSheets; decide +kernel

theorem witness_PauseEndsAndLogging :
    (let s := holding (tenant .pausing) op
     tablesOk s = true ∧ pairs s.modes.mode = true ∧ (tenantOf s 0).state = .pausing ∧ tenantIdle s 0 = true ∧ flushTenant 0 s = s ∧
      tenantFlushed s 0 = true ∧ (tenantOf s 0).removing = false) ∧
    (let s := holding (tenant .running) op
     tablesOk s = true ∧ pairs s.modes.mode = true ∧ reaches .manager 0x09000 s ∧ s.sheets.closing = none ∧ (tenantOf s 0).state ≠ .free ∧
      (tenantOf s 0).logging = false ∧ (tenantOf s 0).sheet.pages ≠ 0 ∧ (tenantOf s 0).sheet.bitmapA ≠ 0 ∧ (tenantOf s 0).sheet.bitmapB ≠ 0 ∧
      (tenantOf s 1).state = .free) ∧
    (let s := holding { tenant .running with logging := true } op
     tablesOk s = true ∧ reaches .manager 0x09000 s ∧ s.sheets.closing = none ∧ (tenantOf s 0).logging = true ∧ (tenantOf s 0).marks = [] ∧
      closingOut s 0 = false) := by decide +kernel

/-- A command of the key mailbox whose input has come. -/
def updating (run : KmRun) (b : Bytes) (s : State) : State :=
  { s with keys := { s.keys with run := some run, input := b ++ zeroBytes 8, inLen := b.length } }
/-- With an ACTIVE system key in slot 2, and a ceiling that leaves room. -/
def keyed (s : State) : State :=
  setSlot 2 { Slot.reset with owner := 0x400, cls := 0x25, usage := 0x2000000, state := .active, keyBytes := 40, share := zeroBytes 40 }
    { s with vault := { s.vault with ceiling := 1 } }
/-- A KUM in the mailbox as the checks read it. -/
def kumBytes (s : State) : Bytes := fit (max 0x70 s.keys.inLen) (kmInput s)
/-- The KUM of Tests that erases slot 2, and the one that narrows it. -/
def erasing : State := updating .kum eraseKum (authority eraseSigner (keyed op))
/-- The other one. -/
def narrowing : State := updating .kum attributesKum (authority attributesSigner (keyed op))

/-- A KUM that has passed: the erasure of slot 2, or a roster KUM of that content. -/
def aCheck (roster : Bool) : Checked :=
  { kind := 3, counter := 0, slot := 2, entry := Slot.reset, material := [], auth := 0, roster := roster, waiting := false }

theorem witness_KumIsCheckedThenCommitted :
    (let s := updating .kum [] op; s.keys.run = some .kum ∧ kmComplete s = true ∧ ∃ e, kumEarly s (kumBytes s) = .error e) ∧
    (let s := updating .kum eraseKum (keyed op)
     s.keys.run = some .kum ∧ kmComplete s = true ∧ kumEarly s (kumBytes s) = .ok () ∧ ∃ e, kumLate s (kumBytes s) = .error e) ∧
    (narrowing.keys.run = some .kum ∧ kmComplete narrowing = true ∧ kumEarly narrowing (kumBytes narrowing) = .ok () ∧
      ∃ c, kumLate narrowing (kumBytes narrowing) = .ok c ∧ (!kumFloors narrowing c && (ceilingFor narrowing ((c.counter + 1) % 2 ^ 64)).isNone) = true) ∧
    (erasing.keys.run = some .kum ∧ kmComplete erasing = true ∧ kumEarly erasing (kumBytes erasing) = .ok () ∧ vaultIdle erasing ∧
      (∃ c, kumLate erasing (kumBytes erasing) = .ok c ∧ kumFloors erasing c = true) ∧ groupAt erasing 2 = true ∧
      (kumReads (kumBytes erasing)).contains 2 = true) ∧
    (∀ c ∈ [aCheck false, aCheck true],
      let s := updating (.checked c) [] op
      s.keys.run = some (.checked c) ∧ c.waiting = false ∧ kumRepeats c s (kumStore c s) = c.roster ∧ kumHeldUp s c = false) ∧
    (byteAt 4 (kumBytes (updating .kum (zeroBytes 4 ++ [1]) (started op))) = 1 ∧ shieldedFree (updating .kum (zeroBytes 4 ++ [1]) (started op))) := by
  refine ⟨⟨by decide +kernel, by decide +kernel, error_any (by decide +kernel)⟩,
    ⟨by decide +kernel, by decide +kernel, ok_unit (by decide +kernel), error_any (by decide +kernel)⟩,
    ⟨by decide +kernel, by decide +kernel, ok_unit (by decide +kernel), ok_any _ (by decide +kernel)⟩,
    ⟨by decide +kernel, by decide +kernel, ok_unit (by decide +kernel), ?_, ok_any (kumFloors erasing) (by decide +kernel), by decide +kernel,
      by decide +kernel⟩, by decide +kernel, by decide +kernel, by unfold shieldedFree; decide +kernel⟩
  unfold vaultIdle; decide +kernel

theorem witness_KeyMailboxCommands :
    (reaches .manager 0x06000 op ∧ op.keys.run = none ∧ queryMode op.modes.mode = true ∧ bits 0 17 op.keys.arg < slotCount op ∧
      serves op.modes.mode = true ∧ vaultIdle op) ∧
    (let s := { op with chip := { op.chip with size := .small }, keys := { op.keys with arg := 0x1FFFF } }
     reaches .manager 0x06000 s ∧ s.keys.run = none ∧ queryMode s.modes.mode = true ∧ slotCount s ≤ bits 0 17 s.keys.arg) ∧
    (reaches .manager 0x06000 (up .maintenance) ∧ (up .maintenance).keys.run = none ∧ serves (up .maintenance).modes.mode = false) ∧
    (let s := { op with keys := { op.keys with run := some .kum, inLen := 1 } }
     reaches .manager 0x06010 s ∧ kmTakesInput s = true ∧ kmComplete s = false) ∧
    (let s := { op with keys := { op.keys with run := some .imageOut, output := zeroBytes 16 } }
     mgrReadable s = true ∧ portFull s = false ∧ (s.regs.held.any fun a => a.src = .manager) = false ∧ 8 < s.keys.output.length) ∧
    ((0x06014#20).toNat / 8 = 0xC02 ∧ (0x06014#20).toNat % 4 = 0 ∧ sizeOk .w64 (0x06014#20).toNat = false ∧ (0x00018#20).toNat % 8 = 0) ∧
    (let s := { op with keys := { op.keys with run := some .imageOut, output := zeroBytes 8 } }
     mgrReadable s = true ∧ s.keys.output ≠ [] ∧ s.keys.output.length ≤ 8 ∧ (s.keys.run = some .output ∨ s.keys.run = some .imageOut)) ∧
    storeRuns op.modes.mode = true := by unfold vaultIdle; decide +kernel

/-- SEALED, with an image in the mailbox. -/
def restoring : State := updating .imageRestore anImage (up .sealed)
/-- A package in the mailbox, with its source permitted for function 0. -/
def importing : State :=
  let s := holding (tenant .paused) (started op)
  updating .packageImport aPackage { s with keys := { s.keys with imports := [(0, packageSigner)] } }
/-- The Manager at the key mailbox. -/
def atKeys (s : State) : Prop := tablesOk s = true ∧ reaches .manager 0x06000 s ∧ s.keys.run = none ∧ serves s.modes.mode = true

theorem image_passes : ∃ r, imageCheck restoring (kmInput restoring) = .ok r ∧ r.1.isEmpty = true :=
  ok_any (x := imageCheck restoring (kmInput restoring)) (fun r => r.1.isEmpty) (by decide +kernel)
theorem package_passes : ∃ r, packageCheck importing (kmInput importing) = .ok r ∧ (r.1 == 0) = true :=
  ok_any (x := packageCheck importing (kmInput importing)) (fun r => r.1 == 0) (by decide +kernel)

theorem witness_ImagesPackagesAttestation :
    (atKeys op ∧ tableGet [] op.keys.migrate (bits 0 11 op.keys.arg) = []) ∧
    (let s := updating .imageRestore [] (up .sealed)
     tablesOk s = true ∧ s.keys.run = some .imageRestore ∧ kmComplete s = true ∧ s.modes.mode = .sealed ∧ ∃ e, imageCheck s (kmInput s) = .error e) ∧
    (tablesOk restoring = true ∧ restoring.keys.run = some .imageRestore ∧ kmComplete restoring = true ∧ restoring.modes.mode = .sealed ∧
      ∃ r, imageCheck restoring (kmInput restoring) = .ok r) ∧
    (let t := holding (tenant .paused) (drawing 1000 (started op))
     let s := { t with keys := { t.keys with migrate := [(0, unitPublic)] } }
     atKeys s ∧ tableGet [] s.keys.migrate (bits 0 11 s.keys.arg) ≠ [] ∧ (tenantOf s (bits 0 11 s.keys.arg)).state = .paused ∧
      (∀ u ∈ s.takes, u.tenant ≠ bits 0 11 s.keys.arg) ∧ rngServes s = true ∧ s.rng.waiting = [] ∧ 2 * scalarBytes p384 ≤ s.rng.buffer.length ∧
      s.units.idk = [] ∧ shieldedFree s) ∧
    (let s := updating .packageImport [] (started op)
     shieldedFree s ∧ s.keys.run = some .packageImport ∧ kmComplete s = true ∧ serves s.modes.mode = true ∧ ∃ e, packageCheck s (kmInput s) = .error e) ∧
    (tablesOk importing = true ∧ shieldedFree importing ∧ importing.keys.run = some .packageImport ∧ kmComplete importing = true ∧ serves importing.modes.mode = true ∧
      ∃ r, packageCheck importing (kmInput importing) = .ok r) ∧
    (let s := holding (tenant .running) op
     tablesOk s = true ∧ reachesTenant 0 s = true ∧ s.modes.mode ≠ .hold ∧ s.modes.mode ≠ .drowse ∧
      bits 0 17 (tenantOf s 0).attest.arg < (tenantOf s 0).sheet.slotBase) ∧
    (let s := holding { tenant .running with attest := { AttestBox.reset with arg := 0x43 } } op
     reachesTenant 0 s = true ∧ (tenantOf s 0).sheet.slotBase ≤ bits 0 17 (tenantOf s 0).attest.arg ∧
      bits 0 17 (tenantOf s 0).attest.arg < (tenantOf s 0).sheet.slotBase + (tenantOf s 0).sheet.slots) := by
  refine ⟨by unfold atKeys; decide +kernel, ⟨by decide +kernel, by decide +kernel, by decide +kernel, by decide +kernel, error_any (by decide +kernel)⟩,
    ⟨by decide +kernel, by decide +kernel, by decide +kernel, by decide +kernel, image_passes.imp fun _ h => h.1⟩, by unfold atKeys shieldedFree; decide +kernel,
    ⟨by unfold shieldedFree; decide +kernel, by decide +kernel, by decide +kernel, by decide +kernel, error_any (by decide +kernel)⟩,
    ⟨by decide +kernel, by unfold shieldedFree; decide +kernel, by decide +kernel, by decide +kernel, by decide +kernel, package_passes.imp fun _ h => h.1⟩, by decide +kernel, by decide +kernel⟩

/-- A reel of 16 slates with three waiting. -/
def aReel : ReelCtx :=
  { base := 0x100000, log2 := 4, state := .idle, aged := false, ageRunning := false, eligible := true, serial := false, dailies := 1, head := 14,
    tail := 1, startFill := 1, stopFill := 0, ageLimit := 10, inFlight := 0, haltStatus := 0, abortRemain := 0, lastSeq := 0, written := 0,
    ageStart := 0 }
/-- A dailies of 16 entries with two not returned. -/
def aDailies : DailiesCtx :=
  { base := 0x200000, log2 := 4, halted := false, phase := true, intEn := true, head := 15, tail := 1, credits := 0, bound := 1, msgAddr := 0x300000,
    msgData := 5, modCount := 1, modTime := 10, pending := 0, haltStatus := 0, modStart := 0 }
/-- A tenant with reel 0 on dailies 1. -/
def ringed (c : ReelCtx) (d : DailiesCtx) (s : State) : State :=
  { holding (tenant .running) s with
    reels := [(0, { ReelObj.reset with created := true, ctx := some c })],
    dailies := [(1, { DailiesObj.reset with created := true, ctx := some d })] }
/-- A tenant's registers reached. -/
def atTenant (s : State) : Prop := tablesOk s = true ∧ mailboxFree 0 s ∧ s.modes.mode ≠ .hold ∧ s.modes.mode ≠ .drowse

theorem witness_DoorbellsMoveOrAreDiscarded :
    (let s := ringed aReel aDailies op
     atTenant s ∧ (tenantOf s 0).sheet.reels ≤ bits 0 20 2 ∧ (tenantOf s 0).sheet.dailies ≤ bits 0 20 2 ∧
      (bits 0 20 1 < (tenantOf s 0).sheet.reels ∧ (reelOf s 0 (bits 0 20 1)).created = false) ∧
      (bits 0 20 0 < (tenantOf s 0).sheet.dailies ∧ (dailiesOf s 0 (bits 0 20 0)).created = false)) ∧
    (let s := { holding (tenant .running) op with
        reels := [(0, { ReelObj.reset with created := true, dead := true })], dailies := [(0, { DailiesObj.reset with created := true, dead := true })] }
     atTenant s ∧ (reelOf s 0 (bits 0 20 0)).created = true ∧ (reelOf s 0 (bits 0 20 0)).dead = true ∧ (reelOf s 0 (bits 0 20 0)).ctx = none ∧
      (dailiesOf s 0 (bits 0 20 0)).created = true ∧ (dailiesOf s 0 (bits 0 20 0)).dead = true ∧ (dailiesOf s 0 (bits 0 20 0)).ctx = none ∧
      bits 36 28 0 = 0 ∧ bits 36 28 0x1000000000 ≠ 0 ∧ bits 0 20 0x1000000000 = 0) ∧
    (let s := ringed { aReel with state := .aborted } aDailies op
     atTenant s ∧ bits 0 20 0 < (tenantOf s 0).sheet.reels ∧ (reelOf s 0 (bits 0 20 0)).created = true ∧
      (reelOf s 0 (bits 0 20 0)).ctx = some { aReel with state := .aborted }) ∧
    (let s := ringed aReel aDailies op
     (reelOf s 0 (bits 0 20 0)).created = true ∧ (reelOf s 0 (bits 0 20 0)).ctx = some aReel ∧ aReel.state ≠ .aborted ∧
      2 ^ aReel.log2 ≤ bits 20 16 0x1000000 ∧ (bits 20 16 0x1000000000 < 2 ^ aReel.log2 ∧ bits 36 28 0x1000000000 ≠ 0) ∧
      (bits 20 16 0 < 2 ^ aReel.log2 ∧ bits 36 28 0 = 0 ∧ (bits 20 16 0 + 2 ^ aReel.log2 - aReel.head) % 2 ^ aReel.log2 < reelFill aReel) ∧
      (bits 20 16 0xD00000 < 2 ^ aReel.log2 ∧ bits 36 28 0xD00000 = 0 ∧
        reelFill aReel ≤ (bits 20 16 0xD00000 + 2 ^ aReel.log2 - aReel.head) % 2 ^ aReel.log2)) ∧
    (let s := ringed aReel aDailies op
     bits 0 20 1 < (tenantOf s 0).sheet.dailies ∧ (dailiesOf s 0 (bits 0 20 1)).created = true ∧ (dailiesOf s 0 (bits 0 20 1)).ctx = some aDailies ∧
      2 ^ aDailies.log2 ≤ bits 20 16 0x1000001 ∧ (bits 20 16 0x1000000001 < 2 ^ aDailies.log2 ∧ bits 36 28 0x1000000001 ≠ 0) ∧
      (bits 20 16 0x200001 < 2 ^ aDailies.log2 ∧ dailiesFill aDailies < (bits 20 16 0x200001 + 2 ^ aDailies.log2 - aDailies.head) % 2 ^ aDailies.log2) ∧
      (bits 20 16 0x100001 < 2 ^ aDailies.log2 ∧ bits 36 28 0x100001 = 0 ∧
        (bits 20 16 0x100001 + 2 ^ aDailies.log2 - aDailies.head) % 2 ^ aDailies.log2 ≤ dailiesFill aDailies)) := by
  unfold atTenant mailboxFree
  refine ⟨?_, ?_, ?_, ?_, ?_⟩ <;> decide +kernel

/-- A tenant with reel 1 on dailies 1. -/
def ringed1 (c : ReelCtx) (d : DailiesCtx) (s : State) : State :=
  { ringed c d s with reels := [(1, { ReelObj.reset with created := true, ctx := some c })] }
/-- Reel and dailies 1 are at hand. -/
def atReel (c : ReelCtx) (d : DailiesCtx) (s : State) : Prop :=
  atTenant s ∧ (reelOf s 0 1).ctx = some c ∧ (reelOf s 0 1).created = true ∧ (reelOf s 0 1).dead = false ∧ (dailiesOf s 0 1).ctx = some d ∧
  (dailiesOf s 0 1).created = true ∧ (dailiesOf s 0 1).dead = false
/-- A REEL_CMD command passes its checks. -/
def passes (op mode : Nat) (s : State) : Prop :=
  rcEarly s 0 (rcWord op mode 1) = none ∧
  rcLate s 0 (rcWord op mode 1) (tenantOf s 0).rc.arg0 (tenantOf s 0).rc.arg1 (tenantOf s 0).rc.arg2 = none

theorem witness_ReelCommandsOnAContext :
    (let s := ringed1 aReel aDailies op
     atReel aReel aDailies s ∧ passes 5 0 s ∧ aReel.state ≠ .aborted ∧ slatesOf s 0 1 = [] ∧ passes 8 0 s ∧ passes 9 0 s ∧ passes 10 0 s) ∧
    (let c := { aReel with head := 1 }
     let s := ringed1 c aDailies op
     atReel c aDailies s ∧ passes 5 0 s ∧ c.state ≠ .aborted ∧ reelFill c = 0 ∧ c.inFlight = 0) ∧
    (let c := { aReel with state := .halted }
     let s := ringed1 c aDailies op
     atReel c aDailies s ∧ passes 6 0 s ∧ passes 6 1 s ∧ passes 6 2 s) ∧
    (let d := { aDailies with halted := true }
     let s := ringed1 aReel d op
     atReel aReel d s ∧ passes 7 0 s) ∧
    (let c := { aReel with state := .paused }
     let s := ringed1 c aDailies op
     atReel c aDailies s ∧ passes 8 1 s) := by
  unfold atReel passes atTenant mailboxFree
  refine ⟨⟨?_, ?_, ?_⟩, ⟨?_, ?_⟩, ⟨?_, ?_⟩, ⟨?_, ?_⟩, ⟨?_, ?_⟩⟩ <;> decide +kernel

/-- The check that a REEL_CMD command of opcode op meets. -/
def checkOf (op : Nat) (s : State) : Option Status :=
  (rcEarly s 0 (rcWord op 0 1)).orElse fun _ =>
    rcLate s 0 (rcWord op 0 1) (tenantOf s 0).rc.arg0 (tenantOf s 0).rc.arg1 (tenantOf s 0).rc.arg2
/-- The contexts it needs are at hand, and its write can go out. -/
def goes (op : Nat) (isDailies : Bool) (s : State) : Prop :=
  (rcNeeds (rcWord op 0 1) (tenantOf s 0).rc.arg1).all (ctxReady s 0) = true ∧ issuable true (ctxAddr s 0 isDailies 1) s = true
/-- The tenant with arguments of a CREATE in its mailbox. -/
def arguments (a0 a1 a2 : Word) (s : State) : State :=
  { s with tenants := [(0, { tenant .running with rc := { ReelBox.reset with arg0 := a0, arg1 := a1, arg2 := a2 } })] }

theorem witness_CreateAndDestroyWriteTheArena :
    (let s := arguments 0x400000 0x10004 0x300000 (holding (tenant .running) op)
     atTenant s ∧ checkOf 1 s = none ∧ goes 1 true s ∧ checkOf 3 s = some stModeDenied ∧ goes 3 false s) ∧
    (let s := { arguments 0x400000 0x100000004 1 (ringed aReel aDailies op) with reels := [] }
     atTenant s ∧ checkOf 2 s = none ∧ goes 2 false s ∧ checkOf 1 s = some stModeDenied ∧ goes 1 true s) ∧
    (let s := ringed1 { aReel with eligible := false } { aDailies with bound := 0 } op
     atTenant s ∧ checkOf 3 s = none ∧ goes 3 false s ∧ checkOf 4 s = none ∧ goes 4 true s ∧ checkOf 2 s = some stModeDenied ∧ goes 2 false s) ∧
    (let s := ringed1 aReel { aDailies with bound := 1 } op; atTenant s ∧ checkOf 4 s = some stModeDenied ∧ goes 4 true s) := by
  unfold goes atTenant mailboxFree; decide +kernel

theorem witness_ContextsAndTheirTimers :
    (let s := { holding (tenant .running) op with
        reels := [(0, { ReelObj.reset with created := true, arrived := some (reelBytes aReel) }),
          (1, { ReelObj.reset with created := true, arrived := some (zeroBytes 64) })],
        dailies := [(0, { DailiesObj.reset with created := true, arrived := some (dailiesBytes 1 aDailies) }),
          (1, { DailiesObj.reset with created := true, arrived := some (zeroBytes 64) })] }
     tablesOk s = true ∧ pairs s.modes.mode = true ∧ (reelOf s 0 0).ctx = none ∧ (tenantOf s 0).waiting = [] ∧
      (cachedEntries s).length < 2 ^ cacheLog s ∧ (reelOf s 0 0).arrived = some (reelBytes aReel) ∧ reelOfBytes (reelBytes aReel) = some aReel ∧
      (reelOf s 0 1).arrived = some (zeroBytes 64) ∧ reelOfBytes (zeroBytes 64) = none ∧
      (dailiesOf s 0 0).arrived = some (dailiesBytes 1 aDailies) ∧ (dailiesOf s 0 0).ctx = none ∧ (dailiesOf s 0 0).halting = none ∧
      (dailiesOf s 0 1).arrived = some (zeroBytes 64) ∧ dailiesOfBytes (zeroBytes 64) = none) ∧
    (let s := later 1000 { holding (tenant .running) op with
        reels := [(0, { ReelObj.reset with created := true, ctx := some aReel, changed := some 0 })],
        dailies := [(0, { DailiesObj.reset with created := true, ctx := some aDailies, changed := some 0 })] }
     tablesOk s = true ∧ pairs s.modes.mode = true ∧ (reelOf s 0 0).changed = some 0 ∧ 0 + 1000 ≤ now s ∧ (reelOf s 0 0).ctx = some aReel ∧
      issuable true (ctxAddr s 0 false 0) s = true ∧ (dailiesOf s 0 0).changed = some 0 ∧ (dailiesOf s 0 0).ctx = some aDailies ∧
      issuable true (ctxAddr s 0 true 0) s = true) ∧
    (let c := { aReel with eligible := false, startFill := 9, ageRunning := true }
     let d := { aDailies with pending := 1 }
     let s := later 10 (ringed c d op)
     tablesOk s = true ∧ (tenantOf s 0).state ≠ .paused ∧ (tenantOf (holding (tenant .paused) op) 0).state = .paused ∧
      (reelOf s 0 0).ctx = some c ∧ c.ageRunning = true ∧ c.ageLimit ≤ since32 s c.ageStart ∧ 0 < reelFill c ∧
      (dailiesOf s 0 1).ctx = some d ∧ d.intEn = true ∧ 1 ≤ d.pending ∧ d.modTime ≠ 0 ∧ d.modTime ≤ since32 s d.modStart) := by decide +kernel

/-- Every island started. -/
theorem witness_RoundReadsASlate :
    (let s := started (ringed aReel aDailies op)
     let r := readShares s
     tablesOk s = true ∧ readsOn s = true ∧ liveTenants s = [0] ∧ fetchForService 0 r = r ∧ tenantReady r 0 = true ∧
      1 ≤ (tenantOf s 0).sheet.weight ∧ nextReel r 0 = some 0 ∧ (reelOf s 0 0).ctx = some aReel ∧ (dailiesOf s 0 aReel.dailies).ctx = some aDailies ∧
      mayGrant r 0 0 255 = true ∧ 0 < 0x400) ∧
    (tablesOk (up .sealed) = true ∧ readsOn (up .sealed) = false) ∧
    (let s := later 1 op; tablesOk s = true ∧ s.modes.mode ≠ .drowse ∧ s.sched.refillAt < now s) := by decide +kernel

/-- A slate whose one code is an END, its VERSION a parameter. -/
def slateBytes (version : Byte) : Bytes :=
  zeroBytes 0x1A ++ [1, 0, version, 0, 0, 0] ++ [0x0A] ++ zeroBytes 95
/-- That slate read. -/
def slateRead1 (version : Byte) : Slate := { aSlate with stage := .read, dailies := 1, bytes := [(0, slateBytes version)] }
/-- A slate with an extended program of one code, copied. -/
def extSlate : Slate :=
  { aSlate with stage := .extReading, bytes := [(0, zeroBytes 0x18 ++ [1] ++ zeroBytes 103)], ext := [(0, zeroBytes 16)] }

theorem witness_AdmissionDecidesASlate :
    (∀ p ∈ [(false, op), (true, started op)],
      let s := { ringed aReel aDailies p.2 with slates := [slateRead1 1] }
      unitReady s 0 (slateRead1 1).seq = p.1 ∧ tablesOk s = true ∧ slatesOf s 0 0 = [slateRead1 1] ∧
      (reelOf s 0 0).dead = false ∧ destroying s 0 0 = false ∧ (reelOf s 0 0).ctx = some aReel ∧
      (slateRead1 1).stage = .read ∧ wantsExt (slateBytes 1) = false ∧ admissionCheck s 0 (slateBytes 1) (programOf (slateBytes 1) []) = none ∧
      healthy s 0 (slateRead1 1).seq = true) ∧
    (let s := { ringed aReel aDailies op with slates := [slateRead1 2] }
     slatesOf s 0 0 = [slateRead1 2] ∧ wantsExt (slateBytes 2) = false ∧
      admissionCheck s 0 (slateBytes 2) (programOf (slateBytes 2) []) = some stSlateMalformed ∧ (dailiesOf s 0 1).ctx = some aDailies ∧
      aDailies.halted = false ∧ (dailiesOf s 0 1).halting = none ∧ issuable true (aDailies.base + BitVec.ofNat 64 (32 * aDailies.tail)) s = true) ∧
    (let s := { ringed aReel aDailies op with slates := [extSlate] }
     slatesOf s 0 0 = [extSlate] ∧ (reelOf s 0 0).dead = false ∧ extSlate.stage = .extReading ∧ extComplete extSlate = true ∧
      extSlate.index < 65536) := by decide +kernel

/-- An AES-128 key. -/
def aesKey : Bytes := (List.range 16).map fun i => BitVec.ofNat 8 i
/-- That key wrapped under itself at slot 0x40: a native blob (08 R242). -/
def aBlob : Bytes :=
  [64, 0, 0, 0, 0, 0, 0, 0, 1, 1, 16, 0, 1, 0, 0, 0, 0, 0, 0, 0, 0, 0, 64, 0, 0, 0, 0, 0, 0, 0, 0, 0] ++
  [197, 146, 36, 84, 84, 28, 219, 177, 182, 243, 154, 148, 21, 168, 216, 52, 51, 205, 245, 18, 142, 196, 47, 233, 36, 204, 229, 66, 171, 42, 70, 44]

/-! ### Programs and operations -/

/-- A take at the first code of a program of two. -/
def atCode (c : Bytes) : Take :=
  { aTake .ready with program := [fit 16 c, fit 16 [0x0A]], keys := List.replicate 4 none, runs := 1, seq := some 0 }
/-- Its tenant runs, and it is the one take. -/
def acting (t : Take) (s : State) : State := { holding (tenant .running) s with takes := [t] }
/-- A MOVI of eight bytes past the end of the stage area. -/
def moviPast : Bytes := [2, 8, 0xFF, 0x7F]

theorem witness_StageReadsWhatWasWritten :
    let t := stageWrite 3 [1, 2, 3] (atCode [])
    tableOk 0 t.stage = true ∧ 0 + 3 ≤ 3 ∧ 3 + [1, 2, 3].length ≤ 6 := by decide +kernel

theorem witness_CodesStopBeforeTheyRun :
    (∀ n ∈ (List.range 10).map (· + 1), let t := atCode [BitVec.ofNat 8 n]
      codeOpcode (codeAt t) = n ∧
      (let s := ringed { aReel with state := .aborted } aDailies op
       let s := { s with takes := [t] }
       takeOf s 5 = some t ∧ t.phase = .ready ∧ aborted s t = true) ∧
      (let t := { t with count := 64 }
       let s := acting t op
       takeOf s 5 = some t ∧ t.phase = .ready ∧ aborted s t = false ∧ ¬(t.count + 1 ≤ (tenantOf s t.tenant).sheet.budget)) ∧
      (let s := acting t op
       takeOf s 5 = some t ∧ t.phase = .ready ∧ aborted s t = false ∧ t.count + 1 ≤ (tenantOf s t.tenant).sheet.budget ∧ t.seq = some 0 ∧
        healthy s 0 0 = true ∧ t.runs < 4)) ∧
    (let t := atCode moviPast
     let s := acting t op
     takeOf s 5 = some t ∧ t.phase = .ready ∧ codeOpcode (codeAt t) = 2 ∧ aborted s t = false ∧
      t.count + 1 ≤ (tenantOf s t.tenant).sheet.budget ∧ codeRangesOk (iterIndex t) (codeAt t) = false) := by decide +kernel

/-- A take that can start its code. -/
def starts (opcode : Nat) (t : Take) (s : State) : Prop := codeStarts 5 opcode t s
/-- Slot 0x40 holds an AES-128 key of a usage. -/
def aesSlot (usage : BitVec 32) (s : State) : State :=
  setSlot 0x40 { Slot.reset with owner := 0, cls := 1, size := 0, usage := usage, state := .active, keyBytes := 16, share := aesKey } s
/-- A KEY code. -/
def keyCode (source slot n : Nat) : Bytes := [6, BitVec.ofNat 8 source, 0, 0] ++ toLe 2 n ++ [0, 0] ++ toLe 4 slot
/-- A take with a blob in its stage area. -/
def blobTake (b : Bytes) : Take := stageWrite 0 b (atCode (keyCode 1 0 b.length))
/-- Whether the blob in stage opens. -/
def opensBlob (s : State) (t : Take) : Except Status KeyMat := nativeOpen s t.tenant (stageRead t (codeStage (codeAt t)) (keyBlobLen (codeAt t)))

/-- A write of the take outstanding. -/
def aWrite : Request :=
  { tag := 3, addr := 0x1000, len := 4, data := [1, 2, 3, 4], func := 0, attr := 0, purpose := .takeWrite 5 1, issues := 1 }

theorem witness_SequencerCodesRun :
    (∀ p ∈ [(2, ([2, 8] : Bytes)), (3, [3, 0, 0, 0, 1]), (3, [3, 0, 2, 0, 1]), (9, [9, 0, 0]), (9, [9, 2, 0]), (8, [8, 0x10, 0, 0, 0, 0, 1]),
        (8, [8, 0, 0, 0, 0, 0, 1]), (8, [8, 0x31, 0, 0, 0, 0, 1]), (4, [4]), (6, keyCode 0 0x40 0), (6, keyCode 1 0 0)],
      let t := atCode p.2
      starts p.1 t (acting t (aesSlot 1 op))) ∧
    (let t := atCode [8, 0x31, 0, 0, 0, 0, 1]
     let c := codeAt t
     xor (checkHolds t c) (ctrlBits c 4 1 = 1) = false ∧ ctrlBits c 5 1 = 1) ∧
    (let t := atCode [8, 0, 0, 0, 0, 0, 1]
     let c := codeAt t
     xor (checkHolds t c) (ctrlBits c 4 1 = 1) = true ∧ ctrlBits c 5 1 ≠ 1) ∧
    (let t := { atCode [4] with writes := 1, phase := .waitWrites }
     let s := acting t op
     let s := { s with fabric := { s.fabric with port0 := { s.fabric.port0 with writes := [aWrite] } } }
     takeOf s t.id = some t ∧ t.phase = .waitWrites ∧ codeOpcode (codeAt t) = 4 ∧ aborted s t = false ∧ s.fabric.held = [] ∧
      portRuns s false = true ∧ (outstandingOn s false true).find? (fun q => q.tag = (3#10).toNat) = some aWrite ∧
      aWrite.purpose = .takeWrite t.id 1 ∧ 1 ≤ t.writes) ∧
    (let t := atCode (keyCode 0 0x40 0)
     let c := codeAt t
     keySource c = 0 ∧ t.record[t.cursor]? = none ∧ slotCheck (acting t (aesSlot 1 op)) t.tenant (keySlot c) (pairedNeeds t.program t.pc) = none ∧
      slotCheck (acting t op) t.tenant (keySlot c) (pairedNeeds t.program t.pc) = some stSlotEmpty) ∧
    (starts 6 (blobTake aBlob) (acting (blobTake aBlob) (aesSlot 0x80 op)) ∧ keySource (codeAt (blobTake aBlob)) ≠ 0 ∧
      ∃ k, opensBlob (acting (blobTake aBlob) (aesSlot 0x80 op)) (blobTake aBlob) = .ok k ∧ (k.material == aesKey) = true) ∧
    (starts 6 (blobTake [1]) (acting (blobTake [1]) op) ∧ keySource (codeAt (blobTake [1])) ≠ 0 ∧
      ∃ st, opensBlob (acting (blobTake [1]) op) (blobTake [1]) = .error st) := by
  unfold starts codeStarts
  refine ⟨by decide +kernel, by decide +kernel, by decide +kernel, by decide +kernel, by decide +kernel,
    ⟨by decide +kernel, by decide +kernel, ok_any (fun k : KeyMat => k.material == aesKey) (by decide +kernel)⟩, by decide +kernel, by decide +kernel, error_any (by decide +kernel)⟩

/-- A MOVE of four bytes in a direction. -/
def moveCode (dir n : Nat) : Bytes := [1, BitVec.ofNat 8 dir] ++ toLe 3 n ++ [0, 0, 0] ++ toLe 8 0x1000
/-- Domain 0 asleep. -/
def sleeping (s : State) : State := { s with fabric := { s.fabric with sleepReq := 0xFFFF } }

theorem witness_HostCodesIssueBursts :
    (∀ p ∈ [(1, moveCode 0 0), (1, moveCode 2 4), (1, moveCode 0 4), (1, moveCode 1 4), (5, [5, 0, 0, 0, 1, 2, 3, 4, 0, 0x10]),
        (10, [10])],
      let t := atCode p.2
      t.reads = 0 ∧ starts p.1 t (acting t op)) ∧
    (moveLen (codeAt (atCode (moveCode 0 0))) = 0 ∧ moveDir (codeAt (atCode (moveCode 2 4))) = 2 ∧ moveLen (codeAt (atCode (moveCode 2 4))) ≠ 0) ∧
    (let t := atCode (moveCode 0 4)
     let a := moveHost t (codeAt t)
     moveDir (codeAt t) = 0 ∧ moveLen (codeAt t) ≠ 0 ∧ moveLen (codeAt t) ≤ 64 - a % 64 ∧ issuable false (BitVec.ofNat 64 a) (acting t op) = true ∧
      asleep (acting t (sleeping op)) (BitVec.ofNat 64 a) = true ∧ starts 1 t (acting t (sleeping op))) ∧
    (let t := atCode (moveCode 1 4)
     let a := moveHost t (codeAt t)
     let out := swapped (moveSwap (codeAt t)) (stageRead t (moveOff t (codeAt t)) (moveLen (codeAt t)))
     moveDir (codeAt t) = 1 ∧ moveLen (codeAt t) ≠ 0 ∧ out.length ≠ 0 ∧ out.length ≤ 64 - a % 64 ∧
      issuable true (BitVec.ofNat 64 a) (acting t op) = true) ∧
    (let t := atCode [5, 0, 0, 0, 1, 2, 3, 4, 0, 0x10]
     let a := codeHost (codeAt t)
     let n := (signalData t (codeAt t)).length
     t.writes = 0 ∧ n ≠ 0 ∧ n ≤ 64 - a % 64 ∧ issuable true (BitVec.ofNat 64 a) (acting t op) = true ∧
      (let t := { t with writes := 1 }; t.writes ≠ 0 ∧ starts 5 t (acting t op))) ∧
    endStores (codeAt (atCode [10])) = false ∧
    (let t := { atCode [1] with phase := .moving, parked := some 0 }
     let s := later 2000 (acting t op)
     takeOf s 5 = some t ∧ t.phase = .moving ∧ t.parked = some 0 ∧ 0 + (tenantOf s t.tenant).sheet.parkTimeout < now s ∧ aborted s t = false ∧
      t.reads = 0) := by
  unfold starts codeStarts; decide +kernel

/-- An OP code: SHA-256 of four bytes at 0x100 to 0x200. -/
def opBytes (v n : Nat) : Bytes := [7, 0] ++ toLe 2 v ++ [0, 0] ++ toLe 2 0x100 ++ toLe 2 0x200 ++ toLe 3 n ++ [0] ++ toLe 2 0x300
/-- The OP of a take on a unit. -/
def onUnit (k : UnitKind) (i : Nat) (param : Bytes) : OpRun :=
  { kind := k, unit := some i, started := 0, param := param, nonce := [], drawn := [], input := [], asked := 0, finished := false, done := 0,
    released := 0, hold := none, saved := none, fenceAfter := false, after := none }
/-- A take whose OP runs. -/
def runningOn (k : UnitKind) (v n : Nat) (keys : List (Option Binding)) : Take :=
  let t := { atCode (opBytes v n) with keys := keys }
  { t with phase := .running, op := some (onUnit k 0 (opParamBlock t (codeAt t))) }
/-- An AES-128 key bound to position 0. -/
def aesBound : List (Option Binding) :=
  [some (.blob { cls := 1, usage := 0x3F, derived := 0, hash := 0, material := aesKey }), none, none, none]

theorem witness_OpTakesItsUnit :
    (let t := atCode (opBytes 0x3020 4)
     let s := started (acting t op)
     let u := { t with count := t.count + 1 }
     starts 7 t s ∧ opRefusal u (codeAt t) (tenantOf s t.tenant).sheet.shielded = none ∧ (opSpec (codeAt t)).any (fun o => o.kind = .digest) = true ∧
      opFamily (opCode (codeAt t)) = 3 ∧ t.op = none ∧ t.parked = none ∧ s.units.jobs = [] ∧ shareRemains s 3 t.tenant = true ∧
      mayGrant s 3 t.tenant 0 = true ∧ unitReady s 3 0 = true ∧ mayGrant s 3 t.tenant 1000 = false) ∧
    (let s := inIslands [islandOf op 3 0] .powerGated (acting (atCode (opBytes 0x3020 4)) op)
     starts 7 (atCode (opBytes 0x3020 4)) s ∧ unitReady s 3 0 = false ∧ mayGrant s 3 0 0 = true ∧
      (islandAt s (islandOf s 3 0)).state = .powerGated ∧ tablesOk s = true) ∧
    (let t := atCode (opBytes 0x1000 16)
     let s := acting t op
     starts 7 t s ∧ opRefusal { t with count := t.count + 1 } (codeAt t) (tenantOf s t.tenant).sheet.shielded = some stSlotEmpty) := by
  unfold starts codeStarts; decide +kernel

theorem witness_OperationsEndOnTheirUnits :
    (∀ p ∈ [(UnitKind.lane, 0x1000), (.digest, 0x3020), (.standard, 0x4200), (.shielded, 0x4200)],
      let t := runningOn p.1 p.2 16 aesBound
      let s := acting t op
      let o := onUnit p.1 0 (opParamBlock t (codeAt t))
      takeOf s t.id = some t ∧ t.op = some o ∧ t.phase = .running ∧ runsOn s p.1 0 = some t ∧ healthy s (kindCode p.1) 0 = true ∧
        aborted s t = false ∧ t.runs < 4 ∧ o.fenceAfter = false) ∧
    (∀ p ∈ [(UnitKind.lane, 0x1000), (.digest, 0x3020)],
      let t := runningOn p.1 p.2 16 aesBound
      let x := opOnUnit t (codeAt t) (onUnit p.1 0 (opParamBlock t (codeAt t))) (regsOf (acting t op) (kindCode p.1) 0)
      (opRun x).status = 0 ∧ checkedAs p.1 x (opRun x) .passed = .passed) ∧
    (let t := runningOn .lane 0x1000 16 aesBound
     let o := { onUnit .lane 0 (opParamBlock t (codeAt t)) with after := some (.ends stReelAborted) }
     let s := acting { t with op := some o } op
     takeOf s t.id = some { t with op := some o } ∧ runsOn s .lane 0 = some { t with op := some o } ∧ o.fenceAfter = false ∧
      o.after = some (.ends stReelAborted) ∧ (opRun (opOnUnit t (codeAt t) o (regsOf s 1 0))).status = 0) ∧
    (let t := runningOn .lane 0x1520 16 aesBound
     let s := acting t op
     let out := opRun (opUnderWay t (codeAt t) (onUnit .lane 0 (opParamBlock t (codeAt t))))
     takeOf s t.id = some t ∧ t.phase = .running ∧ runsOn s .lane 0 = some t ∧ out.status ≠ 0 ∧
      (softStatus out.status && opSoft (codeAt t)) = false) ∧
    (let t := runningOn .rng 0x5010 128 []
     let s := acting t op
     let o := onUnit .rng 0 (opParamBlock t (codeAt t))
     takeOf s t.id = some t ∧ t.op = some o ∧ t.phase = .running ∧ o.kind = .rng ∧ (opRun (opUnderWay t (codeAt t) o)).status = 0) ∧
    (let t := runningOn .rng 0x5020 16 []
     let s := acting t op
     let o := onUnit .rng 0 (opParamBlock t (codeAt t))
     let out := opRun (opUnderWay t (codeAt t) o)
     takeOf s t.id = some t ∧ t.op = some o ∧ t.phase = .running ∧ out.status ≠ 0 ∧ (softStatus out.status && opSoft (codeAt t)) = false) := by
  decide +kernel

theorem witness_SegmentsAndReexecution :
    (∀ n ∈ [16, 8192],
      let t := runningOn .engine 0x1100 n aesBound
      let s := acting t op
      takeOf s t.id = some t ∧ (∀ u ∈ s.takes, u.id = t.id → u = t) ∧ runsOn s .engine 0 = some t ∧
        t.op = some (onUnit .engine 0 (opParamBlock t (codeAt t))) ∧ symHost (opCode (codeAt t)) = false ∧ t.parked = none ∧
        switchTo s 0 = none ∧ healthy s 2 0 = true ∧ aborted s t = false ∧ t.runs < 4) ∧
    segmentEnd (opLen (codeAt (runningOn .engine 0x1100 8192 aesBound))) 0 < opLen (codeAt (runningOn .engine 0x1100 8192 aesBound)) ∧
    (let t := runningOn .engine 0x1100 16 aesBound
     let c := codeAt t
     let o := onUnit .engine 0 (opParamBlock t c)
     let stop := segmentEnd (opLen c) o.done
     let input := joined ((o.input ++ [(o.done, stageRead t (opSrc c + o.done) (stop - o.done))]).filter fun p => p.1 < stop)
     stop = opLen c ∧ (opRun (opInput t c o.param input o.nonce o.drawn)).status = 0) ∧
    (let t := { atCode [10] with phase := .stopped, seq := none }
     takeOf (acting t op) t.id = some t ∧ (∀ u ∈ (acting t op).takes, u.id = t.id → u = t) ∧ t.phase = .stopped ∧ aborted (acting t op) t = false ∧
      unitReady (acting t op) 0 0 = false ∧
      (∀ s ∈ [acting t op, started (acting t op)], shareRemains s 0 t.tenant = true ∧ mayGrant s 0 t.tenant 0 = true) ∧
      unitReady (started (acting t op)) 0 0 = true) ∧
    (let t := { atCode [10] with phase := .stopped, seq := none }
     let s := { acting t op with tenants := [(0, { tenant .running with round := { aSheet with seqMax := 0 }.shares })] }
     takeOf s t.id = some t ∧ (∀ u ∈ s.takes, u.id = t.id → u = t) ∧ aborted s t = false ∧ shareRemains s 0 t.tenant = false) := by decide +kernel

/-- A take of reel 0 that has ended. -/
def endedTake : Take := { atCode [10] with phase := .ended 0, dailies := 1, pc := 1 }
/-- The state with one take and one dailies. -/
def ended (t : Take) (d : DailiesCtx) (s : State) : State := { ringed aReel d s with takes := [t] }
/-- An unread slate of an aborted reel. -/
def owedSlate (st : SlateStage) : Slate := { aSlate with stage := st, dailies := 1 }
/-- A reel with unread slates to answer. -/
def abortedReel : ReelCtx := { aReel with state := .aborted, abortRemain := 3 }

theorem witness_DailiesAndMessages :
    (let t := { endedTake with clapper := true, writes := 1 }
     let s := ended t aDailies op
     tablesOk s = true ∧ takeOf s t.id = some t ∧ t.phase = .ended 0 ∧ t.clapper = true ∧ 0 < t.writes) ∧
    (let s := ended endedTake aDailies op
     tablesOk s = true ∧ takeOf s endedTake.id = some endedTake ∧ endedTake.phase = .ended 0 ∧ (endedTake.clapper = true → endedTake.writes = 0) ∧
      (dailiesOf s 0 1).ctx = some aDailies ∧ aDailies.halted = false ∧ (dailiesOf s 0 1).halting = none ∧
      issuable true (aDailies.base + BitVec.ofNat 64 (32 * aDailies.tail)) s = true) ∧
    (∀ st ∈ [SlateStage.owed, .owedRead true],
      let x := owedSlate st
      let s := { ringed abortedReel aDailies op with slates := [x] }
      tablesOk s = true ∧ answersAborted s 0 = true ∧ (reelOf s 0 0).ctx = some abortedReel ∧ abortedReel.state = .aborted ∧ abortedReel.abortRemain ≠ 0 ∧
        slatesOf s 0 0 = [x] ∧ x.stage = st ∧ issuable false (abortedReel.base + BitVec.ofNat 64 (128 * x.index)) s = true ∧
        (dailiesOf s 0 x.dailies).ctx = some aDailies ∧ (dailiesOf s 0 x.dailies).halting = none ∧
        issuable true (aDailies.base + BitVec.ofNat 64 (32 * aDailies.tail)) s = true) ∧
    (let x := owedSlate (.owedRead true)
     let s := { ringed abortedReel { aDailies with halted := true } op with slates := [x] }
     answersAborted s 0 = true ∧ slatesOf s 0 0 = [x] ∧ x.stage = .owedRead true ∧ dailiesStopped s 0 x.dailies = true) ∧
    (let t := { endedTake with dailySince := some 0 }
     let s := later 2000 (ended t aDailies (sleeping op))
     tablesOk s = true ∧ s.takes.find? (dailyLate s 0 1 (tenantOf s 0).sheet.parkTimeout) = some t ∧ (dailiesOf s 0 1).ctx = some aDailies ∧
      (dailiesOf s 0 1).halting = none ∧ dailyOut s 0 1 = false) ∧
    (∀ asleep' ∈ [true, false],
      let d := { aDailies with pending := 1 }
      let s := later 2000 { ringed aReel d (if asleep' then sleeping op else op) with
        dailies := [(1, { DailiesObj.reset with created := true, ctx := some d, msgDue := true, msgSince := some 0 })] }
      tablesOk s = true ∧ (dailiesOf s 0 1).ctx = some d ∧ (dailiesOf s 0 1).msgDue = true ∧ pairs s.modes.mode = true ∧ d.pending ≠ 0 ∧
        dailyOut s 0 1 = false ∧ issuable true d.msgAddr s = !asleep' ∧ asleep s d.msgAddr = asleep' ∧ (dailiesOf s 0 1).msgSince = some 0 ∧
        0 + (tenantOf s 0).sheet.parkTimeout < now s) := by
  refine ⟨?_, ?_, ?_, ?_, ?_, ?_⟩ <;> decide +kernel

/-- A request of a length and purpose with tag 3. -/
def asked (n : Nat) (why : Purpose) : Request := { aWrite with len := n, data := [], purpose := why }
/-- It is outstanding on port 0 beside others. -/
def waiting (write : Bool) (r : Request) (s : State) : State :=
  { s with fabric := { s.fabric with
    port0 := if write then { s.fabric.port0 with writes := [r] } else { s.fabric.port0 with reads := [r] } } }
/-- It awaits its answer. -/
def awaits (write : Bool) (r : Request) (s : State) : Prop :=
  tablesOk s = true ∧ s.fabric.held = [] ∧ portRuns s false = true ∧ (outstandingOn s false write).find? (fun q => q.tag = (3#10).toNat) = some r
/-- A MOVE that awaits two reads. -/
def movingTake : Take := { atCode (moveCode 0 128) with phase := .moving, reads := 2 }
/-- The tenant's CREATE_REEL or DESTROY_REEL awaits its context write. -/
def commanded (op : Nat) (s : State) : State :=
  { s with tenants := [(0, { tenant .running with rc := { ReelBox.reset with command := rcWord op 0 1, busy := true, writing := true } })] }

theorem witness_FabricAnswers :
    (∀ b ∈ [true, false], awaits false (asked 64 (.fetch 0 b 1)) (waiting false (asked 64 (.fetch 0 b 1)) (ringed aReel aDailies op)) ∧
      (asked 64 (.fetch 0 b 1)).len = 64) ∧
    (let r := asked 64 (.takeRead 5 64)
     let s := waiting false r (acting movingTake op)
     let s := { s with tenants := [(0, { tenant .running with sheet := { aSheet with retry := 0 } })] }
     awaits false r s ∧ takeOf s movingTake.id = some movingTake ∧ movingTake.op = none ∧ movingTake.phase = .moving ∧ 1 < movingTake.reads ∧
      2 ≤ (2#2).toNat ∧ retryOf s r < r.issues ∧ s.takes = [movingTake] ∧ (portOf s false).fenced = false ∧ (portOf s false).reads ≠ [] ∧
      (portOf s false).writes = [] ∧ movingTake.runs < 4 ∧ aborted s movingTake = false) ∧
    (let r := asked 64 (.takeRead 5 64)
     let s := waiting false r (acting movingTake op)
     let s := { s with tenants := [(0, { tenant .running with sheet := { aSheet with retry := 1 } })] }
     awaits false r s ∧ takeOf s movingTake.id = some movingTake ∧ r.issues ≤ retryOf s r ∧
      issuable false r.addr (closeRequest false false (3#10).toNat s) = true) ∧
    (let r := asked 64 .imageRead
     let s := waiting false r (readingFw [] op)
     awaits false r s ∧ r.len = 64 ∧ s.fw.run = some (.reading 0 []) ∧ (portOf s false).fenced = false) ∧
    (let t := { atCode [10] with writes := 1 }
     let s := waiting true aWrite (acting t op)
     awaits true aWrite s ∧ takeOf s t.id = some t ∧ t.phase ≠ .waitWrites) ∧
    (let r := { asked 64 (.commandWrite 0 false 1) with data := reelBytes aReel }
     let s := waiting true r (commanded 2 op)
     awaits true r s ∧ (tenantOf s 0).waiting = [] ∧ (cachedEntries s).length < 2 ^ cacheLog s ∧ rcOp (tenantOf s 0).rc.command = 2 ∧
      reelOfBytes r.data = some aReel ∧ (reelOf s 0 1).ctx = none) ∧
    (let r := { asked 64 (.commandWrite 0 false 1) with data := zeroBytes 64 }
     let s := waiting true r (commanded 3 op)
     awaits true r s ∧ (tenantOf s 0).waiting = [] ∧ (cachedEntries s).length < 2 ^ cacheLog s ∧ rcOp (tenantOf s 0).rc.command = 3 ∧
      (reelOf s 0 1).ctx = none ∧ slatesOf s 0 1 = []) ∧
    (tablesOk op = true ∧ op.fabric.held = [] ∧ portRuns op false = true ∧ outstandingOn op false false = [] ∧ outstandingOn op false true = [] ∧
      (portOf op false).fenced = false) := by
  unfold awaits
  refine ⟨?_, ?_, ?_, ?_, ?_, ?_, ?_, ?_⟩ <;> decide +kernel

theorem witness_ScrubbingCorrectsOrStops :
    (let s := started (up .selftest)
     scrubs s = true ∧ holdsTriple s .callSheet (whereOf .callSheet 0x30000) = true ∧ s.modes.mode = .selftest) ∧
    (let s := started op
     scrubs s = true ∧ holdsTriple s .keyStore (whereOf .keyStore 0x40) = true ∧ holdsTriple s .alwaysOn (whereOf .alwaysOn 0) = true ∧
      s.modes.mode ≠ .selftest) := by decide +kernel

/-! ### Twins -/

/-- A core that may pair: enabled, port A up, Z_s at hand. -/
def pairing (s : State) : State :=
  { s with twin := { s.twin with enable := true, link := .wait, upA := true, zs := some (zeroBytes 48), peerHash := zeroBytes 48 } }
/-- A link in a state with a session. -/
def linkedAs (l : Link) (role : Role) (x : Session) (s : State) : State :=
  { pairing s with twin := { (pairing s).twin with link := l, role := role, session := x } }
/-- The fleet key's slot in use. -/
def fleet (s : State) : State := setSlot 0x20 { Slot.reset with owner := 0x400, cls := 3, size := 0, usage := 0x80, state := .active, keyBytes := 32 } s

theorem witness_TwinRegistersAndSignals :
    (let s := unlocked op
     reaches .manager 0x00040 s ∧ lockOpen .manager s ∧ s.twin.enable = false ∧ (0x80000000000001#64).getLsbD 0 = true ∧
      bits 55 9 0x80000000000001 ≠ s.vault.member ∧ partnerMember s ≠ some (bits 55 9 0x80000000000001) ∧ reaches .manager 0x0A098 s ∧
      linked s = false ∧ managementRuns s.modes.mode = true ∧ true ≠ s.twin.upA ∧ false = s.twin.upA ∧ (auxIsLink s = false ∨ false = s.twin.upB) ∧
      dupFeeds s = false) ∧
    (let s := unlocked (pairing op)
     reaches .manager 0x00040 s ∧ lockOpen .manager s ∧ s.twin.enable = true ∧ (0#64).getLsbD 0 = false) ∧
    (let s := unlocked (started { op with twin := { op.twin with peerKey := unitPublic } })
     reaches .manager 0x0A098 s ∧ lockOpen .manager s ∧ (pointOf p384 (setWordAt 11 (wordAt 11 unitPublic) s.twin.peerKey)).isSome = true ∧
      (pointOf p384 (setWordAt 11 0 s.twin.peerKey)).isSome = false ∧ s.units.idk = [] ∧ shieldedFree s) ∧
    (let s := unlocked { op with twin := { op.twin with peerKey := unitPublic }, units := { op.units with idk := [.peer] } }
     reaches .manager 0x0A098 s ∧ lockOpen .manager s ∧ s.units.idk ≠ []) ∧
    (let s := unlocked (linkedAs .paired .senior Session.reset op); reaches .manager 0x0A098 s ∧ lockOpen .manager s ∧ linked s = true) ∧
    (let s := { op with twin := { op.twin with dup := 3 } }
     managementRuns s.modes.mode = true ∧ auxIsLink s = true ∧ true ≠ s.twin.upB ∧ dupFeeds s = true ∧
      (s.twin.feedA = .lost ↔ FeedLevel.lost ≠ .lost)) ∧
    vaultIdle op := by
  unfold vaultIdle shieldedFree
  refine ⟨?_, ?_, ?_, ?_, ?_, ?_, ?_⟩ <;> decide +kernel

/-- The HELLO payload of a partner with a member index and a public ephemeral key. -/
def partnerHello (member : Nat) (point : Bytes) : Bytes :=
  toLe 1 (configCode op) ++ [0] ++ toLe 2 member ++ [6, 0, 0, 0] ++ zeroBytes 48 ++ fit 96 point ++ zeroBytes 8
/-- A session that has sent its HELLO. -/
def hailed (x : Session) : Session := { x with hello := some (partnerHello 0 []), peerHello := some (partnerHello 3 []) }
/-- A session with frame keys. -/
def sealed (x : Session) : Session := { hailed x with keys := some (zeroBytes 64), lower := true, transcript := zeroBytes 48 }

theorem first_key : (aesRoundKeys (frameKey (zeroBytes 64) true)).tail.getLast?.map List.length = some 16 := by decide +kernel

/-- A frame sealed under the keys of such a session opens. -/
theorem frame_opens (l : Link) (role : Role) (type flags : Nat) (p : Bytes) (s : State)
    (hl : portHears false (linkedAs l role (sealed Session.reset) s) = true) (ht : 1 ≤ type ∧ type ≤ 5) (hf : flags < 4) (hp : p.length ≤ 4096) :
    opensAs type false (sealFrame (zeroBytes 64) true type flags 1 0 p) p (linkedAs l role (sealed Session.reset) s) := by
  have hx : (linkedAs l role (sealed Session.reset) s).twin.session = sealed Session.reset := rfl
  have hlow : (sealed Session.reset).lower = true := rfl
  have hseq : (sealed Session.reset).recvSeq = 0 := rfl
  have h := sealFrame_opens (zeroBytes 64) type flags 0 p false (linkedAs l role (sealed Session.reset) s) (by rw [hx]; rfl) hl ht hf hp
    (by rw [hx, hseq]; decide) (by rw [hx, hlow]; exact first_key)
  rw [hx, hlow, hseq] at h
  exact h

theorem witness_PairingProceedsOrIsRefused :
    (let s := pairing (fleet op)
     mayPair s = true ∧ s.twin.retryAt = none ∧ (slotOf s 0x20).state = .active ∧ rngFailed s = false ∧ s.rng.waiting = [] ∧ rngServes s = false) ∧
    (let s := drawing 100 (pairing (fleet op))
     mayPair s = true ∧ s.twin.retryAt = none ∧ (slotOf s 0x20).state = .active ∧ rngFailed s = false ∧ s.rng.waiting = [] ∧
      rngServes s = true ∧ scalarBytes p384 ≤ s.rng.buffer.length) ∧
    (let s := pairing op; mayPair s = true ∧ s.twin.retryAt = none ∧ (slotOf s 0x20).state ≠ .active) ∧
    (let s := { pairing op with twin := { (pairing op).twin with retryAt := some 0 } }
     mayPair s = true ∧ s.twin.retryAt = some 0 ∧ 0 ≤ now s) ∧
    (let s := linkedAs .handshake .solo { Session.reset with drawn := some (zeroBytes 56) } (started op)
     s.twin.link = .handshake ∧ s.twin.session.hello = none ∧ s.twin.session.drawn = some (zeroBytes 56) ∧ shieldedFree s) ∧
    (let s := linkedAs .handshake .solo Session.reset op
     portHears false s = true ∧ s.twin.link = .handshake ∧ s.twin.session.peerHello = none ∧ helloShape (helloFrame (partnerHello 3 [])) = true ∧
      helloCheck s (byteAt 0 (helloFrame (partnerHello 3 []))) (slice 0x18 160 (helloFrame (partnerHello 3 []))) = none ∧
      helloShape (helloFrame (partnerHello 0 [])) = true ∧
      helloCheck s (byteAt 0 (helloFrame (partnerHello 0 []))) (slice 0x18 160 (helloFrame (partnerHello 0 []))) = some 3) ∧
    (let g := toBe 48 p384.g.1 ++ toBe 48 p384.g.2
     let s := linkedAs .handshake .solo { hailed Session.reset with eph := some 1, peerHello := some (partnerHello 3 g) } (started op)
     shieldedFree s ∧ s.twin.link = .handshake ∧ s.twin.session.eph = some 1 ∧ s.twin.session.hello = some (partnerHello 0 []) ∧
      s.twin.session.peerHello = some (partnerHello 3 g) ∧ s.twin.zs = some (zeroBytes 48) ∧
      ecdh p384 1 (slice 0x38 96 (partnerHello 3 g)) = some (toBe 48 p384.g.1) ∧ s.twin.session.unacked.length < 256) ∧
    (let s := linkedAs .handshake .solo (sealed Session.reset) op
     let x := s.twin.session
     let right := confirmPayload x.transcript (partnerHello 0 []) (partnerHello 3 [])
     (∀ p ∈ [right, []], opensAs 2 false (sealFrame (zeroBytes 64) true 2 0 1 0 p) p s) ∧ [] ≠ right ∧ s.twin.link = .handshake ∧
      x.hello = some (partnerHello 0 []) ∧ x.peerHello = some (partnerHello 3 []) ∧ now s ≤ x.helloAt + 10000) ∧
    (let s := later 10000 (linkedAs .handshake .solo (hailed Session.reset) op)
     s.twin.link = .handshake ∧ s.twin.session.hello = some (partnerHello 0 []) ∧ s.twin.session.helloAt + 10000 ≤ now s) := by
  refine ⟨by decide +kernel, by decide +kernel, by decide +kernel, by decide +kernel, by unfold shieldedFree; decide +kernel, by decide +kernel,
    by unfold shieldedFree; decide +kernel,
    ⟨fun p hp => frame_opens .handshake .solo 2 0 p op (by decide +kernel) (by decide) (by decide) ?_, by decide +kernel⟩, by decide +kernel⟩
  simp only [List.mem_cons, List.not_mem_nil, or_false] at hp
  rcases hp with rfl | rfl <;> decide +kernel

/-- A record frame's payload with one entry: a SLOT entry that erases slot 0x40, with a header count of 1. -/
def recordOf1 (n : Nat) (e : Bytes) : Bytes := zeroBytes 0x14 ++ toLe 2 n ++ zeroBytes 10 ++ e
/-- A SLOT entry that erases slot 0x40. -/
def eraseEntry : Bytes := [1, 0] ++ toLe 2 24 ++ toLe 4 0x40 ++ zeroBytes 8 ++ [3, 0] ++ zeroBytes 6

theorem witness_SessionsSyncRecordAndEnd :
    (let s := linkedAs .sync .junior (sealed Session.reset) op
     let b := sealFrame (zeroBytes 64) true 4 1 1 0 (recordOf1 0 [])
     opensAs 4 false b (recordOf1 0 []) s ∧ s.twin.link = .sync ∧ s.twin.role = .junior ∧
      (s.twin.session.inParts ++ entriesOf (recordOf1 0 [])).any (entryHeldUp s) = false ∧ byteAt 2 b % 2 = 1) ∧
    (let s := linkedAs .paired .senior (sealed Session.reset) (aesSlot 1 op)
     let es := s.twin.session.inParts ++ entriesOf (recordOf1 1 eraseEntry)
     let b := sealFrame (zeroBytes 64) true 3 1 1 0 (recordOf1 1 eraseEntry)
     opensAs 3 false b (recordOf1 1 eraseEntry) s ∧ s.twin.link = .paired ∧ es = [eraseEntry] ∧ es.any (entryHeldUp s) = false ∧ byteAt 2 b % 2 = 1 ∧
      byteAt 0 eraseEntry = 1 ∧ entrySame s eraseEntry = false ∧ conflicts s eraseEntry = false) ∧
    (let s := linkedAs .paired .senior (sealed Session.reset) op
     let b := sealFrame (zeroBytes 64) true 3 1 1 0 (recordOf1 0 [])
     opensAs 3 false b (recordOf1 0 []) s ∧ s.twin.link = .paired ∧ s.twin.session.inParts ++ entriesOf (recordOf1 0 []) = [] ∧ byteAt 2 b % 2 = 1) ∧
    (let s := linkedAs .paired .senior (sealed Session.reset) op
     let b := sealFrame (zeroBytes 64) true 3 0 1 0 (recordOf1 1 eraseEntry)
     opensAs 3 false b (recordOf1 1 eraseEntry) s ∧ byteAt 2 b % 2 = 0) ∧
    (let s := linkedAs .paired .senior (sealed Session.reset) op
     opensAs 5 false (sealFrame (zeroBytes 64) true 5 0 1 0 (zeroBytes 8)) (zeroBytes 8) s) ∧
    (let s := later 4000000 (linkedAs .paired .senior Session.reset op)
     s.twin.link = .paired ∧ s.twin.closedAt + linkPeriod s ≤ now s ∧ s.twin.heardAt + silenceLimit s ≤ now s) := by
  have flags : ∀ (type f : Nat) (p : Bytes), type < 256 → f < 256 → p.length ≤ 4096 → byteAt 2 (sealFrame (zeroBytes 64) true type f 1 0 p) = f :=
    fun type f p ht hf hp => (sealFrame_parts (zeroBytes 64) true type f 1 0 p (aesEnc_length _ first_key) hp (by decide) ht hf).2.2.2.1
  have opens := frame_opens
  refine ⟨⟨opens .sync .junior 4 1 _ op (by decide +kernel) (by decide) (by decide) (by decide), rfl, rfl, by decide +kernel, ?_⟩,
    ⟨opens .paired .senior 3 1 _ (aesSlot 1 op) (by decide +kernel) (by decide) (by decide) (by decide), rfl, by decide +kernel, by decide +kernel, ?_,
      by decide +kernel, by decide +kernel, by decide +kernel⟩,
    ⟨opens .paired .senior 3 1 _ op (by decide +kernel) (by decide) (by decide) (by decide), rfl, by decide +kernel, ?_⟩,
    ⟨opens .paired .senior 3 0 _ op (by decide +kernel) (by decide) (by decide) (by decide), ?_⟩,
    opens .paired .senior 5 0 _ op (by decide +kernel) (by decide) (by decide) (by decide), by decide +kernel⟩ <;>
  rw [flags _ _ _ (by decide) (by decide) (by decide)]

/-! ### Whole steps -/

theorem witness_StepsKeepTheInvariants :
    tablesOk op = true ∧ struckHoldsNoKey op ∧ ∃ t, step { op with pending := [.fabricPortReset false] } = .next t :=
  ⟨by decide +kernel, by unfold struckHoldsNoKey; decide +kernel, _, rfl⟩

/-! ### Single steps, and the published test values of the algorithms the spec names -/

/-- The bytes of a number in hexadecimal. -/
def hexOf (n v : Nat) : Bytes := toBe n v

/-- FIPS 180-4: SHA-256 of "abc". -/
theorem test_sha256 : sha256 (ascii "abc") = hexOf 32 0xba7816bf8f01cfea414140de5dae2223b00361a396177a9cb410ff61f20015ad := by decide +kernel
/-- FIPS 180-4: SHA-384 of "abc". -/
theorem test_sha384 : sha384 (ascii "abc") =
    hexOf 48 0xcb00753f45a35e8bb5a03d699ac65007272c32ab0eded1631a8b605a43ff5bed8086072ba1e7cc2358baeca134c825a7 := by decide +kernel
/-- FIPS 202: SHA3-256 of the empty message. -/
theorem test_sha3 : hashAlg 9 32 [] = hexOf 32 0xa7ffc6f8bf1ed76651c14756a061d662f580ff4de43b49fa82d80a4b80f8434a := by decide +kernel
/-- FIPS 197, C.3: AES-256. -/
theorem test_aes256 : aesEnc (hexOf 32 0x000102030405060708090a0b0c0d0e0f101112131415161718191a1b1c1d1e1f) (hexOf 16 0x00112233445566778899aabbccddeeff) =
    hexOf 16 0x8ea2b7ca516745bfeafc49904b496089 := by decide +kernel
/-- FIPS 81: DES of "Now is t", as TDES with equal parts. -/
theorem test_tdes : tdesEnc (hexOf 16 0x0123456789abcdef0123456789abcdef) (ascii "Now is t") = hexOf 8 0x3fa40e8a984d4815 := by decide +kernel
/-- RFC 3720: CRC-32C of 32 zero bytes. -/
theorem test_crc32c : crc32c (zeroBytes 32) = 0x8a9136aa ∧ crc32c (ascii "123456789") = 0xe3069283 := by decide +kernel
/-- SEC 2: twice the base point of P-256. -/
theorem test_p256 : (ecMul p256 2 (some p256.g)).map Prod.fst = some 0x7cf27b188d034f7e8a52380304b51ac3c08969e277f21b35a60b48fc47669978 := by
  decide +kernel

/-- The state a step answers. -/
def after (c : Instr) (s : State) : State :=
  match step { s with pending := c :: s.pending } with
  | .next t => t
  | _ => s

/-- 13 R358: the key opens the Manager's lock; no other value does. -/
theorem test_unlock : lockOpen .manager (after (.unlock .manager 0xA5C3) op) = true ∧ lockOpen .manager (after (.unlock .manager 0xA5C2) op) = false := by
  decide +kernel
/-- 13 R372: EVT_TEST raises the event its low byte names. -/
theorem test_evtTest : raised (after (.evtTest .manager 0x60) (unlocked op)) 0x60 = true := by decide +kernel
/-- 03 R81: MOVI writes the first SIZE bytes of DATA at STAGE. -/
theorem test_movi : ((takeOf (after (.movi 5 .passed) (acting (atCode [2, 3, 8, 0, 0, 0, 0, 0, 1, 2, 3, 4]) op)) 5).map fun t => (stageRead t 7 6, t.pc)) =
    some ([0, 1, 2, 3, 0, 0], 1) := by decide +kernel
/-- 03 R82: a LOOP of COUNT 0 passes over its body. -/
theorem test_loop : (takeOf (after (.loop 5 .passed) (acting { atCode [3, 0, 0, 0, 1] with program := [fit 16 [3, 0, 0, 0, 1], fit 16 [4], fit 16 [10]] } op)) 5).map
    (·.pc) = some 2 := by decide +kernel
/-- 03 R96: a CHECK of two equal ranges sets the condition flag. -/
theorem test_check : (takeOf (after (.check 5 .passed) (acting (atCode [8, 0, 0, 0, 8, 0, 4, 0]) op)) 5).map (·.flag) = some true := by decide +kernel
/-- 03 R88: a SIGNAL of four bytes goes out with the UNIT attribute. -/
theorem test_signal : ((after (.signal 5 .passed) (acting (atCode [5, 0, 0, 0, 1, 2, 3, 4, 0, 0x10]) op)).fabric.port1.writes ++
    (after (.signal 5 .passed) (acting (atCode [5, 0, 0, 0, 1, 2, 3, 4, 0, 0x10]) op)).fabric.port0.writes).map (fun r => (r.addr, r.data, r.attr)) =
    [(0x1000, [1, 2, 3, 4], 1)] := by decide +kernel
/-- 12 R329: a RESET without drain enters at once, and a HOLD requested of a core that does not run it is refused. -/
theorem test_modeReq : (after (.modeReqResetNoDrain .manager 2) (unlocked op)).modes.mode = .reset ∧
    (after (.modeReqHold .manager 1) (unlocked (up .maintenance))).modes.mode = .maintenance := by decide +kernel

end Sys2Proof.Tests
end

section
/-! SUPPORT. Doorbells (02 R46 to R48): the state in which a doorbell whose context is at hand is applied, the first reason for which R47 discards
it, and what the write of a doorbell register then leaves. -/

namespace Sys2Proof.Machine

/-! ### Tables and tenants -/

/-- Two tables in canonical form that read alike at every key are one. -/
theorem table_ext {α : Type} [DecidableEq α] {d : α} {m n : Map α} {a : Nat} (hm : tableFrom d a m = true) (hn : tableFrom d a n = true)
    (h : ∀ i, tableGet d m i = tableGet d n i) : m = n := by
  induction m generalizing n a with
  | nil =>
    cases n with
    | nil => rfl
    | cons q n =>
      simp only [tableFrom, Bool.and_eq_true, decide_eq_true_eq] at hn
      exact absurd (by simpa [tableGet] using (h q.1).symm) hn.1.2
  | cons p m ih =>
    have hp := hm
    simp only [tableFrom, Bool.and_eq_true, decide_eq_true_eq] at hp
    obtain ⟨⟨hap, hpd⟩, hm'⟩ := hp
    cases n with
    | nil => exact absurd (by simpa [tableGet] using h p.1) hpd
    | cons q n =>
      have hq := hn
      simp only [tableFrom, Bool.and_eq_true, decide_eq_true_eq] at hq
      obtain ⟨⟨haq, hqd⟩, hn'⟩ := hq
      have hkey : p.1 = q.1 := by
        rcases Nat.lt_trichotomy p.1 q.1 with hlt | heq | hgt
        · have hbelow : tableGet d n p.1 = d := tableGet_below d hn' (by omega)
          exact absurd (by simpa [tableGet, hbelow, Nat.ne_of_gt hlt] using h p.1) hpd
        · exact heq
        · have hbelow : tableGet d m q.1 = d := tableGet_below d hm' (by omega)
          exact absurd (by simpa [tableGet, hbelow, Nat.ne_of_gt hgt] using (h q.1).symm) hqd
      have hval : p.2 = q.2 := by simpa [tableGet, hkey] using h p.1
      have htail : m = n := by
        refine ih hm' (hkey ▸ hn') fun i => ?_
        by_cases hi : p.1 = i
        · rw [tableGet_below d hm' (by omega), tableGet_below d hn' (by omega)]
        · simpa [tableGet, hi, hkey ▸ hi] using h i
      rw [Prod.ext hkey hval, htail]

section
variable {f : Nat} {g : Tenant → Tenant} {s : State}

@[simp] theorem modTenant_reels : (modTenant f g s).reels = s.reels := rfl
@[simp] theorem modTenant_dailies : (modTenant f g s).dailies = s.dailies := rfl
@[simp] theorem modTenant_events : (modTenant f g s).events = s.events := rfl
@[simp] theorem modTenant_sched : (modTenant f g s).sched = s.sched := rfl

/-- A change of a tenant keeps the canonical form. -/
theorem modTenant_tableOk (h : tableOk Tenant.reset s.tenants = true) : tableOk Tenant.reset (modTenant f g s).tenants = true :=
  tableOk_set _ f _ h

/-- A tenant changed reads as changed. -/
theorem tenantOf_modTenant_self (h : tableOk Tenant.reset s.tenants = true) : tenantOf (modTenant f g s) f = g (tenantOf s f) :=
  tableGet_set_self _ f _ h

/-- Another tenant is as it was. -/
theorem tenantOf_modTenant_ne {k : Nat} (h : tableOk Tenant.reset s.tenants = true) (hk : k ≠ f) :
    tenantOf (modTenant f g s) k = tenantOf s k :=
  tableGet_set_ne _ _ h hk

/-- A tenant changed and changed back leaves the table as it was. -/
theorem modTenant_modTenant_tenants {g' : Tenant → Tenant} {u : State} (h : tableOk Tenant.reset s.tenants = true)
    (hu : u.tenants = (modTenant f g s).tenants) (hg : g' (g (tenantOf s f)) = tenantOf s f) : (modTenant f g' u).tenants = s.tenants := by
  have hok : tableOk Tenant.reset u.tenants = true := hu ▸ modTenant_tableOk h
  have hget : ∀ k, tenantOf u k = tenantOf (modTenant f g s) k := fun k => by simp only [tenantOf, hu]
  refine table_ext (modTenant_tableOk hok) h fun k => ?_
  change tenantOf (modTenant f g' u) k = tenantOf s k
  by_cases hk : k = f
  · rw [hk, tenantOf_modTenant_self hok, hget, tenantOf_modTenant_self h, hg]
  · rw [tenantOf_modTenant_ne hok hk, hget, tenantOf_modTenant_ne h hk]

end

/-! ### What a doorbell may change -/

/-- A state but for the parts that are another's: what a doorbell without a write-back may change. -/
def withBell (s t : State) : State :=
  { s with tenants := t.tenants, events := t.events, reels := t.reels, dailies := t.dailies, sched := t.sched }

/-- Changes one after the other are confined together. -/
theorem withBell_trans {s t u : State} (h : t = withBell s t) (k : u = withBell t u) : u = withBell s u := by
  rw [k, h]; rfl

theorem modTenant_withBell (f : Nat) (g : Tenant → Tenant) (s : State) : modTenant f g s = withBell s (modTenant f g s) := rfl

theorem raise_withBell (e : Nat) (s : State) : raise e s = withBell s (raise e s) := by
  rw [raise_frame]; rfl

/-- Contexts that stay twice stay. -/
theorem contextsStay_trans {s t u : State} (h : contextsStay s t) (k : contextsStay t u) : contextsStay s u := by
  obtain ⟨hr, hd, hs⟩ := h
  obtain ⟨kr, kd, ks⟩ := k
  exact ⟨fun i => by rw [kr i, hr i], fun i => by rw [kd i, hd i], by rw [ks, hs]⟩

/-! ### The use of a context at hand (R42) -/

/-- One state is another but for when contexts were last used, its tables of reels and dailies in canonical form. -/
structure UsedOnly (s u : State) : Prop where
  /-- Nothing beyond what a doorbell may change differs. -/
  frame : u = withBell s u
  /-- The tenants are the same. -/
  tenants : u.tenants = s.tenants
  /-- The events are the same. -/
  events : u.events = s.events
  /-- No context has changed. -/
  stays : contextsStay s u
  /-- The reels are in canonical form. -/
  reels : tableOk ReelObj.reset u.reels = true
  /-- The dailies are in canonical form. -/
  dailies : tableOk DailiesObj.reset u.dailies = true

/-- Uses one after the other. -/
theorem UsedOnly.trans {s t u : State} (h : UsedOnly s t) (k : UsedOnly t u) : UsedOnly s u :=
  { frame := withBell_trans h.frame k.frame, tenants := k.tenants.trans h.tenants, events := k.events.trans h.events,
    stays := contextsStay_trans h.stays k.stays, reels := k.reels, dailies := k.dailies }

/-- A reel looked at is as it was, but for when it was last used. -/
theorem UsedOnly.reelOf {s u : State} (h : UsedOnly s u) (f i : Nat) :
    reelOf u f i = { Machine.reelOf s f i with used := (Machine.reelOf u f i).used } := h.stays.1 (objKey f i)

/-- A dailies looked at is as it was, but for when it was last used. -/
theorem UsedOnly.dailiesOf {s u : State} (h : UsedOnly s u) (f i : Nat) :
    dailiesOf u f i = { Machine.dailiesOf s f i with used := (Machine.dailiesOf u f i).used } := h.stays.2.1 (objKey f i)

/-- The use of a context changes no more than when it was last used. -/
theorem useCtx_usedOnly {s : State} (f : Nat) (n : Bool × Nat) (hr : tableOk ReelObj.reset s.reels = true)
    (hd : tableOk DailiesObj.reset s.dailies = true) : UsedOnly s (useCtx f n s) := by
  have htick : UsedOnly s (tickClock s) := ⟨rfl, rfl, rfl, ⟨fun _ => rfl, fun _ => rfl, rfl⟩, hr, hd⟩
  unfold useCtx; simp only []
  split
  · split
    · refine htick.trans ⟨rfl, rfl, rfl, ⟨fun _ => rfl, fun k => ?_, rfl⟩, hr, tableOk_set _ _ _ hd⟩
      by_cases hk : k = objKey f n.2
      · subst hk; simp [setDailies, Machine.dailiesOf, tickClock, hd]
      · simp [setDailies, tableGet_set_ne, tickClock, hd, hk]
    · exact htick
  · split
    · refine htick.trans ⟨rfl, rfl, rfl, ⟨fun k => ?_, fun _ => rfl, rfl⟩, tableOk_set _ _ _ hr, hd⟩
      by_cases hk : k = objKey f n.2
      · subst hk; simp [setReel, Machine.reelOf, tickClock, hr]
      · simp [setReel, tableGet_set_ne, tickClock, hr, hk]
    · exact htick

/-- The use of a reel leaves the dailies. -/
theorem useCtx_reel_dailies (f i : Nat) (s : State) : (useCtx f (false, i) s).dailies = s.dailies := by
  simp only [useCtx, Bool.false_eq_true, if_false]
  split <;> rfl

/-- The use of a dailies leaves the reels. -/
theorem useCtx_dailies_reels (f i : Nat) (s : State) : (useCtx f (true, i) s).reels = s.reels := by
  simp only [useCtx, if_true]
  split <;> rfl

/-- The uses of several contexts change no more than when they were last used. -/
theorem foldl_useCtx_usedOnly (f : Nat) (ns : List (Bool × Nat)) {s : State} (hr : tableOk ReelObj.reset s.reels = true)
    (hd : tableOk DailiesObj.reset s.dailies = true) : UsedOnly s (ns.foldl (fun t n => useCtx f n t) s) := by
  induction ns generalizing s with
  | nil => exact ⟨rfl, rfl, rfl, ⟨fun _ => rfl, fun _ => rfl, rfl⟩, hr, hd⟩
  | cons n ns ih =>
    have h := useCtx_usedOnly f n hr hd
    exact h.trans (ih h.reels h.dailies)

/-! ### The queue of a tenant (R46) -/

/-- Nothing of a tenant waits, and the tables a doorbell goes through are in canonical form. -/
structure QueueIdle (f : Nat) (s : State) : Prop where
  /-- The tenants are in canonical form. -/
  tenants : tableOk Tenant.reset s.tenants = true
  /-- The reels are in canonical form. -/
  reels : tableOk ReelObj.reset s.reels = true
  /-- The dailies are in canonical form. -/
  dailies : tableOk DailiesObj.reset s.dailies = true
  /-- No command of the tenant awaits its context write. -/
  writing : (tenantOf s f).rc.writing = false
  /-- No doorbell or command of the tenant waits. -/
  waiting : (tenantOf s f).waiting = []

/-- A tenant's queue replaced. -/
def setQueue (xs : List Waiting) (t : Tenant) : Tenant := { t with waiting := xs }

/-- The state in which a doorbell or command that waits alone is applied: queued, and the contexts it needs used. -/
def appliedAt (f : Nat) (x : Waiting) (s : State) : State :=
  (waitNeeds s f x).foldl (fun t n => useCtx f n t) (modTenant f (setQueue [x]) s)

section
variable {f : Nat} {x : Waiting} {s : State} (h : QueueIdle f s)
include h

/-- The queue does not alter what a doorbell or command needs. -/
theorem waitNeeds_queued : waitNeeds (modTenant f (setQueue [x]) s) f x = waitNeeds s f x := by
  cases x <;> simp only [waitNeeds, tenantOf_modTenant_self h.tenants, setQueue]

/-- A doorbell or command that finds nothing waiting, its contexts at hand, is applied and leaves the queue empty. -/
theorem enqueue_ready (hr : (waitNeeds s f x).all (ctxReady s f) = true) :
    enqueue f x s = modTenant f (setQueue []) (waitApply f x (appliedAt f x s)) := by
  have hq : modTenant f (fun t => { t with waiting := t.waiting ++ [x] }) s = modTenant f (setQueue [x]) s := by
    simp only [modTenant, setQueue, h.waiting, List.nil_append]
  have hx := tenantOf_modTenant_self (f := f) (g := setQueue [x]) h.tenants
  have hr' : (waitNeeds s f x).all (ctxReady (modTenant f (setQueue [x]) s) f) = true := hr
  rw [enqueue, hq, drainWaiting, hx]
  simp only [setQueue, drainList, hx, h.writing, waitNeeds_queued h, hr', appliedAt, Bool.false_eq_true, if_false, if_true]
  rfl

/-- Where it is applied, only the queue and the last uses differ. -/
theorem appliedAt_usedOnly : UsedOnly (modTenant f (setQueue [x]) s) (appliedAt f x s) := foldl_useCtx_usedOnly f _ h.reels h.dailies

/-- Where it is applied, the contexts are as they were. -/
theorem appliedAt_contextsStay : contextsStay s (appliedAt f x s) := (appliedAt_usedOnly h).stays

/-- Where it is applied, the tenant differs in its queue. -/
theorem appliedAt_tenantOf_self : tenantOf (appliedAt f x s) f = setQueue [x] (tenantOf s f) := by
  rw [tenantOf, (appliedAt_usedOnly h).tenants]; exact tenantOf_modTenant_self h.tenants

/-- Where it is applied, another tenant is as it was. -/
theorem appliedAt_tenantOf_ne {k : Nat} (hk : k ≠ f) : tenantOf (appliedAt f x s) k = tenantOf s k := by
  rw [tenantOf, (appliedAt_usedOnly h).tenants]; exact tenantOf_modTenant_ne h.tenants hk

end

/-! ### Discarded doorbells (R48) -/

/-- RC_DB_ERR after a discarded doorbell (02 Table 2.11). -/
def noteDiscard (isDailies : Bool) (reason : BitVec 4) (v : Word) (t : Tenant) : Tenant :=
  { t with rc := { t.rc with
      dbPresent := true, dbDailies := isDailies, dbReason := reason, dbCount := satInc t.rc.dbCount, dbLast := BitVec.ofNat 36 v.toNat } }

/-- All that the write of a discarded doorbell does: the port's answer, RC_DB_ERR of its tenant, event 0xA0, and the last use of a context. -/
def BellDiscarded (f : Nat) (v : Word) (s t : State) (isDailies : Bool) (reason : BitVec 4) : Prop :=
  raised t 0xA0 = true ∧ (∀ e, e ≠ 0xA0 → raised t e = raised s e) ∧ contextsStay s t ∧ t = withBell (answered (accept s)) t ∧
  (∀ g, g ≠ f → tenantOf t g = tenantOf s g) ∧ tenantOf t f = noteDiscard isDailies reason v (tenantOf s f)

/-- The port's answer leaves the tenants. -/
theorem tenantOf_answered_accept (s : State) (k : Nat) : tenantOf (answered (accept s)) k = tenantOf s k := rfl

/-- A doorbell discarded for a reason, and the queue empty again, has done no more. -/
theorem discardBell_bellDiscarded {f : Nat} {x : Waiting} {s : State} (h : QueueIdle f (answered (accept s))) (d : Bool) (r : Nat) (v : Word) :
    BellDiscarded f v s (modTenant f (setQueue []) (discardBell f d r v (appliedAt f x (answered (accept s))))) d (BitVec.ofNat 4 r) := by
  let u := appliedAt f x (answered (accept s))
  let w := modTenant f (noteDiscard d (BitVec.ofNat 4 r) v) u
  have hu : UsedOnly (modTenant f (setQueue [x]) (answered (accept s))) u := appliedAt_usedOnly h
  have huok : tableOk Tenant.reset u.tenants = true := hu.tenants ▸ modTenant_tableOk h.tenants
  have hwok : tableOk Tenant.reset (raise 0xA0 w).tenants = true := by rw [raise_tenants]; exact modTenant_tableOk huok
  have hw : ∀ k, tenantOf (raise 0xA0 w) k = tenantOf w k := fun k => by rw [tenantOf, raise_tenants]; rfl
  have hraised : ∀ e, raised w e = raised s e := fun e => by rw [raised, raised, modTenant_events, hu.events]; rfl
  change BellDiscarded f v s (modTenant f (setQueue []) (raise 0xA0 w)) d (BitVec.ofNat 4 r)
  refine ⟨raised_raise_self _ _ (by decide), fun e he => (raised_raise_ne w he).trans (hraised e), ?_, ?_, fun k hk => ?_, ?_⟩
  · simpa [contextsStay, w] using appliedAt_contextsStay (x := x) h
  · have hqueued := modTenant_withBell f (setQueue [x]) (answered (accept s))
    exact withBell_trans (withBell_trans (withBell_trans hqueued hu.frame) (modTenant_withBell f _ u))
      (withBell_trans (raise_withBell _ w) (modTenant_withBell f _ _))
  · rw [tenantOf_modTenant_ne hwok hk, hw, tenantOf_modTenant_ne huok hk, appliedAt_tenantOf_ne h hk, tenantOf_answered_accept]
  · have hwaiting : (tenantOf s f).waiting = [] := h.waiting
    rw [tenantOf_modTenant_self hwok, hw, tenantOf_modTenant_self huok, appliedAt_tenantOf_self h, tenantOf_answered_accept]
    simp only [setQueue, noteDiscard, hwaiting]

/-- A doorbell that has no effect, and the queue empty again, leaves contexts, tenants and events as they were. -/
theorem appliedAt_unqueued {f : Nat} {x : Waiting} {s : State} (h : QueueIdle f (answered (accept s))) :
    let t := modTenant f (setQueue []) (appliedAt f x (answered (accept s)))
    contextsStay s t ∧ t.tenants = s.tenants ∧ t.events = s.events := by
  have hu := appliedAt_usedOnly (x := x) h
  refine ⟨?_, ?_, ?_⟩
  · simpa [contextsStay] using appliedAt_contextsStay (x := x) h
  · have hback : setQueue [] (setQueue [x] (tenantOf (answered (accept s)) f)) = tenantOf (answered (accept s)) f := by
      simp only [setQueue, ← h.waiting]
    rw [modTenant_modTenant_tenants h.tenants hu.tenants hback, answered_tenants, accept_tenants]
  · rw [modTenant_events, hu.events, modTenant_events, answered_events, accept_events]

/-! ### The reasons of R47, the first of those that hold -/

/-- REASON of a REEL_DOORBELL to a reel, of a tenant with an allotment; none where it is not discarded. -/
def reelReason (allotment : Nat) (o : ReelObj) (v : Word) : Option Nat :=
  if allotment ≤ bits 0 20 v then some 1
  else if !o.created then some 2
  else match o.ctx with
    | none => if bits 36 28 v ≠ 0 then some 6 else none
    | some c =>
      if c.state = .aborted then some 2
      else if 2 ^ c.log2 ≤ bits 20 16 v then some 3
      else if bits 36 28 v ≠ 0 then some 6
      else if (bits 20 16 v + 2 ^ c.log2 - c.head) % 2 ^ c.log2 < reelFill c then some 4
      else none

/-- REASON of a DAILIES_DOORBELL to a dailies, of a tenant with an allotment; none where it is not discarded. -/
def dailiesReason (allotment : Nat) (o : DailiesObj) (v : Word) : Option Nat :=
  if allotment ≤ bits 0 20 v then some 1
  else if !o.created then some 2
  else match o.ctx with
    | none => if bits 36 28 v ≠ 0 then some 6 else none
    | some c =>
      if 2 ^ c.log2 ≤ bits 20 16 v then some 3
      else if bits 36 28 v ≠ 0 then some 6
      else if dailiesFill c < (bits 20 16 v + 2 ^ c.log2 - c.head) % 2 ^ c.log2 then some 5
      else none

/-- What follows from a reason chosen by a condition is chosen by the condition. -/
theorem elim_ite_reason {α : Type} (c : Prop) [Decidable c] (a b : Option Nat) (k : α) (d : Nat → α) :
    (if c then a else b).elim k d = if c then a.elim k d else b.elim k d :=
  apply_ite (fun o => o.elim k d) c a b

/-- A REEL_DOORBELL is discarded for its reason; one without a reason moves TAIL of the context at hand, if there is one. -/
theorem reelBell_eq (f : Nat) (v : Word) (s : State) :
    reelBell f v s = (reelReason (tenantOf s f).sheet.reels (reelOf s f (bits 0 20 v)) v).elim
      ((reelOf s f (bits 0 20 v)).ctx.elim s fun c =>
        putReel f (bits 0 20 v) (pace (now32 s) (reelFill c) { c with tail := bits 20 16 v }) s)
      fun r => discardBell f false r v s := by
  unfold reelBell reelReason deadBell
  cases hc : (reelOf s f (bits 0 20 v)).ctx with
  | none => simp only [hc, elim_ite_reason, Option.elim_some, Option.elim_none]
  | some c => simp only [hc, elim_ite_reason, Option.elim_some, Option.elim_none]

/-- A DAILIES_DOORBELL is discarded for its reason; one without a reason moves HEAD of the context at hand, if there is one. -/
theorem dailiesBell_eq (f : Nat) (v : Word) (s : State) :
    dailiesBell f v s = (dailiesReason (tenantOf s f).sheet.dailies (dailiesOf s f (bits 0 20 v)) v).elim
      ((dailiesOf s f (bits 0 20 v)).ctx.elim s fun c => putDailies f (bits 0 20 v) { c with head := bits 20 16 v } s)
      fun r => discardBell f true r v s := by
  unfold dailiesBell dailiesReason deadBell
  cases hc : (dailiesOf s f (bits 0 20 v)).ctx with
  | none => simp only [hc, elim_ite_reason, Option.elim_some, Option.elim_none]
  | some c => simp only [hc, elim_ite_reason, Option.elim_some, Option.elim_none]

section
variable {f r : Nat} {v : Word} {s : State}

/-- A REEL_DOORBELL with a reason is discarded for it. -/
theorem reelBell_discards (h : reelReason (tenantOf s f).sheet.reels (reelOf s f (bits 0 20 v)) v = some r) :
    reelBell f v s = discardBell f false r v s := by
  rw [reelBell_eq, h, Option.elim_some]

/-- One without a reason, of a reel without a context, has no effect. -/
theorem reelBell_idle (h : reelReason (tenantOf s f).sheet.reels (reelOf s f (bits 0 20 v)) v = none)
    (hc : (reelOf s f (bits 0 20 v)).ctx = none) : reelBell f v s = s := by
  rw [reelBell_eq, h, hc, Option.elim_none, Option.elim_none]

/-- One without a reason moves TAIL. -/
theorem reelBell_moves {c : ReelCtx} (h : reelReason (tenantOf s f).sheet.reels (reelOf s f (bits 0 20 v)) v = none)
    (hc : (reelOf s f (bits 0 20 v)).ctx = some c) :
    reelBell f v s = putReel f (bits 0 20 v) (pace (now32 s) (reelFill c) { c with tail := bits 20 16 v }) s := by
  rw [reelBell_eq, h, hc, Option.elim_none, Option.elim_some]

/-- A DAILIES_DOORBELL with a reason is discarded for it. -/
theorem dailiesBell_discards (h : dailiesReason (tenantOf s f).sheet.dailies (dailiesOf s f (bits 0 20 v)) v = some r) :
    dailiesBell f v s = discardBell f true r v s := by
  rw [dailiesBell_eq, h, Option.elim_some]

/-- One without a reason, of a dailies without a context, has no effect. -/
theorem dailiesBell_idle (h : dailiesReason (tenantOf s f).sheet.dailies (dailiesOf s f (bits 0 20 v)) v = none)
    (hc : (dailiesOf s f (bits 0 20 v)).ctx = none) : dailiesBell f v s = s := by
  rw [dailiesBell_eq, h, hc, Option.elim_none, Option.elim_none]

/-- One without a reason moves HEAD. -/
theorem dailiesBell_moves {c : DailiesCtx} (h : dailiesReason (tenantOf s f).sheet.dailies (dailiesOf s f (bits 0 20 v)) v = none)
    (hc : (dailiesOf s f (bits 0 20 v)).ctx = some c) :
    dailiesBell f v s = putDailies f (bits 0 20 v) { c with head := bits 20 16 v } s := by
  rw [dailiesBell_eq, h, hc, Option.elim_none, Option.elim_some]

end

/-! ### Moved rings -/

/-- A write of a context changes no context at hand. -/
theorem writeCtx_rings (f : Nat) (d : Bool) (i : Nat) (b : Bytes) (why : Purpose) (s : State) :
    (writeCtx f d i b why s).reels = s.reels ∧ (writeCtx f d i b why s).dailies = s.dailies := by
  unfold writeCtx issueWrite issue
  rw [issueHeld_frame]
  exact ⟨rfl, rfl⟩

/-- The write-back of a reel keeps its context, and the dailies. -/
theorem writeBack_reel_ctx_dailies (f i : Nat) {s : State} (h : tableOk ReelObj.reset s.reels = true) :
    (reelOf (writeBack f false i s) f i).ctx = (reelOf s f i).ctx ∧ (writeBack f false i s).dailies = s.dailies := by
  simp only [writeBack, Bool.false_eq_true, if_false]
  split
  · rw [reelOf, (writeCtx_rings _ _ _ _ _ _).1, (writeCtx_rings _ _ _ _ _ _).2]
    simp [setReel, h]
  · exact ⟨rfl, rfl⟩

/-- A reel context replaced reads as replaced, its state settled; the dailies stay. -/
theorem putReel_ctx_dailies (f i : Nat) (c : ReelCtx) {s : State} (h : tableOk ReelObj.reset s.reels = true) :
    (reelOf (putReel f i c s) f i).ctx = some (settleReel c) ∧ (putReel f i c s).dailies = s.dailies := by
  unfold putReel; simp only []
  split
  · next hc => exact ⟨hc, rfl⟩
  · have hset : ∀ o : ReelObj, reelOf (setReel f i o (tickClock s)) f i = o := fun o => tableGet_set_self _ _ o h
    split
    · obtain ⟨hctx, hd⟩ := writeBack_reel_ctx_dailies f i (s := setReel f i _ (tickClock s)) (tableOk_set _ _ _ h)
      exact ⟨hctx.trans (by rw [hset]), hd⟩
    · exact ⟨by rw [hset], rfl⟩

/-- A dailies context replaced by one of the same STATE reads as replaced; the reels stay. -/
theorem putDailies_ctx_reels (f i : Nat) {c c' : DailiesCtx} {s : State} (h : tableOk DailiesObj.reset s.dailies = true)
    (hc : (dailiesOf s f i).ctx = some c) (hh : c.halted = c'.halted) :
    (dailiesOf (putDailies f i c' s) f i).ctx = some c' ∧ (putDailies f i c' s).reels = s.reels := by
  unfold putDailies; simp only []
  split
  · next hc' => exact ⟨hc', rfl⟩
  · have hset : ∀ o : DailiesObj, dailiesOf (setDailies f i o (tickClock s)) f i = o := fun o => tableGet_set_self _ _ o h
    rw [if_neg (by simp [hc, hh])]
    exact ⟨by rw [hset], rfl⟩

/-- Pacing changes eligibility and the age timer alone. -/
theorem pace_frame (t : BitVec 32) (old : Nat) (c : ReelCtx) :
    pace t old c = { c with
      eligible := (pace t old c).eligible, aged := (pace t old c).aged, ageRunning := (pace t old c).ageRunning,
      ageStart := (pace t old c).ageStart } := by
  unfold pace startAge; simp only []
  (repeat' split) <;> rfl

/-- Settling changes STATE alone. -/
theorem settleReel_frame (c : ReelCtx) : settleReel c = { c with state := (settleReel c).state } := by
  unfold settleReel; split <;> rfl

/-! ### The doorbell registers -/

/-- A REEL_DOORBELL whose context is at hand waits for none; one at or above the allotment needs none. -/
theorem reelBell_ready {f : Nat} {v : Word} {s : State}
    (hr : bits 0 20 v < (tenantOf s f).sheet.reels → reelReady s f (bits 0 20 v) = true) :
    (waitNeeds s f (.reelBell v)).all (ctxReady s f) = true := by
  simp only [waitNeeds]
  split
  · next hi => simpa [ctxReady] using hr hi
  · rfl

/-- A DAILIES_DOORBELL whose context is at hand waits for none; one at or above the allotment needs none. -/
theorem dailiesBell_ready {f : Nat} {v : Word} {s : State}
    (hr : bits 0 20 v < (tenantOf s f).sheet.dailies → dailiesReady s f (bits 0 20 v) = true) :
    (waitNeeds s f (.dailiesBell v)).all (ctxReady s f) = true := by
  simp only [waitNeeds]
  split
  · next hi => simpa [ctxReady] using hr hi
  · rfl

/-- Where a REEL_DOORBELL is applied, the dailies are as they were. -/
theorem appliedAt_reelBell_dailies (f : Nat) (v : Word) (s : State) : (appliedAt f (.reelBell v) s).dailies = s.dailies := by
  simp only [appliedAt, waitNeeds]
  split
  · exact useCtx_reel_dailies f _ _
  · rfl

/-- Where a DAILIES_DOORBELL is applied, the reels are as they were. -/
theorem appliedAt_dailiesBell_reels (f : Nat) (v : Word) (s : State) : (appliedAt f (.dailiesBell v) s).reels = s.reels := by
  simp only [appliedAt, waitNeeds]
  split
  · exact useCtx_dailies_reels f _ _
  · rfl

section
variable {f : Nat} {x : Waiting} {v : Word} {s : State} (h : QueueIdle f s)
include h

/-- Where a doorbell is applied, its reel has the reason it had. -/
theorem appliedAt_reelReason :
    reelReason (tenantOf (appliedAt f x s) f).sheet.reels (reelOf (appliedAt f x s) f (bits 0 20 v)) v =
      reelReason (tenantOf s f).sheet.reels (reelOf s f (bits 0 20 v)) v := by
  rw [appliedAt_tenantOf_self h, (appliedAt_usedOnly h).reelOf]
  rfl

/-- Where a doorbell is applied, its dailies has the reason it had. -/
theorem appliedAt_dailiesReason :
    dailiesReason (tenantOf (appliedAt f x s) f).sheet.dailies (dailiesOf (appliedAt f x s) f (bits 0 20 v)) v =
      dailiesReason (tenantOf s f).sheet.dailies (dailiesOf s f (bits 0 20 v)) v := by
  rw [appliedAt_tenantOf_self h, (appliedAt_usedOnly h).dailiesOf]
  rfl

/-- Where a doorbell is applied, a reel has the context it had. -/
theorem appliedAt_reel_ctx (i : Nat) : (reelOf (appliedAt f x s) f i).ctx = (reelOf s f i).ctx := by
  rw [(appliedAt_usedOnly h).reelOf]; rfl

/-- Where a doorbell is applied, a dailies has the context it had. -/
theorem appliedAt_dailies_ctx (i : Nat) : (dailiesOf (appliedAt f x s) f i).ctx = (dailiesOf s f i).ctx := by
  rw [(appliedAt_usedOnly h).dailiesOf]; rfl

end

/-- The write of a doorbell register that reaches it finds its tenant's queue idle. -/
theorem mailboxFree_queueIdle {f : Func} {s : State} (hok : tablesOk s = true) (hf : mailboxFree f s) :
    QueueIdle f.toNat (answered (accept s)) := by
  obtain ⟨_, _, hwriting, hwaiting⟩ := hf
  simp only [tablesOk, Bool.and_eq_true] at hok
  obtain ⟨⟨⟨⟨⟨htenants, hreels⟩, hdailies⟩, _⟩, _⟩, _⟩ := hok
  exact ⟨htenants, hreels, hdailies, hwriting, hwaiting⟩

section
variable {f : Func} {v : Word} {s : State} (hok : tablesOk s = true) (hf : mailboxFree f s)
include hok hf

section
variable (hr : bits 0 20 v < (tenantOf s f.toNat).sheet.reels → reelReady s f.toNat (bits 0 20 v) = true)
include hr

/-- The write of a REEL_DOORBELL whose context is at hand applies it at once. -/
theorem exec_reelDoorbell : exec (.reelDoorbell f v) s =
    .next (modTenant f.toNat (setQueue []) (reelBell f.toNat v (appliedAt f.toNat (.reelBell v) (answered (accept s))))) := by
  change Host.Outcome.next (tenantWrite f 0x0100 v (enqueue f.toNat (.reelBell v)) s) = _
  rw [tenantWrite_reaches _ _ _ _ _ hf.1, enqueue_ready (mailboxFree_queueIdle hok hf) (reelBell_ready hr)]
  rfl

/-- One with a reason of R47 is discarded for it. -/
theorem reelDoorbell_discarded {r : Nat}
    (h : reelReason (tenantOf s f.toNat).sheet.reels (reelOf s f.toNat (bits 0 20 v)) v = some r) :
    ∃ t, exec (.reelDoorbell f v) s = .next t ∧ BellDiscarded f.toNat v s t false (BitVec.ofNat 4 r) := by
  have hq := mailboxFree_queueIdle hok hf
  refine ⟨_, exec_reelDoorbell hok hf hr, ?_⟩
  rw [reelBell_discards ((appliedAt_reelReason hq).trans h)]
  exact discardBell_bellDiscarded hq false r v

/-- One without a reason, to a reel held under R44, has no effect (log 90). -/
theorem reelDoorbell_idle (h : reelReason (tenantOf s f.toNat).sheet.reels (reelOf s f.toNat (bits 0 20 v)) v = none)
    (hc : (reelOf s f.toNat (bits 0 20 v)).ctx = none) :
    ∃ t, exec (.reelDoorbell f v) s = .next t ∧ contextsStay s t ∧ t.tenants = s.tenants ∧ t.events = s.events := by
  have hq := mailboxFree_queueIdle hok hf
  refine ⟨_, exec_reelDoorbell hok hf hr, ?_⟩
  rw [reelBell_idle ((appliedAt_reelReason hq).trans h) ((appliedAt_reel_ctx hq _).trans hc)]
  exact appliedAt_unqueued hq

/-- One without a reason moves TAIL of its reel, and leaves the dailies. -/
theorem reelDoorbell_moves {c : ReelCtx}
    (h : reelReason (tenantOf s f.toNat).sheet.reels (reelOf s f.toNat (bits 0 20 v)) v = none)
    (hc : (reelOf s f.toNat (bits 0 20 v)).ctx = some c) :
    ∃ t, exec (.reelDoorbell f v) s = .next t ∧ t.dailies = s.dailies ∧ ∃ d, (reelOf t f.toNat (bits 0 20 v)).ctx = some d ∧
      d.tail = bits 20 16 v ∧ d.head = c.head ∧ d.base = c.base ∧ d.inFlight = c.inFlight := by
  have hq := mailboxFree_queueIdle hok hf
  refine ⟨_, exec_reelDoorbell hok hf hr, ?_⟩
  rw [reelBell_moves ((appliedAt_reelReason hq).trans h) ((appliedAt_reel_ctx hq _).trans hc)]
  obtain ⟨hctx, hdailies⟩ := putReel_ctx_dailies f.toNat (bits 0 20 v) _ (appliedAt_usedOnly hq).reels
  refine ⟨hdailies.trans (appliedAt_reelBell_dailies _ _ _), _, hctx, ?_⟩
  rw [settleReel_frame, pace_frame]
  exact ⟨rfl, rfl, rfl, rfl⟩

end

section
variable (hr : bits 0 20 v < (tenantOf s f.toNat).sheet.dailies → dailiesReady s f.toNat (bits 0 20 v) = true)
include hr

/-- The write of a DAILIES_DOORBELL whose context is at hand applies it at once. -/
theorem exec_dailiesDoorbell : exec (.dailiesDoorbell f v) s =
    .next (modTenant f.toNat (setQueue []) (dailiesBell f.toNat v (appliedAt f.toNat (.dailiesBell v) (answered (accept s))))) := by
  change Host.Outcome.next (tenantWrite f 0x0108 v (enqueue f.toNat (.dailiesBell v)) s) = _
  rw [tenantWrite_reaches _ _ _ _ _ hf.1, enqueue_ready (mailboxFree_queueIdle hok hf) (dailiesBell_ready hr)]
  rfl

/-- One with a reason of R47 is discarded for it. -/
theorem dailiesDoorbell_discarded {r : Nat}
    (h : dailiesReason (tenantOf s f.toNat).sheet.dailies (dailiesOf s f.toNat (bits 0 20 v)) v = some r) :
    ∃ t, exec (.dailiesDoorbell f v) s = .next t ∧ BellDiscarded f.toNat v s t true (BitVec.ofNat 4 r) := by
  have hq := mailboxFree_queueIdle hok hf
  refine ⟨_, exec_dailiesDoorbell hok hf hr, ?_⟩
  rw [dailiesBell_discards ((appliedAt_dailiesReason hq).trans h)]
  exact discardBell_bellDiscarded hq true r v

/-- One without a reason, to a dailies held under R44, has no effect (log 90). -/
theorem dailiesDoorbell_idle (h : dailiesReason (tenantOf s f.toNat).sheet.dailies (dailiesOf s f.toNat (bits 0 20 v)) v = none)
    (hc : (dailiesOf s f.toNat (bits 0 20 v)).ctx = none) :
    ∃ t, exec (.dailiesDoorbell f v) s = .next t ∧ contextsStay s t ∧ t.tenants = s.tenants ∧ t.events = s.events := by
  have hq := mailboxFree_queueIdle hok hf
  refine ⟨_, exec_dailiesDoorbell hok hf hr, ?_⟩
  rw [dailiesBell_idle ((appliedAt_dailiesReason hq).trans h) ((appliedAt_dailies_ctx hq _).trans hc)]
  exact appliedAt_unqueued hq

/-- One without a reason moves HEAD of its dailies and nothing else of its context, and leaves the reels. -/
theorem dailiesDoorbell_moves {c : DailiesCtx}
    (h : dailiesReason (tenantOf s f.toNat).sheet.dailies (dailiesOf s f.toNat (bits 0 20 v)) v = none)
    (hc : (dailiesOf s f.toNat (bits 0 20 v)).ctx = some c) :
    ∃ t, exec (.dailiesDoorbell f v) s = .next t ∧ t.reels = s.reels ∧
      (dailiesOf t f.toNat (bits 0 20 v)).ctx = some { c with head := bits 20 16 v } := by
  have hq := mailboxFree_queueIdle hok hf
  have hu := (appliedAt_dailies_ctx hq (x := .dailiesBell v) (bits 0 20 v)).trans hc
  refine ⟨_, exec_dailiesDoorbell hok hf hr, ?_⟩
  rw [dailiesBell_moves ((appliedAt_dailiesReason hq).trans h) hu]
  obtain ⟨hctx, hreels⟩ :=
    putDailies_ctx_reels f.toNat (bits 0 20 v) (c' := { c with head := bits 20 16 v }) (appliedAt_usedOnly hq).dailies hu rfl
  exact ⟨hreels.trans (appliedAt_dailiesBell_reels _ _ _), hctx⟩

end
end

/-- Settles O37: a doorbell does what the first reason of R47 that holds of it says, or moves its ring where none holds. -/
theorem doorbellsMoveOrAreDiscarded : Obligations.DoorbellsMoveOrAreDiscarded := by
  unfold Obligations.DoorbellsMoveOrAreDiscarded
  intro f v s hok hf _ _
  refine ⟨fun hi => ?_, fun hi => ?_, fun hi hn => ?_, fun hi hn => ?_, fun hi hn hdead hc => ?_, fun hi hn hdead hc => ?_,
    fun c hi hn hc hst => ?_, fun c hi hn hc hst => ?_, fun c hi hn hc => ?_⟩
  · exact reelDoorbell_discarded hok hf (fun h => absurd h (Nat.not_lt.2 hi)) (if_pos hi)
  · exact dailiesDoorbell_discarded hok hf (fun h => absurd h (Nat.not_lt.2 hi)) (if_pos hi)
  · exact reelDoorbell_discarded hok hf (fun _ => by simp [reelReady, hn]) (by simp [reelReason, Nat.not_le.2 hi, hn])
  · exact dailiesDoorbell_discarded hok hf (fun _ => by simp [dailiesReady, hn]) (by simp [dailiesReason, Nat.not_le.2 hi, hn])
  · have hr (_ : bits 0 20 v < (tenantOf s f.toNat).sheet.reels) : reelReady s f.toNat (bits 0 20 v) = true := by simp [reelReady, hdead]
    exact ⟨fun hb => reelDoorbell_discarded hok hf hr (by simp [reelReason, Nat.not_le.2 hi, hn, hc, hb]),
      fun hb => reelDoorbell_idle hok hf hr (by simp [reelReason, Nat.not_le.2 hi, hn, hc, hb]) hc⟩
  · have hr (_ : bits 0 20 v < (tenantOf s f.toNat).sheet.dailies) : dailiesReady s f.toNat (bits 0 20 v) = true := by
      simp [dailiesReady, hdead]
    exact ⟨fun hb => dailiesDoorbell_discarded hok hf hr (by simp [dailiesReason, Nat.not_le.2 hi, hn, hc, hb]),
      fun hb => dailiesDoorbell_idle hok hf hr (by simp [dailiesReason, Nat.not_le.2 hi, hn, hc, hb]) hc⟩
  · exact reelDoorbell_discarded hok hf (fun _ => by simp [reelReady, hc]) (by simp [reelReason, Nat.not_le.2 hi, hn, hc, hst])
  · have hr (_ : bits 0 20 v < (tenantOf s f.toNat).sheet.reels) : reelReady s f.toNat (bits 0 20 v) = true := by simp [reelReady, hc]
    refine ⟨fun hp => ?_, fun hp hb => ?_, fun hp hb hfill => ?_, fun hp hb hfill => ?_⟩
    · exact reelDoorbell_discarded hok hf hr (by simp [reelReason, Nat.not_le.2 hi, hn, hc, hst, hp])
    · exact reelDoorbell_discarded hok hf hr (by simp [reelReason, Nat.not_le.2 hi, hn, hc, hst, Nat.not_le.2 hp, hb])
    · exact reelDoorbell_discarded hok hf hr (by simp [reelReason, Nat.not_le.2 hi, hn, hc, hst, Nat.not_le.2 hp, hb, hfill])
    · exact reelDoorbell_moves hok hf hr (by simp [reelReason, Nat.not_le.2 hi, hn, hc, hst, Nat.not_le.2 hp, hb, Nat.not_lt.2 hfill]) hc
  · have hr (_ : bits 0 20 v < (tenantOf s f.toNat).sheet.dailies) : dailiesReady s f.toNat (bits 0 20 v) = true := by
      simp [dailiesReady, hc]
    refine ⟨fun hp => ?_, fun hp hb => ?_, fun hp hb hfill => ?_, fun hp hb hfill => ?_⟩
    · exact dailiesDoorbell_discarded hok hf hr (by simp [dailiesReason, Nat.not_le.2 hi, hn, hc, hp])
    · exact dailiesDoorbell_discarded hok hf hr (by simp [dailiesReason, Nat.not_le.2 hi, hn, hc, Nat.not_le.2 hp, hb])
    · exact dailiesDoorbell_discarded hok hf hr (by simp [dailiesReason, Nat.not_le.2 hi, hn, hc, Nat.not_le.2 hp, hb, hfill])
    · exact dailiesDoorbell_moves hok hf hr
        (by simp [dailiesReason, Nat.not_le.2 hi, hn, hc, Nat.not_le.2 hp, hb, Nat.not_lt.2 hfill]) hc

end Sys2Proof.Machine
end

section
/-! SUPPORT. Takes under the operations of the codes (03 R74 to R103): what leaves every take as it was, the record a take that ends is left with,
the code that starts, and the single burst that goes out. -/

namespace Sys2Proof.Machine

/-! ### What leaves the takes alone -/

section
variable {s : State}

/-- Operations in turn leave the takes alone where each does. -/
theorem foldl_takes {α : Type} {f : State → α → State} (hf : ∀ s x, (f s x).takes = s.takes) (xs : List α) (s : State) :
    (xs.foldl f s).takes = s.takes := by
  induction xs generalizing s with
  | nil => rfl
  | cons x xs ih => exact (ih (f s x)).trans (hf s x)

@[simp] theorem setPin_takes (i : Nat) (f : Option Nat) : (setPin i f s).takes = s.takes := rfl

@[simp] theorem settlePins_takes (f : Nat) : (settlePins f s).takes = s.takes := by
  unfold settlePins; simp only []
  split <;> exact foldl_takes (fun _ _ => setPin_takes _ _) _ _

@[simp] theorem settleAllPins_takes : (settleAllPins s).takes = s.takes := foldl_takes (fun _ _ => settlePins_takes _) _ _

@[simp] theorem setFenced_takes (k i : Nat) (v : Bool) : (setFenced k i v s).takes = s.takes := rfl

@[simp] theorem clearUnit_takes (k i : Nat) : (clearUnit k i s).takes = s.takes := rfl

@[simp] theorem wipeCore_takes (k i : Nat) : (wipeCore k i s).takes = s.takes := by unfold wipeCore; split <;> rfl

@[simp] theorem opEnded_takes (k i : Nat) : (opEnded k i s).takes = s.takes := by
  unfold opEnded
  split
  · split
    · exact wipeCore_takes k i
    · rfl
  · rfl

/-- An entry changes the events and the log, not the takes. -/
@[simp] theorem logAs_takes (m : Mode) (a b c d e f g : Nat) : (logAs m a b c d e f g s).takes = s.takes := by rw [logAs_frame]; rfl

@[simp] theorem takeAux_takes (m : Mode) : (takeAux m s).takes = s.takes := by
  unfold takeAux; simp only []
  split
  · split
    · exact raise_takes _ _
    · rfl
  · rfl

@[simp] theorem turnMode_takes (m : Mode) : (turnMode m s).takes = s.takes := by
  unfold turnMode; simp only [takeAux_takes, wipeCores_takes]
  show (ite _ _ _ : State).takes = _
  split <;> simp

@[simp] theorem changeMode_takes (m : Mode) (st : Status) : (changeMode m st s).takes = s.takes :=
  (turnMode_takes m).trans (logAs_takes ..)

@[simp] theorem settleMode_takes : (settleMode s).takes = s.takes := by
  unfold settleMode
  split
  · simp
  · split <;> simp

@[simp] theorem recordFence_takes (k i c e : Nat) : (recordFence k i c e s).takes = s.takes := by simp [recordFence]

@[simp] theorem fenceUnit_takes (k i c e : Nat) : (fenceUnit k i c e s).takes = s.takes := by
  unfold fenceUnit
  split
  · rfl
  · simp only [settleMode_takes]
    split <;> split <;> simp

@[simp] theorem leaveUnit_takes (t : Take) : (leaveUnit t s).takes = s.takes := by
  unfold leaveUnit
  split
  · split
    · simp only []; split <;> simp
    · rfl
  · rfl

/-- A request changes the fabric, the buckets, the marks and the events, not the takes. -/
@[simp] theorem issue_takes (w p : Bool) (r : Request) : (issue w p r s).takes = s.takes := by rw [issue, issueHeld_frame]

@[simp] theorem writeCtx_takes (f : Nat) (d : Bool) (i : Nat) (b : Bytes) (why : Purpose) : (writeCtx f d i b why s).takes = s.takes := by
  rw [writeCtx, issueWrite, issue_takes]

@[simp] theorem writeBack_takes (f : Nat) (d : Bool) (i : Nat) : (writeBack f d i s).takes = s.takes := by
  unfold writeBack; simp only []
  split <;> split <;> simp

@[simp] theorem putReel_takes (f i : Nat) (c : ReelCtx) : (putReel f i c s).takes = s.takes := by
  unfold putReel; simp only []
  split
  · rfl
  · split
    · rw [writeBack_takes]; rfl
    · rfl

@[simp] theorem haltReel_takes (f i : Nat) (st : Status) : (haltReel f i st s).takes = s.takes := by
  unfold haltReel
  split
  · split <;> simp
  · rfl

@[simp] theorem faultGroup_takes (i : Nat) : (faultGroup i s).takes = s.takes := by
  rw [faultGroup, raiseLog_takes, mapGroup]
  exact foldl_takes (fun t _ => setSlot_takes t _ _) _ _

end

/-! ### A take replaced, and a take that ends -/

/-- A take of a number is found with that number. -/
theorem takeOf_id {s : State} {id : Nat} {t : Take} (h : takeOf s id = some t) : t.id = id := by
  simpa using List.find?_some h

/-- States with the same takes give the same take of a number. -/
theorem takeOf_congr {s v : State} (h : v.takes = s.takes) (id : Nat) : takeOf v id = takeOf s id := by rw [takeOf, takeOf, h]

/-- A take put back under its number is the take of that number. -/
theorem takeOf_setTake {s : State} {w t : Take} (h : takeOf s w.id = some t) : takeOf (setTake w s) w.id = some w := by
  unfold takeOf setTake at *
  generalize s.takes = us at h ⊢
  induction us with
  | nil => simp at h
  | cons u us ih =>
    by_cases hu : u.id = w.id
    · simp [hu]
    · rw [List.find?_cons_of_neg (by simpa using hu)] at h
      simpa [hu] using ih h

/-- The record a take that ends with a status is left with (R22): the inline result for success alone. -/
def endedTake (t : Take) (st : Status) (s : State) : Take :=
  { (withdraw t st s).1 with phase := .ended st, todo := [], buffer := [], reads := 0, parked := none, op := none, used := [],
                             result := if st = 0 then t.result else none }

/-- The end of a take replaces its record and changes no other. -/
theorem endTake_takes (t : Take) (st : Status) (s : State) : (endTake t st s).takes = (setTake (endedTake t st s) s).takes := by
  have hset : (setTake (endedTake t st s) (detach t.id (withdraw t st s).2)).takes = (setTake (endedTake t st s) s).takes := rfl
  unfold endTake; simp only []
  split
  · rw [haltReel_takes, settleAllPins_takes, leaveUnit_takes]; exact hset
  · rw [settleAllPins_takes, leaveUnit_takes]; exact hset

/-- A take that ends is found ended. -/
theorem takeOf_endTake {s : State} {t u : Take} (st : Status) (h : takeOf s t.id = some u) :
    takeOf (endTake t st s) t.id = some (endedTake t st s) :=
  (takeOf_congr (endTake_takes t st s) t.id).trans (takeOf_setTake (w := endedTake t st s) h)

/-- A take that ends without success has no inline result. -/
theorem endTake_ends {s : State} {t u : Take} {st : Status} (hst : st ≠ 0) (h : takeOf s t.id = some u) :
    ∃ w, takeOf (endTake t st s) t.id = some w ∧ w.phase = .ended st ∧ w.result = none :=
  ⟨_, takeOf_endTake st h, rfl, if_neg hst⟩

/-! ### A code that starts -/

/-- A take as its present code starts: the code is counted against the budget (R83). -/
def counted (t : Take) : Take := { t with count := t.count + 1 }

section
variable {id op : Nat} {t : Take} {s : State}

theorem codeStarts.found (h : codeStarts id op t s) : takeOf s id = some t := h.1

theorem codeStarts.phase (h : codeStarts id op t s) : t.phase = .ready := h.2.1

theorem codeStarts.opcode (h : codeStarts id op t s) : codeOpcode (codeAt t) = op := h.2.2.1

/-- A take that can start its code starts it. -/
theorem startCode_runs (h : codeStarts id op t s) (run : Take → Bytes → State → State) :
    startCode id op .passed run s = run (counted t) (codeAt t) s := by
  obtain ⟨htake, hphase, hop, habort, hbudget, hranges⟩ := h
  simp [startCode, htake, hphase, hop, habort, Nat.not_lt.2 hbudget, hranges, counted]

/-- The take that starts a code is found under its own number. -/
theorem takeOf_of_codeStarts (h : codeStarts id op t s) : takeOf s t.id = some t := by
  rw [takeOf_id h.found]; exact h.found

/-- A code that puts its take back leaves it found. -/
theorem takeOf_setTake_of_codeStarts (h : codeStarts id op t s) {w : Take} (hw : w.id = t.id) : takeOf (setTake w s) id = some w := by
  have hid : w.id = id := hw.trans (takeOf_id h.found)
  rw [← hid]
  exact takeOf_setTake (by rw [hw]; exact takeOf_of_codeStarts h)

/-- A code that ends its take, with whatever it leaves of the takes, leaves it found ended. -/
theorem takeOf_endTake_of_codeStarts (h : codeStarts id op t s) {w : Take} (hw : w.id = t.id) (st : Status) {v : State}
    (hv : v.takes = s.takes) : takeOf (endTake w st v) id = some (endedTake w st v) := by
  have hid : w.id = id := hw.trans (takeOf_id h.found)
  rw [← hid]
  exact takeOf_endTake st (by rw [hw, takeOf_congr hv]; exact takeOf_of_codeStarts h)

end

section
variable {id : Nat} {t : Take} {s : State}

theorem exec_move (h : codeStarts id 1 t s) : exec (.move id .passed) s = .next (runMove (counted t) (codeAt t) s) := by
  show execMove id .passed s = _
  simp [execMove, h.found, h.phase, startCode_runs h]

theorem exec_movi (h : codeStarts id 2 t s) : exec (.movi id .passed) s = .next (runMovi (counted t) (codeAt t) s) :=
  congrArg Host.Outcome.next (startCode_runs h runMovi)

theorem exec_loop (h : codeStarts id 3 t s) : exec (.loop id .passed) s = .next (runLoop (counted t) (codeAt t) s) :=
  congrArg Host.Outcome.next (startCode_runs h runLoop)

theorem exec_wait (h : codeStarts id 4 t s) : exec (.wait id .passed) s = .next (runWait (counted t) (codeAt t) s) := by
  show execWait id .passed s = _
  simp [execWait, h.found, h.phase, startCode_runs h]

theorem exec_signal (h : codeStarts id 5 t s) : exec (.signal id .passed) s = .next (runSignal (counted t) (codeAt t) s) := by
  show execSignal id .passed s = _
  simp [execSignal, h.found, h.phase, startCode_runs h]

theorem exec_key (h : codeStarts id 6 t s) (tagOk : Bool) :
    exec (.key id .passed tagOk) s = .next (runKey tagOk (counted t) (codeAt t) s) :=
  congrArg Host.Outcome.next (startCode_runs h (runKey tagOk))

theorem exec_check (h : codeStarts id 8 t s) : exec (.check id .passed) s = .next (runCheck (counted t) (codeAt t) s) :=
  congrArg Host.Outcome.next (startCode_runs h runCheck)

theorem exec_skip (h : codeStarts id 9 t s) : exec (.skip id .passed) s = .next (runSkip (counted t) (codeAt t) s) :=
  congrArg Host.Outcome.next (startCode_runs h runSkip)

theorem exec_endCode (h : codeStarts id 10 t s) : exec (.endCode id .passed) s = .next (runEnd (counted t) (codeAt t) s) := by
  show execEndCode id .passed s = _
  simp [execEndCode, h.found, h.phase, startCode_runs h]

end

end Sys2Proof.Machine
end

section
/-! SUPPORT. The codes a sequencer runs itself (03 R81 to R91, R96, R98): the statuses with which a KEY fails, what each code leaves its take, and the
last acknowledgement a WAIT waits for. -/

namespace Sys2Proof.Machine

/-! ### The failures of a KEY are no success -/

/-- Every failure of a computation carries a status other than success. -/
def FailsNonzero {α : Type} (x : Except Status α) : Prop := ∀ st, x = .error st → st ≠ 0

theorem failsNonzero_ok {α : Type} (a : α) : FailsNonzero (.ok a) := by simp [FailsNonzero]

theorem failsNonzero_error {α : Type} {st : Status} (h : st ≠ 0) : FailsNonzero (.error st : Except Status α) := by
  simpa [FailsNonzero] using h

theorem failsNonzero_need (c : Bool) {st : Status} (h : st ≠ 0) : FailsNonzero (need c st) := by
  unfold need
  split
  · exact failsNonzero_ok ()
  · exact failsNonzero_error h

theorem failsNonzero_bind {α β : Type} {x : Except Status α} {f : α → Except Status β} (hx : FailsNonzero x) (hf : ∀ a, FailsNonzero (f a)) :
    FailsNonzero (x >>= f) := by
  cases x with
  | error e => exact failsNonzero_error (hx e rfl)
  | ok a => exact hf a

theorem stBlobLength_ne_zero : stBlobLength ≠ 0 := by decide
theorem stBlobInvalid_ne_zero : stBlobInvalid ≠ 0 := by decide

theorem nativeHead_failsNonzero (b : Bytes) : FailsNonzero (nativeHead b) := by
  unfold nativeHead
  refine failsNonzero_bind (failsNonzero_need _ stBlobLength_ne_zero) fun _ => ?_
  refine failsNonzero_bind (failsNonzero_need _ stBlobInvalid_ne_zero) fun _ => ?_
  refine failsNonzero_bind (failsNonzero_need _ stBlobLength_ne_zero) fun _ => ?_
  exact failsNonzero_need _ stBlobInvalid_ne_zero

/-- A native blob is refused with BLOB_LENGTH_MISMATCH or BLOB_INVALID, not with success. -/
theorem nativeOpen_failsNonzero (s : State) (f : Nat) (b : Bytes) : FailsNonzero (nativeOpen s f b) := by
  unfold nativeOpen
  refine failsNonzero_bind (nativeHead_failsNonzero b) fun _ => ?_
  split
  · exact failsNonzero_error stBlobInvalid_ne_zero
  · refine failsNonzero_bind (failsNonzero_need _ stBlobInvalid_ne_zero) fun _ => ?_
    exact failsNonzero_bind (failsNonzero_need _ stBlobInvalid_ne_zero) fun _ => failsNonzero_ok _

theorem x143Head_failsNonzero (b : Bytes) : FailsNonzero (x143Head b) := by
  unfold x143Head
  refine failsNonzero_bind (failsNonzero_need _ stBlobLength_ne_zero) fun _ => ?_
  refine failsNonzero_bind (failsNonzero_need _ stBlobInvalid_ne_zero) fun _ => ?_
  refine failsNonzero_bind (failsNonzero_need _ stBlobLength_ne_zero) fun _ => ?_
  exact failsNonzero_need _ stBlobLength_ne_zero

/-- A key block is refused with BLOB_LENGTH_MISMATCH or BLOB_INVALID, not with success. -/
theorem x143Open_failsNonzero (s : State) (f : Nat) (b : Bytes) : FailsNonzero (x143Open s f b) := by
  unfold x143Open
  refine failsNonzero_bind (x143Head_failsNonzero b) fun _ => ?_
  split
  · exact failsNonzero_error stBlobInvalid_ne_zero
  · dsimp only
    split
    · refine failsNonzero_bind (failsNonzero_need _ stBlobLength_ne_zero) fun _ => ?_
      refine failsNonzero_bind (failsNonzero_need _ stBlobInvalid_ne_zero) fun _ => ?_
      exact failsNonzero_bind (failsNonzero_need _ stBlobInvalid_ne_zero) fun _ => failsNonzero_ok _
    · exact failsNonzero_error stBlobInvalid_ne_zero

/-- A slot is refused with SLOT_EMPTY, OWNER_MISMATCH or USAGE_DENIED, not with success. -/
theorem slotCheck_ne_zero {s : State} {f i : Nat} {ns : List KeyNeed} {st : Status} (h : slotCheck s f i ns = some st) : st ≠ 0 := by
  simp only [slotCheck] at h
  split at h
  · cases h; decide
  · split at h
    · cases h; decide
    · split at h
      · cases h
      · cases h; decide

/-! ### KEY (R89 to R91) -/

section
variable {t : Take} {c : Bytes} {s : State}

/-- A slot that passes its checks is bound and recorded, where no recorded content stands at this place. -/
theorem keyResident_binds (hr : recorded t = none) (h : slotCheck s t.tenant (keySlot c) (pairedNeeds t.program t.pc) = none) :
    keyResident true t c s =
      let b := Binding.resident (keySlot c) (slotOf s (keySlot c)).gen (slotKey s (keySlot c))
      setTake (nextCode (bindKey (keyPos c) b (reserve (.binding b) t))) s := by
  simp [keyResident, hr, h]

/-- A slot that fails a check ends the take with the status of the check. -/
theorem keyResident_fails {st : Status} (hr : recorded t = none)
    (h : slotCheck s t.tenant (keySlot c) (pairedNeeds t.program t.pc) = some st) : keyResident true t c s = endTake t st s := by
  by_cases he : st = stSlotEmpty
  · simp [keyResident, hr, h, he]
  · simp [keyResident, hr, h, he]

/-- A slot whose TAG fails is FAULTED and ends the take with FAULT_DETECTED. -/
theorem keyResident_faults (hr : recorded t = none) (h : slotCheck s t.tenant (keySlot c) (pairedNeeds t.program t.pc) = none) :
    keyResident false t c s = endTake t stFaultDetected (faultGroup (keySlot c) s) := by
  simp [keyResident, hr, h]

/-- What the unwrapping of a KEY code's blob or key block gives. -/
def keyOpened (t : Take) (c : Bytes) (s : State) : Except Status KeyMat :=
  let blob := stageRead t (codeStage c) (keyBlobLen c)
  if keySource c = 1 then nativeOpen s t.tenant blob else x143Open s t.tenant blob

/-- An unwrapping fails with a status other than success. -/
theorem keyOpened_failsNonzero (t : Take) (c : Bytes) (s : State) : FailsNonzero (keyOpened t c s) := by
  unfold keyOpened; simp only []
  split
  · exact nativeOpen_failsNonzero _ _ _
  · exact x143Open_failsNonzero _ _ _

/-- A blob is bound where it opens, and ends the take where it does not, whether or not the key store reads a key for it. -/
theorem keyBlob_eq (t : Take) (c : Bytes) (s : State) :
    keyBlob true t c s = match keyOpened t c s with
      | .ok k => setTake (nextCode (bindKey (keyPos c) (.blob k) t)) s
      | .error st => endTake t st s := by
  unfold keyBlob keyOpened; simp only []
  split <;> rfl

theorem keyBlob_binds {k : KeyMat} (h : keyOpened t c s = .ok k) :
    keyBlob true t c s = setTake (nextCode (bindKey (keyPos c) (.blob k) t)) s := by rw [keyBlob_eq, h]

theorem keyBlob_fails {st : Status} (h : keyOpened t c s = .error st) : keyBlob true t c s = endTake t st s := by rw [keyBlob_eq, h]

end

/-! ### The last acknowledgement of a WAIT (R86) -/

/-- With nothing held back an answer leaves the takes as they are. -/
theorem afterAnswer_takes {s : State} (h : s.fabric.held = []) : (afterAnswer s).takes = s.takes := by
  rw [afterAnswer, settleAck, pumpHeld, h]; rfl

/-- An acknowledgement that finds its request closes it and brings what it brings. -/
theorem exec_fabricWriteResponse_ok {port : Bool} {tag : BitVec 10} {r : Request} {s : State} (hruns : portRuns s port = true)
    (hr : (outstandingOn s port true).find? (fun q => q.tag = tag.toNat) = some r) :
    exec (.fabricWriteResponse port tag ⟨0, false⟩) s = .next (afterAnswer (writeDone r (closeRequest port true tag.toNat s))) := by
  show Host.Outcome.next _ = _
  simp [hruns, answer, hr]

/-- The acknowledgement of a take's write takes it off the writes it waits for. -/
theorem writeDone_take {t : Take} {r : Request} {n : Nat} {s : State} (hr : r.purpose = .takeWrite t.id n) (ht : takeOf s t.id = some t) :
    writeDone r s = writesDone { t with writes := t.writes - 1 } (setTake { t with writes := t.writes - 1 } s) := by
  simp [writeDone, hr, ht]

/-- A take that waits for its writes at a code other than SIGNAL goes on with the last of them. -/
theorem writesDone_goesOn {t : Take} {s : State} (hphase : t.phase = .waitWrites) (hop : codeOpcode (codeAt t) ≠ 5) (ha : aborted s t = false) :
    writesDone t s = if t.writes = 0 then setTake (nextCode t) s else s := by
  by_cases hw : t.writes = 0 <;> simp [writesDone, hphase, hw, ha, hop]

theorem closeRequest_held (port write : Bool) (tag : Nat) (s : State) : (closeRequest port write tag s).fabric.held = s.fabric.held := by
  cases port <;> rfl

/-- An acknowledgement that comes to a take waiting at a WAIT takes a write off it, and with the last one the take goes on. -/
theorem acknowledged_takeOf {r : Request} {t : Take} {n : Nat} {s : State} (ht : takeOf s t.id = some t) (hphase : t.phase = .waitWrites)
    (hop : codeOpcode (codeAt t) ≠ 5) (ha : aborted s t = false) (hheld : s.fabric.held = []) (hr : r.purpose = .takeWrite t.id n)
    (hw : 1 ≤ t.writes) :
    takeOf (afterAnswer (writeDone r s)) t.id =
      some (if t.writes = 1 then nextCode { t with writes := 0 } else { t with writes := t.writes - 1 }) := by
  let w := { t with writes := t.writes - 1 }
  have hput : takeOf (setTake w s) t.id = some w := takeOf_setTake (w := w) ht
  have hgo : writeDone r s = if w.writes = 0 then setTake (nextCode w) (setTake w s) else setTake w s :=
    (writeDone_take hr ht).trans (writesDone_goesOn (t := w) hphase hop ha)
  rw [hgo]
  by_cases h1 : t.writes = 1
  · have hw0 : w = { t with writes := 0 } := by simp [w, h1]
    rw [if_pos (by simp [w, h1]), if_pos h1, takeOf_congr (afterAnswer_takes (by exact hheld)), ← hw0]
    exact takeOf_setTake (w := nextCode w) hput
  · have hw0 : w.writes ≠ 0 := by simp only [w]; omega
    rw [if_neg hw0, if_neg h1, takeOf_congr (afterAnswer_takes (by exact hheld)), hput]

/-! ### CHECK (R96) -/

/-- A CHECK that holds, or does not end its take, sets the flag and goes on. -/
theorem runCheck_goesOn {t : Take} {c : Bytes} {s : State} {held : Bool} (hh : held = xor (checkHolds t c) (ctrlBits c 4 1 = 1))
    (h : held = true ∨ ctrlBits c 5 1 ≠ 1) : runCheck t c s = setTake (nextCode { t with flag := held }) s := by
  unfold runCheck; simp only [← hh]
  exact if_neg (by rcases h with h | h <;> simp [h])

/-- A CHECK that fails with END_ON_FAIL ends its take. -/
theorem runCheck_ends {t : Take} {c : Bytes} {s : State} {held : Bool} (hh : held = xor (checkHolds t c) (ctrlBits c 4 1 = 1))
    (hf : held = false) (he : ctrlBits c 5 1 = 1) : runCheck t c s = endTake { t with flag := held } stCheckFail s := by
  unfold runCheck; simp only [← hh]
  exact if_pos (by simp [hf, he])

/-- LOOP leaves its take in the body, or past it where COUNT is 0. -/
theorem runLoop_eq (t : Take) (c : Bytes) (s : State) :
    runLoop t c s = setTake (if loopCount c = 0 then goTo (t.pc + loopBody c + 1) t else { t with
      pc := t.pc + 1, loops := { first := t.pc + 1, past := t.pc + loopBody c + 1, count := loopCount c, iter := 0 } :: t.loops }) s := by
  unfold runLoop; simp only []
  split <;> rfl

/-- A code that ends its take without success leaves it ENDED with no inline result. -/
theorem ends_of_codeStarts {id opcode : Nat} {t w : Take} {s v : State} {st : Status} {i : Instr} (h : codeStarts id opcode t s)
    (hw : w.id = t.id) (hv : v.takes = s.takes) (hst : st ≠ 0) (hi : exec i s = .next (endTake w st v)) :
    ∃ v, exec i s = .next v ∧ ∃ x, takeOf v id = some x ∧ x.phase = .ended st ∧ x.result = none :=
  ⟨_, hi, _, takeOf_endTake_of_codeStarts h hw st hv, rfl, if_neg hst⟩


/-- Settles O45: each code is run as its take starts it, and the take it leaves is found under its number. -/
theorem sequencerCodesRun : Obligations.SequencerCodesRun := by
  unfold Obligations.SequencerCodesRun
  intro id port tag r t s c u becomes ends taken held slotKey' slotOk blob opened
  have puts {opcode : Nat} {i : Instr} {w : Take} (h : codeStarts id opcode t s) (hw : w.id = t.id) (hi : exec i s = .next (setTake w s)) :
      becomes i w := ⟨hi, takeOf_setTake_of_codeStarts h hw⟩
  refine ⟨fun h => ?movi, fun h => ?loop, fun h => ?skip, fun h hh => ?checkGoesOn, fun h hf he => ?checkEnds, fun h => ?wait,
    fun ht hphase hop ha hheld hruns hr hn hw => ?acknowledged, fun h hsrc hrec => ?slot, fun h hsrc => ?blob⟩
  case movi => exact puts h rfl (exec_movi h)
  case loop => exact puts h (by split <;> rfl) ((exec_loop h).trans (congrArg _ (runLoop_eq (counted t) c s)))
  case skip => exact puts h (by split <;> rfl) (exec_skip h)
  case checkGoesOn => exact puts h rfl ((exec_check h).trans (congrArg _ (runCheck_goesOn (t := counted t) rfl hh)))
  case checkEnds =>
    exact ends_of_codeStarts (w := { counted t with flag := held }) h rfl rfl (by decide)
      ((exec_check h).trans (congrArg _ (runCheck_ends (t := counted t) rfl hf he)))
  case wait => exact puts h (by split <;> rfl) (exec_wait h)
  case acknowledged =>
    obtain ⟨n, hn⟩ := hn
    exact ⟨_, exec_fabricWriteResponse_ok hruns hr,
      acknowledged_takeOf ht hphase (by rw [hop]; decide) ha ((closeRequest_held ..).trans hheld) hn hw⟩
  case slot =>
    have runs (tagOk : Bool) : exec (.key id .passed tagOk) s = .next (keyResident tagOk (counted t) c s) :=
      (exec_key h tagOk).trans (congrArg _ (if_pos hsrc))
    have hrec' : recorded (counted t) = none := hrec
    refine ⟨fun hok => ?_, fun st hst => ?_, fun hok => ?_⟩
    · exact puts h rfl ((runs true).trans (congrArg _ (keyResident_binds (t := counted t) hrec' hok)))
    · exact ends_of_codeStarts (w := counted t) h rfl rfl (slotCheck_ne_zero hst)
        ((runs true).trans (congrArg _ (keyResident_fails (t := counted t) hrec' hst)))
    · exact ends_of_codeStarts (w := counted t) h rfl (faultGroup_takes _) (by decide)
        ((runs false).trans (congrArg _ (keyResident_faults (t := counted t) hrec' hok)))
  case blob =>
    have runs : exec (.key id .passed true) s = .next (keyBlob true (counted t) c s) :=
      (exec_key h true).trans (congrArg _ (if_neg hsrc))
    refine ⟨fun k hk => ?_, fun st hst => ?_⟩
    · exact puts h rfl (runs.trans (congrArg _ (keyBlob_binds (t := counted t) hk)))
    · exact ends_of_codeStarts (w := counted t) h rfl rfl (keyOpened_failsNonzero _ _ _ st hst)
        (runs.trans (congrArg _ (keyBlob_fails (t := counted t) hst)))

end Sys2Proof.Machine
end

section
/-! SUPPORT. Host accesses of takes (03 R75 to R80, R88, R99 to R103): a request that goes out at once, the single burst of a range that stays within
one 64-byte line, and what a code that issues it leaves its take. -/

namespace Sys2Proof.Machine

/-! ### A request that goes out (14 R378, R379) -/

section
variable {s : State}

@[simp] theorem chargeBytes_fabric (f len : Nat) : (chargeBytes f len s).fabric = s.fabric := by rw [chargeBytes_frame]

@[simp] theorem markDirty_fabric (f : Nat) (addr : Word) : (markDirty f addr s).fabric = s.fabric := by rw [markDirty_frame]

@[simp] theorem portOf_setPort (p : Bool) (x : Port) : portOf (setPort p x s) p = x := by cases p <;> rfl

/-- What is outstanding is held in the fabric alone. -/
theorem outstandingOn_congr {v : State} (h : v.fabric = s.fabric) (p write : Bool) : outstandingOn v p write = outstandingOn s p write := by
  rw [outstandingOn, outstandingOn, portOf, portOf, h]

/-- A port with a request added to one direction. -/
def withRequest (write : Bool) (r : Request) (x : Port) : Port :=
  if write then { x with writes := x.writes ++ [r] } else { x with reads := x.reads ++ [r] }

/-- A request that can go out stands on its port under the free tag. -/
theorem issueHeld_fabric {h : Held} {tag : Nat} (hfree : freeTag (outstandingOn s (routePort s h.port) h.write) 1024 = some tag)
    (hawake : asleep s h.req.addr = false) (hserves : portServes s (routePort s h.port) = true) :
    (issueHeld h s).fabric =
      (setPort (routePort s h.port) (withRequest h.write { h.req with tag := tag } (portOf s (routePort s h.port))) s).fabric := by
  rw [outstandingOn] at hfree
  have hgoes : (asleep s h.req.addr || !portServes s (routePort s h.port)) = false := by rw [hawake, hserves]; rfl
  unfold issueHeld
  simp only [hfree, hgoes, Bool.false_eq_true, if_false]
  cases h.write
  · simp only [Bool.false_eq_true, if_false, chargeBytes_fabric, withRequest]
  · simp only [if_true, markDirty_fabric, chargeBytes_fabric, withRequest]

theorem mem_outstandingOn_withRequest (p write : Bool) (r : Request) (x : Port) :
    r ∈ outstandingOn (setPort p (withRequest write r x) s) p write := by
  cases write <;> simp [outstandingOn, withRequest]

/-- A new request whose address is awake and whose port serves with a free tag is outstanding. -/
theorem issued_of_issuable {write : Bool} {req : Request} (h : issuable write req.addr s = true) (hreq : req.issues = 1) :
    issued write req.addr req.data req.len req.func req.purpose s (issue write (addrPort req.addr) req s) := by
  simp only [issuable, Bool.and_eq_true, Bool.not_eq_true', Option.isSome_iff_exists] at h
  obtain ⟨⟨⟨tag, hfree⟩, hawake⟩, hserves⟩ := h
  let held : Held := { write := write, req := req, port := addrPort req.addr, since := now s }
  refine ⟨{ req with tag := tag }, ?_, rfl, rfl, rfl, rfl, rfl, hreq⟩
  rw [issue, outstandingOn_congr (issueHeld_fabric (h := held) hfree hawake hserves)]
  exact mem_outstandingOn_withRequest ..

/-- A read that can go out is outstanding. -/
theorem issueRead_issued {addr : Word} (len func attr : Nat) (why : Purpose) (h : issuable false addr s = true) :
    issued false addr [] len func why s (issueRead addr len func attr why s) :=
  issued_of_issuable (req := { tag := 0, addr := addr, len := len, data := [], func := func, attr := BitVec.ofNat 4 attr, purpose := why,
                               issues := 1 }) h rfl

/-- A write that can go out is outstanding. -/
theorem issueWrite_issued {addr : Word} (data : Bytes) (func attr : Nat) (why : Purpose) (h : issuable true addr s = true) :
    issued true addr data data.length func why s (issueWrite addr data func attr why s) :=
  issued_of_issuable (req := { tag := 0, addr := addr, len := data.length, data := data, func := func, attr := BitVec.ofNat 4 attr,
                               purpose := why, issues := 1 }) h rfl

/-- A request stays outstanding where the fabric stays. -/
theorem issued_congr {write : Bool} {addr : Word} {data : Bytes} {len func : Nat} {purpose : Purpose} {v w : State} (h : w.fabric = v.fabric)
    (hi : issued write addr data len func purpose s v) : issued write addr data len func purpose s w := by
  obtain ⟨r, hr, hrest⟩ := hi
  exact ⟨r, by rwa [outstandingOn_congr h], hrest⟩

/-- An address whose request can go out is awake. -/
theorem awake_of_issuable {write : Bool} {addr : Word} (h : issuable write addr s = true) : asleep s addr = false := by
  simp only [issuable, Bool.and_eq_true, Bool.not_eq_true'] at h
  obtain ⟨⟨-, hawake⟩, -⟩ := h
  exact hawake

@[simp] theorem issueRead_takes (a : Word) (len f attr : Nat) (why : Purpose) : (issueRead a len f attr why s).takes = s.takes := by
  rw [issueRead, issue_takes]

@[simp] theorem issueWrite_takes (a : Word) (b : Bytes) (f attr : Nat) (why : Purpose) : (issueWrite a b f attr why s).takes = s.takes := by
  rw [issueWrite, issue_takes]

end

/-! ### A range of one burst (R100) -/

/-- A range within one 64-byte line is one burst. -/
theorem burstsOf_one {addr n : Nat} (pos : Nat) (hn : n ≠ 0) (hline : n ≤ 64 - addr % 64) : burstsOf addr n pos = [(addr, n, pos)] := by
  simp [burstsOf, cutBursts, hn, Nat.min_eq_left hline]

theorem readBursts_one {addr n : Nat} (pos : Nat) (hn : n ≠ 0) (hline : n ≤ 64 - addr % 64) :
    readBursts addr n pos = [{ write := false, addr := BitVec.ofNat 64 addr, len := n, data := [], pos := pos, unit := false }] := by
  simp [readBursts, burstsOf_one pos hn hline]

theorem writeBursts_one (unit : Bool) {addr : Nat} {bs : Bytes} (hn : bs.length ≠ 0) (hline : bs.length ≤ 64 - addr % 64) :
    writeBursts unit addr bs = [{ write := true, addr := BitVec.ofNat 64 addr, len := bs.length, data := bs, pos := 0, unit := unit }] := by
  simp [writeBursts, burstsOf_one 0 hn hline, slice]

/-! ### A code that issues its bursts -/

/-- A code with bursts to issue or reads to come leaves its take as it stands. -/
theorem settleIssue_waits {t : Take} (s : State) (h : t.todo ≠ [] ∨ 0 < t.reads) : settleIssue t s = setTake t s := by
  unfold settleIssue
  exact if_pos (by simpa [List.isEmpty_iff] using h)

/-- A MOVE to the host or a SIGNAL ends once its bursts are issued, whatever writes are outstanding. -/
theorem settleIssue_written {t : Take} (s : State) (htodo : t.todo = []) (hreads : t.reads = 0)
    (hcode : codeOpcode (codeAt t) = 1 ∧ moveDir (codeAt t) = 1 ∨ codeOpcode (codeAt t) = 5) :
    settleIssue t s = setTake (nextCode t) s := by
  rcases hcode with ⟨hop, hdir⟩ | hop
  · simp [settleIssue, htodo, hreads, hop, hdir]
  · simp [settleIssue, htodo, hreads, hop]

/-- END ends its take once its bursts are issued. -/
theorem settleIssue_end {t : Take} (s : State) (htodo : t.todo = []) (hreads : t.reads = 0) (hop : codeOpcode (codeAt t) = 10) :
    settleIssue t s = finishEnd t (codeAt t) s := by
  simp [settleIssue, htodo, hreads, hop]

section
variable {t : Take} {s : State} {addr : Nat}

/-- A take that waits for one read more. -/
def awaitingRead (t : Take) : Take := { t with phase := .moving, todo := [], buffer := [], reads := t.reads + 1, parked := none }

/-- A take gone on from a code that has issued one write more. -/
def pastWrite (t : Take) : Take := { nextCode t with writes := t.writes + 1 }

/-- A read of one burst from an awake address goes out, and the take waits for it. -/
theorem startIssue_read {n : Nat} (hn : n ≠ 0) (hline : n ≤ 64 - addr % 64) (ha : asleep s (BitVec.ofNat 64 addr) = false) :
    startIssue t (readBursts addr n 0) s =
      setTake (awaitingRead t) (issueRead (BitVec.ofNat 64 addr) n t.tenant 0 (.takeRead t.id 0) s) := by
  rw [startIssue, readBursts_one 0 hn hline]
  simp only [issueList, ha, Bool.false_eq_true, if_false]
  exact settleIssue_waits _ (Or.inr (Nat.succ_pos _))

/-- That read is outstanding, and its take is found waiting. -/
theorem startIssue_read_issued {x : Take} {n : Nat} (ht : takeOf s t.id = some x) (hn : n ≠ 0) (hline : n ≤ 64 - addr % 64)
    (hi : issuable false (BitVec.ofNat 64 addr) s = true) :
    issued false (BitVec.ofNat 64 addr) [] n t.tenant (.takeRead t.id 0) s (startIssue t (readBursts addr n 0) s) ∧
      takeOf (startIssue t (readBursts addr n 0) s) t.id = some (awaitingRead t) := by
  rw [startIssue_read hn hline (awake_of_issuable hi)]
  refine ⟨issued_congr (setTake_fabric _ _) (issueRead_issued _ _ _ _ hi), takeOf_setTake (w := awaitingRead t) (t := x) ?_⟩
  rw [← ht]
  exact takeOf_congr (issueRead_takes ..) t.id

/-- A read of one burst from an address that is asleep parks its take and issues nothing (R103). -/
theorem startIssue_parks {n : Nat} (hn : n ≠ 0) (hline : n ≤ 64 - addr % 64) (ha : asleep s (BitVec.ofNat 64 addr) = true) :
    startIssue t (readBursts addr n 0) s =
      setTake { t with phase := .moving, todo := readBursts addr n 0, buffer := [], parked := some (now s) } s := by
  rw [startIssue, readBursts_one 0 hn hline]
  simp only [issueList, ha, if_true]
  exact settleIssue_waits _ (Or.inl (List.cons_ne_nil _ _))

/-- A write of one burst to an awake address goes out, and the take goes on. -/
theorem startIssue_write (unit : Bool) {bs : Bytes} (hn : bs.length ≠ 0) (hline : bs.length ≤ 64 - addr % 64)
    (ha : asleep s (BitVec.ofNat 64 addr) = false) (hreads : t.reads = 0)
    (hcode : codeOpcode (codeAt t) = 1 ∧ moveDir (codeAt t) = 1 ∨ codeOpcode (codeAt t) = 5) :
    startIssue t (writeBursts unit addr bs) s =
      setTake (pastWrite t) (issueWrite (BitVec.ofNat 64 addr) bs t.tenant (if unit then 1 else 0) (.takeWrite t.id t.count) s) := by
  rw [startIssue, writeBursts_one unit hn hline]
  simp only [issueList, ha, Bool.false_eq_true, if_false, if_true]
  exact settleIssue_written _ rfl hreads hcode

/-- That write is outstanding, and its take is found at its next code. -/
theorem startIssue_write_issued (unit : Bool) {x : Take} {bs : Bytes} (ht : takeOf s t.id = some x) (hn : bs.length ≠ 0)
    (hline : bs.length ≤ 64 - addr % 64) (hi : issuable true (BitVec.ofNat 64 addr) s = true) (hreads : t.reads = 0)
    (hcode : codeOpcode (codeAt t) = 1 ∧ moveDir (codeAt t) = 1 ∨ codeOpcode (codeAt t) = 5) :
    issued true (BitVec.ofNat 64 addr) bs bs.length t.tenant (.takeWrite t.id t.count) s (startIssue t (writeBursts unit addr bs) s) ∧
      takeOf (startIssue t (writeBursts unit addr bs) s) t.id = some (pastWrite t) := by
  rw [startIssue_write unit hn hline (awake_of_issuable hi) hreads hcode]
  refine ⟨issued_congr (setTake_fabric _ _) (issueWrite_issued _ _ _ _ hi), takeOf_setTake (w := pastWrite t) (t := x) ?_⟩
  rw [← ht]
  exact takeOf_congr (issueWrite_takes ..) t.id

end

/-! ### MOVE (R75 to R80) -/

section
variable {t : Take} {c : Bytes} {s : State}

/-- A MOVE of no bytes ends at once. -/
theorem runMove_empty (hn : moveLen c = 0) : runMove t c s = setTake (nextCode t) s := if_pos hn

/-- A stage-to-stage MOVE ends at once, its source read whole before its destination is written (R78). -/
theorem runMove_stage (hn : moveLen c ≠ 0) (hdir : moveDir c = 2) :
    runMove t c s = setTake (nextCode (stageWrite (moveOff t c) (swapped (moveSwap c) (stageRead t (moveHost t c) (moveLen c)))
      (feedCrc (stageRead t (moveHost t c) (moveLen c)) t))) s := by
  simp [runMove, hn, hdir]

/-- A MOVE from the host issues its reads. -/
theorem runMove_in (hn : moveLen c ≠ 0) (hdir : moveDir c = 0) :
    runMove t c s = startIssue t (readBursts (moveHost t c) (moveLen c) 0) s := by
  simp [runMove, hn, hdir]

/-- A MOVE to the host issues its writes. -/
theorem runMove_out (hn : moveLen c ≠ 0) (hdir : moveDir c = 1) :
    runMove t c s = startIssue (feedCrc (stageRead t (moveOff t c) (moveLen c)) t)
      (writeBursts false (moveHost t c) (swapped (moveSwap c) (stageRead t (moveOff t c) (moveLen c)))) s := by
  simp [runMove, hn, hdir]

/-- The CRC is the one field of a take that a MOVE feeds (R80). -/
theorem feedCrc_frame (bs : Bytes) (t : Take) : feedCrc bs t = { t with crc := (feedCrc bs t).crc } := by unfold feedCrc; split <;> rfl

@[simp] theorem feedCrc_id (bs : Bytes) (t : Take) : (feedCrc bs t).id = t.id := by rw [feedCrc_frame]
@[simp] theorem feedCrc_tenant (bs : Bytes) (t : Take) : (feedCrc bs t).tenant = t.tenant := by rw [feedCrc_frame]
@[simp] theorem feedCrc_count (bs : Bytes) (t : Take) : (feedCrc bs t).count = t.count := by rw [feedCrc_frame]
@[simp] theorem feedCrc_reads (bs : Bytes) (t : Take) : (feedCrc bs t).reads = t.reads := by rw [feedCrc_frame]
@[simp] theorem feedCrc_writes (bs : Bytes) (t : Take) : (feedCrc bs t).writes = t.writes := by rw [feedCrc_frame]
@[simp] theorem codeAt_feedCrc (bs : Bytes) (t : Take) : codeAt (feedCrc bs t) = codeAt t := by rw [feedCrc_frame]; rfl

/-! ### SIGNAL and END (R88, R99) -/

/-- A SIGNAL with no write outstanding issues its own. -/
theorem runSignal_writes (hw : t.writes = 0) : runSignal t c s = startIssue t (writeBursts true (codeHost c) (signalData t c)) s := if_pos hw

/-- A SIGNAL with writes outstanding waits for them. -/
theorem runSignal_waits (hw : t.writes ≠ 0) : runSignal t c s = setTake { t with phase := .waitWrites } s := if_neg hw

/-- The inline result with which END ends a take. -/
def inlineResult (t : Take) (c : Bytes) : Option Bytes :=
  match endResult c with
  | 0 => t.result
  | 1 => some (stageRead t (codeStage c) 8)
  | _ => none

/-- A take at an END whose host accesses have been issued, with its inline result. -/
def concluded (t : Take) (c : Bytes) : Take :=
  { t with ending := true, phase := .moving, todo := [], buffer := [], parked := none, result := inlineResult t c }

/-- An END that stores no CRC ends its take with success and its inline result. -/
theorem runEnd_ends (hs : endStores (codeAt t) = false) (hop : codeOpcode (codeAt t) = 10) (hreads : t.reads = 0) :
    runEnd t (codeAt t) s = endTake (concluded t (codeAt t)) 0 s := by
  simp only [runEnd, hs, Bool.false_eq_true, if_false, startIssue, issueList]
  exact settleIssue_end s rfl hreads hop

/-! ### PARK_TIMEOUT_EXPIRY (R103) -/

/-- A take that waits for no core ends at once. -/
theorem endWhenFree_of_not_running {st : Status} (h : t.phase ≠ .running) : endWhenFree t st s = endTake t st s := by
  simp [endWhenFree, coreRuns, h]

/-- A take whose reissues held back are withdrawn, and the state without them. -/
def withoutReissues (t : Take) (s : State) : Take × State :=
  ({ t with writes := t.writes - (s.fabric.held.filter fun h => ofTake t.id h.req && h.write).length },
   { s with fabric := { s.fabric with held := s.fabric.held.filter fun h => !ofTake t.id h.req } })

/-- A park of a MOVE past the tenant's limit ends the take with DOMAIN_ASLEEP_TIMEOUT, without the reissues that waited as long. -/
theorem exec_parkTimeoutExpiry_late {id p : Nat} (ht : takeOf s id = some t) (hphase : t.phase = .moving) (hp : t.parked = some p)
    (hlate : p + (tenantOf s t.tenant).sheet.parkTimeout < now s) (ha : aborted s t = false) :
    let r := if reissueLate s t (tenantOf s t.tenant).sheet.parkTimeout then withoutReissues t s else (t, s)
    exec (.parkTimeoutExpiry id) s = .next (endTake r.1 stAsleepTimeout r.2) := by
  show execParkTimeoutExpiry id s = _
  cases hr : reissueLate s t (tenantOf s t.tenant).sheet.parkTimeout with
  | false => simp [execParkTimeoutExpiry, ht, hp, hlate, ha, hr, hphase, endWhenFree_of_not_running]
  | true =>
    have hw : (withoutReissues t s).1.phase ≠ .running := by simp [withoutReissues, hphase]
    rw [if_pos rfl, ← endWhenFree_of_not_running hw]
    simp [execParkTimeoutExpiry, ht, ha, hr, hphase, withoutReissues]

end

/-- Settles O46: each code is run as its take starts it; its one burst goes out, or parks the take, and the take it leaves is found. -/
theorem hostCodesIssueBursts : Obligations.HostCodesIssueBursts := by
  unfold Obligations.HostCodesIssueBursts
  intro id t s hreads c u n host from' out oneBurst result
  refine ⟨fun h hn => ?empty, fun h hn hdir => ?stage, fun h hdir hburst => ⟨fun hi => ?read, fun ha => ?parks⟩,
    fun h hn hdir hburst hi => ?write, fun h hw hburst hi => ?signal, fun h hw => ?signalWaits, fun h hs => ?ends,
    fun p ht hphase hp hlate ha => ?late⟩
  case empty => exact (exec_move h).trans (congrArg _ (runMove_empty (t := counted t) hn))
  case stage => exact (exec_move h).trans (congrArg _ (runMove_stage (t := counted t) hn hdir))
  case read =>
    obtain ⟨hn, hline⟩ := hburst
    obtain rfl := takeOf_id h.found
    have ht : takeOf s (counted t).id = some t := h.found
    obtain ⟨hissued, htake⟩ := startIssue_read_issued ht hn hline hi
    refine ⟨_, (exec_move h).trans (congrArg _ (runMove_in (t := counted t) hn hdir)), hissued, _, htake, rfl, ?_, rfl, rfl⟩
    show t.reads + 1 = 1
    rw [hreads]
  case parks =>
    obtain ⟨hn, hline⟩ := hburst
    have hrun : runMove (counted t) c s = _ := (runMove_in hn hdir).trans (startIssue_parks (t := counted t) hn hline ha)
    exact ⟨_, (exec_move h).trans (congrArg _ hrun), rfl, _, takeOf_setTake_of_codeStarts h rfl, rfl, rfl, rfl⟩
  case write =>
    obtain ⟨hout, hline⟩ := hburst
    obtain rfl := takeOf_id h.found
    have ht : takeOf s (feedCrc from' (counted t)).id = some t := by rw [feedCrc_id]; exact h.found
    have hcode : codeAt (feedCrc from' (counted t)) = c := codeAt_feedCrc _ _
    obtain ⟨hissued, htake⟩ := startIssue_write_issued false ht hout hline hi ((feedCrc_reads _ _).trans hreads)
      (Or.inl (by rw [hcode]; exact ⟨h.opcode, hdir⟩))
    rw [feedCrc_id, feedCrc_tenant, feedCrc_count] at hissued
    rw [feedCrc_id, pastWrite, feedCrc_writes] at htake
    exact ⟨_, (exec_move h).trans (congrArg _ (runMove_out (t := counted t) hn hdir)), hissued, htake⟩
  case signal =>
    obtain ⟨hn, hline⟩ := hburst
    obtain rfl := takeOf_id h.found
    have ht : takeOf s (counted t).id = some t := h.found
    obtain ⟨hissued, htake⟩ := startIssue_write_issued true ht hn hline hi hreads (Or.inr h.opcode)
    have hone : pastWrite (counted t) = { nextCode u with writes := 1 } := by
      show { nextCode u with writes := t.writes + 1 } = { nextCode u with writes := 1 }
      rw [hw]
    exact ⟨_, (exec_signal h).trans (congrArg _ (runSignal_writes (t := counted t) hw)), hissued, hone ▸ htake⟩
  case signalWaits => exact (exec_signal h).trans (congrArg _ (runSignal_waits (t := counted t) hw))
  case ends =>
    have hrun : runEnd (counted t) c s = _ := runEnd_ends hs h.opcode hreads
    have htake := takeOf_endTake_of_codeStarts (w := concluded (counted t) c) h rfl 0 (v := s) rfl
    exact ⟨_, (exec_endCode h).trans (congrArg _ hrun), _, htake, rfl, rfl, rfl, rfl⟩
  case late =>
    obtain rfl := takeOf_id ht
    refine ⟨_, exec_parkTimeoutExpiry_late ht hphase hp hlate ha, ?_⟩
    split
    · exact endTake_ends (t := (withoutReissues t s).1) (by decide) ht
    · exact endTake_ends (by decide) ht

end Sys2Proof.Machine
end

section
/-! SUPPORT. What most operations leave alone, as one value: a lemma for each of the model's operations says that it keeps that value (`kept_` and
the operation's name). -/

namespace Sys2Proof.Machine

/-! ### The value -/

/-- The fields that most operations leave alone: the queue, the chip, DRK, IDK and the strike flag. -/
def kept (s : State) : List Instr × Chip × Option Bytes × Option Nat × Bool :=
  (s.pending, s.chip, s.ao.drk, s.ao.idk, s.ao.strikeFlag)

/-- What a command's outcome keeps, where it answers a state. -/
def keptNext : Outcome → Option (List Instr × Chip × Option Bytes × Option Nat × Bool)
  | .next t => some (kept t)
  | _ => none

/-- Two states agree in `kept` where one keeps of the other what `Keeps` names. -/
theorem kept_eq_iff {s t : State} : kept t = kept s ↔ Keeps s t := by simp [kept, Keeps]

theorem Keeps.kept_eq {s t : State} (h : Keeps s t) : kept t = kept s := kept_eq_iff.2 h

/-! ### Shapes of operations

An operation's lemma unfolds it and rewrites with the lemmas of the operations it calls; these are for what stands between the calls: a field written,
a condition, operations in turn. (An equation proved by `(rfl)`, in parentheses, is not taken for a definitional one, so that `simp` can also
use it to prove the hypothesis of `kept_foldl` and the like.) -/

/-- A state written out field by field. -/
theorem kept_mk (a b c d e f g h i j k l m n o p q r t u v w x y z a' b') :
    kept ⟨a, b, c, d, e, f, g, h, i, j, k, l, m, n, o, p, q, r, t, u, v, w, x, y, z, a', b'⟩ = (a, c, d.drk, d.idk, d.strikeFlag) := (rfl)

/-- The five fields, taken from one state. -/
theorem kept_eta (s : State) : (s.pending, s.chip, s.ao.drk, s.ao.idk, s.ao.strikeFlag) = kept s := (rfl)

theorem kept_ite (c : Prop) [Decidable c] (s t : State) : kept (if c then s else t) = if c then kept s else kept t := apply_ite kept c s t

theorem kept_foldl {α : Type} (f : State → α → State) (hf : ∀ s x, kept (f s x) = kept s) (xs : List α) (s : State) :
    kept (xs.foldl f s) = kept s :=
  (keeps_foldl f xs (fun s x => kept_eq_iff.1 (hf s x)) s).kept_eq

theorem keptNext_next (s : State) : keptNext (.next s) = some (kept s) := rfl

theorem keptNext_ite (c : Prop) [Decidable c] (o p : Outcome) : keptNext (if c then o else p) = if c then keptNext o else keptNext p :=
  apply_ite keptNext c o p

/-! ### Operations of which `Keeps` is proved (Laws) -/

theorem kept_raise (e : Nat) (s : State) : kept (raise e s) = kept s := (keeps_raise e s).kept_eq
theorem kept_raiseAll (es : List Nat) (s : State) : kept (raiseAll es s) = kept s := (keeps_raiseAll es s).kept_eq
theorem kept_chainQueue (s : State) : kept (chainQueue s) = kept s := (keeps_chainQueue s).kept_eq

theorem kept_logAs (m : Mode) (time code flags event object value extra : Nat) (s : State) :
    kept (logAs m time code flags event object value extra s) = kept s := (keeps_logAs ..).kept_eq

theorem kept_logPlain (code object value extra : Nat) (s : State) : kept (logPlain code object value extra s) = kept s :=
  (keeps_logPlain ..).kept_eq

theorem kept_logEvent (code event object value extra : Nat) (s : State) : kept (logEvent code event object value extra s) = kept s :=
  (keeps_logEvent ..).kept_eq

theorem kept_raiseLog (event code object value extra : Nat) (s : State) : kept (raiseLog event code object value extra s) = kept s :=
  (keeps_raiseLog ..).kept_eq

theorem kept_issueHeld (h : Held) (s : State) : kept (issueHeld h s) = kept s := (keeps_issueHeld h s).kept_eq
theorem kept_pumpHeld (s : State) : kept (pumpHeld s) = kept s := (keeps_pumpHeld s).kept_eq
theorem kept_issue (write want : Bool) (r : Request) (s : State) : kept (issue write want r s) = kept s := (keeps_issue write want r s).kept_eq

theorem kept_issueRead (addr : Word) (len func attr : Nat) (purpose : Purpose) (s : State) :
    kept (issueRead addr len func attr purpose s) = kept s := (keeps_issueRead ..).kept_eq

theorem kept_issueWrite (addr : Word) (data : Bytes) (func attr : Nat) (purpose : Purpose) (s : State) :
    kept (issueWrite addr data func attr purpose s) = kept s := (keeps_issueWrite ..).kept_eq

theorem kept_setLock (src : Source) (v : Option Nat) (s : State) : kept (setLock src v s) = kept s := (keeps_setLock src v s).kept_eq
theorem kept_deny (src : Source) (o : BitVec 20) (s : State) : kept (deny src o s) = kept s := (keeps_deny src o s).kept_eq
theorem kept_answered (s : State) : kept (answered s) = kept s := (keeps_answered s).kept_eq

theorem kept_outrankedWrite (mp : Bool) (o : BitVec 20) (s : State) : kept (outrankedWrite mp o s) = kept s :=
  (keeps_outrankedWrite mp o s).kept_eq

theorem kept_guarded (src : Source) (o : BitVec 20) (c : Bool) (plain keyed : State → State) (s : State) (hp : ∀ s, kept (plain s) = kept s)
    (hk : ∀ s, kept (keyed s) = kept s) : kept (guarded src o c plain keyed s) = kept s :=
  (keeps_guarded src o c plain keyed s (fun s => kept_eq_iff.1 (hp s)) (fun s => kept_eq_iff.1 (hk s))).kept_eq

theorem kept_mgrWrite (src : Source) (o : BitVec 20) (v : Word) (f : State → State) (s : State) (hf : ∀ s, kept (f s) = kept s) :
    kept (mgrWrite src o v f s) = kept s :=
  (keeps_mgrWrite src o v f s (fun s => kept_eq_iff.1 (hf s))).kept_eq

theorem kept_tenantWrite (f : Func) (o : BitVec 20) (v : Word) (g : State → State) (s : State) (hg : ∀ s, kept (g s) = kept s) :
    kept (tenantWrite f o v g s) = kept s :=
  (keeps_tenantWrite f o v g s (fun s => kept_eq_iff.1 (hg s))).kept_eq

theorem kept_arrive (src : Source) (size : AccSize) (o : BitVec 20) (w : Bool) (v : Word) (f : State → State) (s : State)
    (hf : ∀ s, kept (f s) = kept s) : kept (arrive src size o w v f s) = kept s :=
  (keeps_arrive src size o w v f s (fun s => kept_eq_iff.1 (hf s))).kept_eq

end Sys2Proof.Machine
end

section
/-! SUPPORT. What the operations that every family shares keep: events, ports and vault requests, the mode, slots, random bytes, units, islands and
call sheets. -/

namespace Sys2Proof.Machine

/-! ### Shared operations (02, 13, 14) -/

theorem kept_setTenant (f : Nat) (t : Tenant) (s : State) : kept (setTenant f t s) = kept s := (rfl)
theorem kept_modTenant (f : Nat) (g : Tenant → Tenant) (s : State) : kept (modTenant f g s) = kept s := by simp only [modTenant, kept_setTenant]
theorem kept_setReel (f i : Nat) (r : ReelObj) (s : State) : kept (setReel f i r s) = kept s := (rfl)
theorem kept_setDailies (f i : Nat) (d : DailiesObj) (s : State) : kept (setDailies f i d s) = kept s := (rfl)
theorem kept_setSlot (i : Nat) (x : Slot) (s : State) : kept (setSlot i x s) = kept s := (rfl)
theorem kept_setTake (t : Take) (s : State) : kept (setTake t s) = kept s := (rfl)
theorem kept_dropTake (id : Nat) (s : State) : kept (dropTake id s) = kept s := (rfl)
theorem kept_setSlate (t : Slate) (s : State) : kept (setSlate t s) = kept s := (rfl)
theorem kept_dropSlate (id : Nat) (s : State) : kept (dropSlate id s) = kept s := (rfl)
theorem kept_bumpId (s : State) : kept (bumpId s) = kept s := (rfl)
theorem kept_bumpFree (s : State) : kept (bumpFree s) = kept s := (rfl)

theorem kept_startMessage (v : Nat) (s : State) : kept (startMessage v s) = kept s := by
  simp only [startMessage, kept_mk, kept_eta, kept_ite, ite_self]

theorem kept_setStatusBit (e : Nat) (s : State) : kept (setStatusBit e s) = kept s := (rfl)

theorem kept_chainEntry (body : Bytes) (s : State) : kept (chainEntry body s) = kept s := by
  simp only [chainEntry, kept_raise, kept_mk, kept_eta, kept_ite, ite_self]

theorem kept_setPort (p : Bool) (x : Port) (s : State) : kept (setPort p x s) = kept s := (rfl)
theorem kept_settleAck (s : State) : kept (settleAck s) = kept s := (rfl)

theorem kept_vaultSend (why : VaultWhy) (reissued : Bool) (cmd block : Nat) (data : Bytes) (s : State) :
    kept (vaultSend why reissued cmd block data s) = kept s := by
  unfold vaultSend
  split <;> simp only [kept_bumpFree, kept_mk, kept_eta]

theorem kept_vaultPump (s : State) : kept (vaultPump s) = kept s := by
  unfold vaultPump
  (repeat' split) <;> simp only [kept_vaultSend, kept_mk, kept_eta]

theorem kept_vaultChange (c : VaultChange) (s : State) : kept (vaultChange c s) = kept s := by
  simp only [vaultChange, kept_vaultPump, kept_mk, kept_eta]

theorem kept_vaultBlock1 (why : Block1Why) (b : Bytes) (s : State) : kept (vaultBlock1 why b s) = kept s := by
  simp only [vaultBlock1, kept_vaultPump, kept_mk, kept_eta]

theorem kept_vaultFailed (s : State) : kept (vaultFailed s) = kept s := by simp only [vaultFailed, kept_raiseLog]
theorem kept_closeLocks (s : State) : kept (closeLocks s) = kept s := (rfl)
theorem kept_setRegs (kind i : Nat) (r : UnitRegs) (s : State) : kept (setRegs kind i r s) = kept s := (rfl)
theorem kept_clearUnit (kind i : Nat) (s : State) : kept (clearUnit kind i s) = kept s := by simp only [clearUnit, kept_setRegs]

theorem kept_wipeCore (kind core : Nat) (s : State) : kept (wipeCore kind core s) = kept s := by
  simp only [wipeCore, kept_clearUnit, kept_mk, kept_eta, kept_ite, ite_self]

theorem kept_wipeCores (s : State) : kept (wipeCores s) = kept s := (rfl)

theorem kept_takeAux (old : Mode) (s : State) : kept (takeAux old s) = kept s := by
  simp only [takeAux, kept_raise, kept_mk, kept_eta, kept_ite, ite_self]

theorem kept_turnMode (m : Mode) (s : State) : kept (turnMode m s) = kept s := by
  simp only [turnMode, kept_raise, kept_takeAux, kept_wipeCores, kept_closeLocks, kept_mk, kept_eta, kept_ite, ite_self]

theorem kept_changeMode (m : Mode) (status : Status) (s : State) : kept (changeMode m status s) = kept s := by
  simp only [changeMode, kept_turnMode, kept_logAs]

theorem kept_enterServing (status : Status) (s : State) : kept (enterServing status s) = kept s := by
  simp only [enterServing, kept_changeMode, kept_raise, kept_mk, kept_eta, kept_ite, ite_self]

theorem kept_settleMode (s : State) : kept (settleMode s) = kept s := by simp only [settleMode, kept_raise, kept_changeMode, kept_ite, ite_self]

/-! ### Register accesses and events (13) -/

theorem kept_accept (s : State) : kept (accept s) = kept s := (rfl)
theorem kept_respond (value : Word) (s : State) : kept (respond value s) = kept s := (rfl)
theorem kept_portError (s : State) : kept (portError s) = kept s := (rfl)
theorem kept_holdAccess (a : HeldAccess) (s : State) : kept (holdAccess a s) = kept s := (rfl)

theorem kept_unlockWrite (src : Source) (value : Word) (s : State) : kept (unlockWrite src value s) = kept s := by
  simp only [unlockWrite, kept_setLock, kept_raise, kept_mk, kept_eta, kept_ite, ite_self]

theorem kept_execUnlock (src : Source) (value : Word) (s : State) : keptNext (execUnlock src value s) = some (kept s) := by
  simp only [execUnlock, kept_mgrWrite, kept_unlockWrite, keptNext_next, implies_true]

theorem kept_execLockRearm (src : Source) (s : State) : keptNext (execLockRearm src s) = some (kept s) := by
  unfold execLockRearm
  split <;> simp only [kept_setLock, keptNext_next, keptNext_ite, ite_self]

theorem kept_testRaise (e : Nat) (s : State) : kept (testRaise e s) = kept s := by
  simp only [testRaise, kept_setStatusBit, kept_logAs, kept_raise, kept_ite, ite_self]

theorem kept_evtTestWrite (src : Source) (value : Word) (s : State) : kept (evtTestWrite src value s) = kept s := by
  simp only [evtTestWrite, kept_guarded, kept_testRaise, implies_true, id_eq]

theorem kept_execEvtTest (src : Source) (value : Word) (s : State) : keptNext (execEvtTest src value s) = some (kept s) := by
  simp only [execEvtTest, kept_mgrWrite, kept_evtTestWrite, keptNext_next, implies_true]

theorem kept_startLive (before s : State) : kept (startLive before s) = kept s := by
  simp only [startLive, kept_startMessage, kept_foldl, kept_ite, ite_self, implies_true]

theorem kept_evtEnableSet (i : Nat) (value : Word) (s : State) : kept (evtEnableSet i value s) = kept s := by
  simp only [evtEnableSet, kept_startLive, kept_mk, kept_eta]

theorem kept_evtCtrlWrite (value : Word) (s : State) : kept (evtCtrlWrite value s) = kept s := by
  simp only [evtCtrlWrite, kept_startLive, kept_mk, kept_eta]

theorem kept_execEvtEnableWrite (src : Source) (reg : Fin 5) (value : Word) (s : State) :
    keptNext (execEvtEnableWrite src reg value s) = some (kept s) := by
  simp only [execEvtEnableWrite, kept_mgrWrite, kept_evtEnableSet, kept_evtCtrlWrite, keptNext_next, keptNext_ite, ite_self, implies_true]

theorem kept_evtVectorSet (v : Nat) (upper : Bool) (value : Word) (s : State) : kept (evtVectorSet v upper value s) = kept s := (rfl)

theorem kept_execEvtVectorWrite (src : Source) (vec : BitVec 8) (upper : Bool) (value : Word) (s : State) :
    keptNext (execEvtVectorWrite src vec upper value s) = some (kept s) := by
  simp only [execEvtVectorWrite, kept_mgrWrite, kept_evtVectorSet, keptNext_next, implies_true]

theorem kept_execEventMessageWrite (vec : BitVec 8) (s : State) : keptNext (execEventMessageWrite vec s) = some (kept s) := by
  unfold execEventMessageWrite; simp only []
  split <;> simp only [kept_issue, keptNext_next, kept_mk, kept_eta]

/-! ### Slots and tenant secrets (08) -/

theorem kept_carry (kind object : Nat) (body : Bytes) (slots : List Nat) (s : State) : kept (carry kind object body slots s) = kept s := by
  simp only [carry, kept_mk, kept_eta, kept_ite, ite_self]

theorem kept_withCompanion (i : Nat) (s : State) : kept (withCompanion i s) = kept s := by simp only [withCompanion, kept_setSlot]
theorem kept_freeRetained (s : State) : kept (freeRetained s) = kept s := (rfl)
theorem kept_retain (i : Nat) (s : State) : kept (retain i s) = kept s := by simp only [retain, kept_mk, kept_eta, kept_ite, ite_self]

theorem kept_eraseGroup (writer : Option Word) (i : Nat) (s : State) : kept (eraseGroup writer i s) = kept s := by
  simp only [eraseGroup, kept_setSlot, kept_retain, kept_foldl, implies_true]

theorem kept_writeGroup (i : Nat) (x : Slot) (material : Bytes) (s : State) : kept (writeGroup i x material s) = kept s := by
  simp only [writeGroup, kept_retain, kept_setSlot, kept_withCompanion, kept_foldl, implies_true]

theorem kept_mapGroup (i : Nat) (g : Slot → Slot) (s : State) : kept (mapGroup i g s) = kept s := by
  simp only [mapGroup, kept_setSlot, kept_foldl, implies_true]

theorem kept_faultGroup (i : Nat) (s : State) : kept (faultGroup i s) = kept s := by simp only [faultGroup, kept_raiseLog, kept_mapGroup]

theorem kept_eraseCarried (writer : Option Word) (i : Nat) (s : State) : kept (eraseCarried writer i s) = kept s := by
  simp only [eraseCarried, kept_carry, kept_eraseGroup]

theorem kept_floorWrite (w : List VaultWaiter) (s : State) : kept (floorWrite w s) = kept s := by
  simp only [floorWrite, kept_vaultChange, kept_mk, kept_eta]

theorem kept_setSecret (f : Nat) (v : Bytes) (s : State) : kept (setSecret f v s) = kept s := (rfl)

/-! ### Attestation (10) -/

theorem kept_attestChallenge (f : Nat) (s : State) : kept (attestChallenge f s) = kept s := by simp only [attestChallenge, kept_modTenant]
theorem kept_attestQuery (f : Nat) (s : State) : kept (attestQuery f s) = kept s := by simp only [attestQuery, kept_setTenant, kept_ite, ite_self]

theorem kept_attestWrite (f : Nat) (value : Word) (s : State) : kept (attestWrite f value s) = kept s := by
  unfold attestWrite
  split <;> simp only [kept_attestChallenge, kept_attestQuery, kept_modTenant]

theorem kept_execAttestChallenge (tenant : Func) (s : State) : keptNext (execAttestChallenge tenant s) = some (kept s) := by
  simp only [execAttestChallenge, kept_tenantWrite, kept_attestWrite, keptNext_next, implies_true]

theorem kept_execAttestSlotQuery (tenant : Func) (s : State) : keptNext (execAttestSlotQuery tenant s) = some (kept s) := by
  simp only [execAttestSlotQuery, kept_tenantWrite, kept_attestWrite, keptNext_next, implies_true]

/-! ### Random bytes (09) -/

theorem kept_takeBuffer (n : Nat) (s : State) : kept (takeBuffer n s).2 = kept s := (rfl)

theorem kept_askRandom {who : Asker} {n : Nat} {pr : Bool} {s : State} {r : Option Bytes × State} (h : askRandom who n pr s = .ok r) :
    kept r.2 = kept s := by
  unfold askRandom at h
  split at h
  · cases h
  · split at h
    · cases h; exact kept_takeBuffer n s
    · cases h; rfl

/-! ### Units and pins (07, 16) -/

theorem kept_setFenced (kind i : Nat) (v : Bool) (s : State) : kept (setFenced kind i v s) = kept s := (rfl)
theorem kept_setPin (core : Nat) (f : Option Nat) (s : State) : kept (setPin core f s) = kept s := (rfl)

theorem kept_settlePins (f : Nat) (s : State) : kept (settlePins f s) = kept s := by
  unfold settlePins; simp only []
  split <;> exact kept_foldl _ (fun t i => kept_setPin i _ t) _ _

theorem kept_settleAllPins (s : State) : kept (settleAllPins s) = kept s := by simp only [settleAllPins, kept_settlePins, kept_foldl, implies_true]

/-! ### Islands and work under the IDK (12) -/

theorem kept_setIsland (island : Nat) (x : Island) (s : State) : kept (setIsland island x s) = kept s := (rfl)

theorem kept_queueIsland (island : Nat) (s : State) : kept (queueIsland island s) = kept s := by
  unfold queueIsland; simp only []
  split <;> simp only [kept_setIsland]

theorem kept_touchIsland (kind i : Nat) (s : State) : kept (touchIsland kind i s) = kept s := by
  simp only [touchIsland, kept_setIsland, kept_queueIsland, kept_ite, ite_self]

theorem kept_onShielded (run wait : State → State) (s : State) (hr : ∀ t, kept (run t) = kept t) (hw : ∀ t, kept (wait t) = kept t) :
    kept (onShielded run wait s) = kept s := by
  unfold onShielded
  split
  · rw [hr, kept_touchIsland]
  · rw [hw]
    split
    · rw [kept_touchIsland]
    · rfl

theorem kept_queueIdk (j : IdkJob) (s : State) : kept (queueIdk j s) = kept s := (rfl)

theorem kept_underIdk (j : IdkJob) (run : State → State) (s : State) (hr : ∀ t, kept (run t) = kept t) :
    kept (underIdk j run s) = kept s := by
  unfold underIdk
  split
  · exact kept_onShielded _ _ _ hr (kept_queueIdk j)
  · exact kept_queueIdk j s

/-! ### Tenants (10) -/

theorem kept_installSecret (f : Nat) (key : Bytes) (s : State) : kept (installSecret f key s) = kept s := by
  unfold installSecret
  split <;> simp only [kept_setSecret, kept_ite, ite_self]

theorem kept_deriveSecret (f : Nat) (key : Bytes) (s : State) : kept (deriveSecret f key s) = kept s := by
  simp only [deriveSecret, kept_underIdk, kept_installSecret, kept_ite, ite_self, implies_true]

theorem kept_createTenant (f : Nat) (st : TenantState) (x : Sheet) (key : Bytes) (s : State) : kept (createTenant f st x key s) = kept s := by
  simp only [createTenant, kept_setTenant, kept_settlePins, kept_deriveSecret]

theorem kept_dropObjects (f : Nat) (s : State) : kept (dropObjects f s) = kept s := (rfl)

end Sys2Proof.Machine
end

section
/-! SUPPORT. What the operations on reels, dailies, slates and the scheduler keep. -/

namespace Sys2Proof.Machine

/-! ### Rings and contexts (02) -/

theorem kept_writeCtx (f : Nat) (isDailies : Bool) (i : Nat) (b : Bytes) (why : Purpose) (s : State) :
    kept (writeCtx f isDailies i b why s) = kept s := by
  simp only [writeCtx, kept_issueWrite]

theorem kept_writeBack (f : Nat) (isDailies : Bool) (i : Nat) (s : State) : kept (writeBack f isDailies i s) = kept s := by
  unfold writeBack; simp only [kept_ite]
  (repeat' split) <;> simp only [kept_writeCtx, kept_setDailies, kept_setReel]

theorem kept_tickClock (s : State) : kept (tickClock s) = kept s := (rfl)

theorem kept_putReel (f i : Nat) (c : ReelCtx) (s : State) : kept (putReel f i c s) = kept s := by
  simp only [putReel, kept_setReel, kept_tickClock, kept_writeBack, kept_ite, ite_self]

theorem kept_putDailies (f i : Nat) (c : DailiesCtx) (s : State) : kept (putDailies f i c s) = kept s := by
  simp only [putDailies, kept_setDailies, kept_tickClock, kept_writeBack, kept_ite, ite_self]

theorem kept_modReel (f i : Nat) (g : ReelCtx → ReelCtx) (s : State) : kept (modReel f i g s) = kept s := by
  unfold modReel
  split <;> simp only [kept_putReel]

theorem kept_modDailies (f i : Nat) (g : DailiesCtx → DailiesCtx) (s : State) : kept (modDailies f i g s) = kept s := by
  unfold modDailies
  split <;> simp only [kept_putDailies]

theorem kept_evict (e : Bool × Nat × Nat × Bool) (s : State) : kept (evict e s) = kept s := by
  simp only [evict, kept_writeBack, kept_setDailies, kept_setReel, kept_ite, ite_self]

theorem kept_makeRoom (s : State) : kept (makeRoom s) = kept s := by
  unfold makeRoom
  (repeat' split) <;> simp only [kept_evict]

theorem kept_cacheReel (f i : Nat) (c : ReelCtx) (s : State) : kept (cacheReel f i c s) = kept s := by
  simp only [cacheReel, kept_tickClock, kept_makeRoom, kept_setReel]

theorem kept_cacheDailies (f i : Nat) (c : DailiesCtx) (s : State) : kept (cacheDailies f i c s) = kept s := by
  simp only [cacheDailies, kept_tickClock, kept_makeRoom, kept_setDailies]

theorem kept_useCtx (f : Nat) (n : Bool × Nat) (s : State) : kept (useCtx f n s) = kept s := by
  simp only [useCtx, kept_tickClock, kept_setDailies, kept_setReel, kept_ite, ite_self]

theorem kept_fetchReel (f i : Nat) (s : State) : kept (fetchReel f i s) = kept s := by
  simp only [fetchReel, kept_issueRead, kept_setReel, kept_ite, ite_self]

theorem kept_fetchDailies (f i : Nat) (s : State) : kept (fetchDailies f i s) = kept s := by
  simp only [fetchDailies, kept_issueRead, kept_setDailies, kept_ite, ite_self]

theorem kept_noteSeq (f i : Nat) (seq : Word) (s : State) : kept (noteSeq f i seq s) = kept s := by
  simp only [noteSeq, kept_modReel, kept_fetchReel, kept_setReel, kept_ite, ite_self]

theorem kept_unwriteDaily (f i : Nat) (s : State) : kept (unwriteDaily f i s) = kept s := by
  simp only [unwriteDaily, kept_modReel, kept_fetchReel, kept_setReel, kept_ite, ite_self]

theorem kept_addBound (f d : Nat) (n : Int) (s : State) : kept (addBound f d n s) = kept s := by
  simp only [addBound, kept_modDailies, kept_fetchDailies, kept_setDailies, kept_ite, ite_self]

theorem kept_haltReel (f i : Nat) (st : Status) (s : State) : kept (haltReel f i st s) = kept s := by
  unfold haltReel
  split <;> simp only [kept_raise, kept_putReel, kept_ite, ite_self]

theorem kept_settleHalting (f d : Nat) (s : State) : kept (settleHalting f d s) = kept s := by
  unfold settleHalting; simp only []
  split <;> simp only [kept_setDailies, kept_raise, kept_modDailies, kept_fetchDailies, kept_ite, ite_self]

theorem kept_haltDailies (f d : Nat) (st : Status) (s : State) : kept (haltDailies f d st s) = kept s := by
  simp only [haltDailies, kept_settleHalting, kept_setDailies, kept_ite, ite_self]

theorem kept_failCtx (f : Nat) (isDailies : Bool) (i : Nat) (s : State) : kept (failCtx f isDailies i s) = kept s := by
  simp only [failCtx, kept_raise, kept_setDailies, kept_setReel, kept_ite, ite_self]

theorem kept_takeCredit (f d : Nat) (s : State) : kept (takeCredit f d s) = kept s := by simp only [takeCredit, kept_modDailies]
theorem kept_freeCredit (f d : Nat) (s : State) : kept (freeCredit f d s) = kept s := by simp only [freeCredit, kept_modDailies]

theorem kept_writeDaily (f reel d : Nat) (x : Daily) (s : State) : kept (writeDaily f reel d x s) = kept s := by
  unfold writeDaily; simp only []
  split <;> simp only [kept_freeCredit, kept_issueWrite, kept_putDailies, kept_modReel, kept_setDailies, kept_ite, ite_self]

theorem kept_uncountDaily (f d : Nat) (s : State) : kept (uncountDaily f d s) = kept s := by
  simp only [uncountDaily, kept_modDailies, kept_setDailies, kept_fetchDailies, kept_ite, ite_self]

theorem kept_loseDaily (f reel d : Nat) (counted : Bool) (st : Status) (s : State) : kept (loseDaily f reel d counted st s) = kept s := by
  simp only [loseDaily, kept_uncountDaily, kept_haltDailies, kept_unwriteDaily, kept_ite, ite_self]

/-! ### REEL_CMD (02) -/

theorem kept_discardBell (f : Nat) (isDailies : Bool) (reason : Nat) (value : Word) (s : State) :
    kept (discardBell f isDailies reason value s) = kept s := by
  simp only [discardBell, kept_raise, kept_modTenant]

theorem kept_deadBell (f : Nat) (isDailies : Bool) (value : Word) (s : State) : kept (deadBell f isDailies value s) = kept s := by
  simp only [deadBell, kept_discardBell, kept_ite, ite_self]

theorem kept_reelBell (f : Nat) (value : Word) (s : State) : kept (reelBell f value s) = kept s := by
  unfold reelBell; simp only [kept_discardBell, kept_ite]
  (repeat' split) <;> simp only [kept_discardBell, kept_deadBell, kept_putReel]

theorem kept_dailiesBell (f : Nat) (value : Word) (s : State) : kept (dailiesBell f value s) = kept s := by
  unfold dailiesBell; simp only [kept_discardBell, kept_ite]
  (repeat' split) <;> simp only [kept_discardBell, kept_deadBell, kept_putDailies]

theorem kept_rcEnd (f : Nat) (status : Status) (s : State) : kept (rcEnd f status s) = kept s := by simp only [rcEnd, kept_modTenant]
theorem kept_rcResults (f a b : Nat) (s : State) : kept (rcResults f a b s) = kept s := by simp only [rcResults, kept_modTenant]
theorem kept_queryDead (f : Nat) (s : State) : kept (queryDead f s) = kept s := by simp only [queryDead, kept_rcEnd, kept_bumpFree, kept_rcResults]

theorem kept_queryReel (f i : Nat) (s : State) : kept (queryReel f i s) = kept s := by
  unfold queryReel; simp only [kept_queryDead, kept_ite]
  (repeat' split) <;> simp only [kept_rcEnd, kept_rcResults]

theorem kept_queryDailies (f i : Nat) (s : State) : kept (queryDailies f i s) = kept s := by
  unfold queryDailies; simp only [kept_queryDead, kept_ite]
  (repeat' split) <;> simp only [kept_rcEnd, kept_rcResults]

theorem kept_dropSlates (f i : Nat) (s : State) : kept (dropSlates f i s) = kept s := by
  simp only [dropSlates, kept_freeCredit, kept_foldl, kept_mk, kept_eta, kept_ite, ite_self, implies_true]

theorem kept_abortReel (f i : Nat) (s : State) : kept (abortReel f i s) = kept s := by
  unfold abortReel
  split <;> simp only [kept_putReel, kept_raise, kept_mk, kept_eta, kept_ite, ite_self]

theorem kept_resetReel (f i mode : Nat) (s : State) : kept (resetReel f i mode s) = kept s := by simp only [resetReel, kept_modReel]
theorem kept_pauseReel (f i mode : Nat) (s : State) : kept (pauseReel f i mode s) = kept s := by simp only [pauseReel, kept_modReel]

theorem kept_commandWrite (f : Nat) (isDailies : Bool) (i : Nat) (b : Bytes) (s : State) : kept (commandWrite f isDailies i b s) = kept s := by
  simp only [commandWrite, kept_modTenant, kept_writeCtx]

theorem kept_rcApply (f : Nat) (w arg0 arg1 arg2 arg3 : Word) (s : State) : kept (rcApply f w arg0 arg1 arg2 arg3 s) = kept s := by
  unfold rcApply
  split <;> simp only [kept_commandWrite, kept_rcEnd, kept_abortReel, kept_resetReel, kept_modDailies, kept_pauseReel, kept_queryReel,
    kept_queryDailies]

theorem kept_rcRun (f : Nat) (w arg0 arg1 arg2 arg3 : Word) (s : State) : kept (rcRun f w arg0 arg1 arg2 arg3 s) = kept s := by
  unfold rcRun
  split <;> simp only [kept_rcEnd, kept_rcApply]

theorem kept_fetchCtx (f : Nat) (n : Bool × Nat) (s : State) : kept (fetchCtx f n s) = kept s := by
  simp only [fetchCtx, kept_fetchDailies, kept_fetchReel, kept_ite, ite_self]

theorem kept_waitApply (f : Nat) (x : Waiting) (s : State) : kept (waitApply f x s) = kept s := by
  unfold waitApply
  split <;> simp only [kept_reelBell, kept_dailiesBell, kept_rcRun]

theorem kept_drainList (f : Nat) (xs : List Waiting) (s : State) : kept (drainList f xs s) = kept s := by
  induction xs generalizing s with
  | nil => rfl
  | cons x xs ih =>
    unfold drainList
    split
    · rfl
    · split
      · rw [ih, kept_waitApply, kept_foldl _ (fun t n => kept_useCtx f n t)]
      · rw [kept_foldl _ (fun t n => kept_fetchCtx f n t), kept_modTenant]

theorem kept_drainWaiting (f : Nat) (s : State) : kept (drainWaiting f s) = kept s := by simp only [drainWaiting, kept_drainList]
theorem kept_enqueue (f : Nat) (x : Waiting) (s : State) : kept (enqueue f x s) = kept s := by simp only [enqueue, kept_drainWaiting, kept_modTenant]

theorem kept_rcWrite (f : Nat) (w : Word) (s : State) : kept (rcWrite f w s) = kept s := by
  unfold rcWrite; simp only [kept_setTenant, kept_ite]
  (repeat' split) <;> simp only [kept_setTenant, kept_rcEnd, kept_enqueue]

theorem kept_commandDone (f : Nat) (isDailies : Bool) (i : Nat) (data : Bytes) (ok : Bool) (s : State) :
    kept (commandDone f isDailies i data ok s) = kept s := by
  unfold commandDone
  (repeat' split) <;> simp only [kept_cacheDailies, kept_setDailies, kept_addBound, kept_cacheReel, kept_setReel, kept_dropSlates, kept_drainWaiting,
    kept_rcEnd, kept_ite, ite_self]

theorem kept_reelCommand (tenant : Func) (op mode : Nat) (index : BitVec 20) (s : State) :
    keptNext (reelCommand tenant op mode index s) = some (kept s) := by
  simp only [reelCommand, kept_tenantWrite, kept_rcWrite, keptNext_next, implies_true]

theorem kept_execReelDoorbell (tenant : Func) (value : Word) (s : State) : keptNext (execReelDoorbell tenant value s) = some (kept s) := by
  simp only [execReelDoorbell, kept_tenantWrite, kept_enqueue, keptNext_next, implies_true]

theorem kept_execDailiesDoorbell (tenant : Func) (value : Word) (s : State) : keptNext (execDailiesDoorbell tenant value s) = some (kept s) := by
  simp only [execDailiesDoorbell, kept_tenantWrite, kept_enqueue, keptNext_next, implies_true]

theorem kept_sendMessage (f d : Nat) (c : DailiesCtx) (s : State) : kept (sendMessage f d c s) = kept s := by
  simp only [sendMessage, kept_setDailies, kept_putDailies, kept_issueWrite]

theorem kept_wakeMessage (k : Nat) (s : State) : kept (wakeMessage k s) = kept s := by
  unfold wakeMessage; simp only []
  split <;> simp only [kept_sendMessage, kept_ite, ite_self]

theorem kept_wakeMessages (s : State) : kept (wakeMessages s) = kept s := by simp only [wakeMessages, kept_wakeMessage, kept_foldl, implies_true]

theorem kept_execContextFetchCompletion (tenant : Func) (isDailies : Bool) (index : BitVec 20) (s : State) :
    keptNext (execContextFetchCompletion tenant isDailies index s) = some (kept s) := by
  unfold execContextFetchCompletion; simp only [keptNext_ite]
  (repeat' split) <;> simp only [kept_setDailies, kept_drainWaiting, kept_settleHalting, kept_cacheDailies, kept_failCtx, kept_setReel,
    kept_cacheReel, keptNext_next]

theorem kept_execContextWritebackTimer (tenant : Func) (isDailies : Bool) (index : BitVec 20) (s : State) :
    keptNext (execContextWritebackTimer tenant isDailies index s) = some (kept s) := by
  unfold execContextWritebackTimer; simp only []
  split <;> simp only [kept_writeBack, keptNext_next, kept_ite, ite_self]

theorem kept_execAgeTimerExpiry (tenant : Func) (reel : BitVec 20) (s : State) : keptNext (execAgeTimerExpiry tenant reel s) = some (kept s) := by
  unfold execAgeTimerExpiry; simp only []
  split <;> simp only [kept_fetchReel, kept_putReel, keptNext_next, keptNext_ite, kept_ite, ite_self]

/-! ### The scheduler (10) -/

theorem kept_chargeTake (f : Nat) (s : State) : kept (chargeTake f s) = kept s := by simp only [chargeTake, kept_modTenant]

theorem kept_readSlate (f i seq : Nat) (c : ReelCtx) (s : State) : kept (readSlate f i seq c s) = kept s := by
  simp only [readSlate, kept_takeCredit, kept_chargeTake, kept_bumpId, kept_putReel, kept_issueRead, kept_mk, kept_eta]

theorem kept_serveOne (f seq : Nat) (s : State) : kept (serveOne f seq s) = kept s := by
  unfold serveOne
  (repeat' split) <;> simp only [kept_readSlate, kept_modTenant]

theorem kept_serveTenant (f : Nat) (qs : List Nat) (s : State) : kept (serveTenant f qs s).2 = kept s := by
  induction qs generalizing s with
  | nil => rfl
  | cons q qs ih =>
    unfold serveTenant
    split
    · rfl
    · split
      · rw [ih, kept_serveOne]
      · exact ih s

theorem kept_fetchForService (f : Nat) (s : State) : kept (fetchForService f s) = kept s := by
  refine kept_foldl _ (fun t i => ?_) _ s
  dsimp only
  split
  · split
    · exact kept_fetchReel f i t
    · rfl
  · split
    · exact kept_fetchDailies f _ t
    · rfl

theorem kept_settleDeficit (f : Nat) (s : State) : kept (settleDeficit f s) = kept s := by
  simp only [settleDeficit, kept_modTenant, kept_ite, ite_self]

theorem kept_visit (fs : List Nat) (first : Bool) (qs : List Nat) (s : State) : kept (visit fs first qs s) = kept s := by
  induction fs generalizing first qs s with
  | nil => rfl
  | cons f fs ih =>
    unfold visit; simp only []
    split
    · rw [ih, kept_settleDeficit, kept_fetchForService]
    · split
      · exact kept_fetchForService f s
      · simp only [ih, kept_ite, kept_mk, kept_eta, kept_settleDeficit, kept_serveTenant, kept_modTenant, kept_fetchForService, ite_self]

theorem kept_readShares (s : State) : kept (readShares s) = kept s := by simp only [readShares, kept_modTenant, kept_foldl, implies_true]

theorem kept_execSchedulerRound (seqs : List Nat) (s : State) : keptNext (execSchedulerRound seqs s) = some (kept s) := by
  simp only [execSchedulerRound, kept_readShares, kept_visit, keptNext_next, kept_ite, ite_self]

theorem kept_execBucketRefill (s : State) : keptNext (execBucketRefill s) = some (kept s) := by
  simp only [execBucketRefill, kept_modTenant, keptNext_next, keptNext_ite, kept_foldl, kept_mk, kept_eta, ite_self, implies_true]

/-! ### Slates (01, 03) -/

theorem kept_refuseSlate (x : Slate) (b : Bytes) (st : Status) (s : State) : kept (refuseSlate x b st s) = kept s := by
  simp only [refuseSlate, kept_writeDaily, kept_dropSlate]

theorem kept_admitSlate (x : Slate) (b : Bytes) (p : List Bytes) (seq : Nat) (s : State) : kept (admitSlate x b p seq s) = kept s := by
  simp only [admitSlate, kept_dropSlate, kept_modReel, kept_mk, kept_eta]

theorem kept_decideSlate (x : Slate) (s : State) : kept (decideSlate x s) = kept s := by
  unfold decideSlate; simp only []
  (repeat' split) <;> simp only [kept_refuseSlate, kept_admitSlate, kept_touchIsland]

theorem kept_dropFrom (f i id : Nat) (s : State) : kept (dropFrom f i id s) = kept s := by
  refine kept_foldl _ (fun t x => ?_) _ s
  split
  · rw [kept_freeCredit, kept_dropSlate]
  · exact kept_dropSlate x.id t

theorem kept_failSlate (x : Slate) (st : Status) (s : State) : kept (failSlate x st s) = kept s := by
  simp only [failSlate, kept_dropFrom, kept_haltReel, kept_modReel]

theorem kept_failExt (x : Slate) (st : Status) (s : State) : kept (failExt x st s) = kept s := by
  unfold failExt; simp only [kept_modReel, kept_haltReel, kept_refuseSlate]
  split <;> simp only [kept_dropFrom]

theorem kept_discardSlate (x : Slate) (s : State) : kept (discardSlate x s) = kept s := by
  simp only [discardSlate, kept_dropSlate, kept_freeCredit, kept_ite, ite_self]

theorem kept_execAdmission (tenant : Func) (reel : BitVec 20) (s : State) : keptNext (execAdmission tenant reel s) = some (kept s) := by
  unfold execAdmission; simp only []
  (repeat' split) <;> simp only [kept_discardSlate, kept_fetchReel, kept_decideSlate, kept_failSlate, keptNext_next]

theorem kept_execExtProgramRead (tenant : Func) (reel : BitVec 20) (slot : BitVec 16) (s : State) :
    keptNext (execExtProgramRead tenant reel slot s) = some (kept s) := by
  unfold execExtProgramRead; simp only []
  (repeat' split) <;> simp only [kept_setSlate, kept_discardSlate, kept_fetchReel, kept_failExt, keptNext_next]

end Sys2Proof.Machine
end

section
/-! SUPPORT. What the operations on takes and units keep: fences, codes, OPs and results. -/

namespace Sys2Proof.Machine

/-! ### Fences (16) -/

theorem kept_recordFence (kind index cause event : Nat) (s : State) : kept (recordFence kind index cause event s) = kept s := by
  simp only [recordFence, kept_raiseLog, kept_mk, kept_eta]

theorem kept_fenceUnit (kind index cause event : Nat) (s : State) : kept (fenceUnit kind index cause event s) = kept s := by
  simp only [fenceUnit, kept_setFenced, kept_wipeCore, kept_clearUnit, kept_recordFence, kept_raise, kept_settleMode, kept_ite, ite_self]

theorem kept_faultUnit (kind index cause : Nat) (s : State) : kept (faultUnit kind index cause s) = kept s := by simp only [faultUnit, kept_fenceUnit]

theorem kept_uncontained (event kind index : Nat) (s : State) : kept (uncontained event kind index s) = kept s := by
  simp only [uncontained, kept_raiseLog, kept_mk, kept_eta]

theorem kept_orphanReads (id : Nat) (s : State) : kept (orphanReads id s) = kept s := (rfl)
theorem kept_withdraw (t : Take) (st : Status) (s : State) : kept (withdraw t st s).2 = kept s := (rfl)
theorem kept_detach (id : Nat) (s : State) : kept (detach id s) = kept s := by simp only [detach, kept_orphanReads, kept_mk, kept_eta]

theorem kept_opEnded (kind i : Nat) (s : State) : kept (opEnded kind i s) = kept s := by
  simp only [opEnded, kept_wipeCore, kept_clearUnit, kept_ite, ite_self]

theorem kept_leaveUnit (t : Take) (s : State) : kept (leaveUnit t s) = kept s := by
  unfold leaveUnit
  (repeat' split) <;> simp only [kept_opEnded, kept_fenceUnit]

theorem kept_endTake (t : Take) (st : Status) (s : State) : kept (endTake t st s) = kept s := by
  simp only [endTake, kept_withdraw, kept_setTake, kept_detach, kept_settleAllPins, kept_leaveUnit, kept_haltReel, kept_ite, ite_self]

theorem kept_stopTake (t : Take) (s : State) : kept (stopTake t s) = kept s := by
  simp only [stopTake, kept_endTake, kept_raise, kept_settleAllPins, kept_leaveUnit, kept_setTake, kept_detach, kept_mk, kept_eta, kept_ite, ite_self]

theorem kept_holdEnd (e : OpEnd) (t : Take) (s : State) : kept (holdEnd e t s) = kept s := by simp only [holdEnd, kept_setTake]

theorem kept_endWhenFree (t : Take) (st : Status) (s : State) : kept (endWhenFree t st s) = kept s := by
  simp only [endWhenFree, kept_holdEnd, kept_endTake, kept_ite, ite_self]

theorem kept_stopWhenFree (t : Take) (s : State) : kept (stopWhenFree t s) = kept s := by
  simp only [stopWhenFree, kept_holdEnd, kept_stopTake, kept_ite, ite_self]

theorem kept_endHeld (id : Nat) (e : Option OpEnd) (s : State) : kept (endHeld id e s) = kept s := by
  unfold endHeld
  cases e with
  | none => rfl
  | some e =>
    cases takeOf s id with
    | none => rfl
    | some t =>
      show kept (match t.phase, e with
        | .ended _, _ | .stopped, _ => s
        | _, .ends st => endTake t st s
        | _, .stops => stopTake t s) = kept s
      cases e with
      | ends st =>
        cases t.phase with
        | ended | stopped => rfl
        | ready | moving | waitWrites | waitRandom | waitEpoch | waitUnit | running => exact kept_endTake t st s
      | stops =>
        cases t.phase with
        | ended | stopped => rfl
        | ready | moving | waitWrites | waitRandom | waitEpoch | waitUnit | running => exact kept_stopTake t s

theorem kept_seqFault (t : Take) (found : SeqCheck) (s : State) : kept (seqFault t found s) = kept s := by
  unfold seqFault
  split <;> simp only [kept_stopTake, kept_faultUnit]

theorem kept_execTakeReexecution (take seq : Nat) (s : State) : keptNext (execTakeReexecution take seq s) = some (kept s) := by
  unfold execTakeReexecution
  split <;> simp only [kept_endTake, kept_touchIsland, kept_raise, kept_setTake, keptNext_next, keptNext_ite, kept_mk, kept_eta, ite_self]

theorem kept_startCode (id opcode : Nat) (found : SeqCheck) (run : Take → Bytes → State → State) (s : State)
    (hr : ∀ t c u, kept (run t c u) = kept u) : kept (startCode id opcode found run s) = kept s := by
  unfold startCode
  split
  · rfl
  · simp only [kept_ite, kept_endTake, kept_seqFault, hr, ite_self]

/-! ### Takes and codes (03) -/

theorem kept_issueList (t : Take) (since : Option Nat) (bs : List Burst) (s : State) : kept (issueList t since bs s).2 = kept s := by
  induction bs generalizing t since s with
  | nil => rfl
  | cons b bs ih =>
    unfold issueList
    split
    · rfl
    · split
      · rw [ih, kept_issueWrite]
      · rw [ih, kept_issueRead]

theorem kept_issueTodo (t : Take) (s : State) : kept (issueTodo t s).2 = kept s := by simp only [issueTodo, kept_issueList]

theorem kept_chunkDone (t : Take) (c : Bytes) (s : State) : kept (chunkDone t c s) = kept s := by
  simp only [chunkDone, kept_issueList, kept_setTake, kept_ite, ite_self]

theorem kept_finishEnd (t : Take) (c : Bytes) (s : State) : kept (finishEnd t c s) = kept s := by simp only [finishEnd, kept_endTake]

theorem kept_settleIssue (t : Take) (s : State) : kept (settleIssue t s) = kept s := by
  unfold settleIssue; simp only [kept_setTake, kept_ite]
  (repeat' split) <;> simp only [kept_setTake, kept_chunkDone, kept_finishEnd]

theorem kept_startIssue (t : Take) (bs : List Burst) (s : State) : kept (startIssue t bs s) = kept s := by
  simp only [startIssue, kept_issueList, kept_settleIssue]

theorem kept_resumeTake (t : Take) (s : State) : kept (resumeTake t s) = kept s := by simp only [resumeTake, kept_issueTodo, kept_settleIssue]

theorem kept_runMove (t : Take) (c : Bytes) (s : State) : kept (runMove t c s) = kept s := by
  unfold runMove
  split <;> simp only [kept_setTake, kept_startIssue, kept_endTake, kept_ite, ite_self]

theorem kept_goOn (id opcode : Nat) (s : State) : kept (goOn id opcode s) = kept s := by
  unfold goOn
  split <;> simp only [kept_endTake, kept_resumeTake, kept_ite, ite_self]

theorem kept_execMove (take : Nat) (found : SeqCheck) (s : State) : keptNext (execMove take found s) = some (kept s) := by
  unfold execMove
  split <;> simp only [kept_startCode, kept_runMove, kept_goOn, keptNext_next, keptNext_ite, ite_self, implies_true]

theorem kept_runMovi (t : Take) (c : Bytes) (s : State) : kept (runMovi t c s) = kept s := by simp only [runMovi, kept_setTake]

theorem kept_execMovi (take : Nat) (found : SeqCheck) (s : State) : keptNext (execMovi take found s) = some (kept s) := by
  simp only [execMovi, kept_startCode, kept_runMovi, keptNext_next, implies_true]

theorem kept_runLoop (t : Take) (c : Bytes) (s : State) : kept (runLoop t c s) = kept s := by simp only [runLoop, kept_setTake, kept_ite, ite_self]

theorem kept_execLoop (take : Nat) (found : SeqCheck) (s : State) : keptNext (execLoop take found s) = some (kept s) := by
  simp only [execLoop, kept_startCode, kept_runLoop, keptNext_next, implies_true]

theorem kept_runSkip (t : Take) (c : Bytes) (s : State) : kept (runSkip t c s) = kept s := by simp only [runSkip, kept_setTake]

theorem kept_execSkip (take : Nat) (found : SeqCheck) (s : State) : keptNext (execSkip take found s) = some (kept s) := by
  simp only [execSkip, kept_startCode, kept_runSkip, keptNext_next, implies_true]

theorem kept_runCheck (t : Take) (c : Bytes) (s : State) : kept (runCheck t c s) = kept s := by
  simp only [runCheck, kept_endTake, kept_setTake, kept_ite, ite_self]

theorem kept_execCheck (take : Nat) (found : SeqCheck) (s : State) : keptNext (execCheck take found s) = some (kept s) := by
  simp only [execCheck, kept_startCode, kept_runCheck, keptNext_next, implies_true]

theorem kept_runWait (t : Take) (c : Bytes) (s : State) : kept (runWait t c s) = kept s := by simp only [runWait, kept_setTake]

theorem kept_execWait (take : Nat) (found : SeqCheck) (s : State) : keptNext (execWait take found s) = some (kept s) := by
  unfold execWait
  split <;> simp only [kept_startCode, kept_runWait, kept_goOn, keptNext_next, keptNext_ite, ite_self, implies_true]

theorem kept_issueSignal (t : Take) (c : Bytes) (s : State) : kept (issueSignal t c s) = kept s := by simp only [issueSignal, kept_startIssue]

theorem kept_runSignal (t : Take) (c : Bytes) (s : State) : kept (runSignal t c s) = kept s := by
  simp only [runSignal, kept_issueSignal, kept_setTake, kept_ite, ite_self]

theorem kept_execSignal (take : Nat) (found : SeqCheck) (s : State) : keptNext (execSignal take found s) = some (kept s) := by
  unfold execSignal
  split <;> simp only [kept_startCode, kept_runSignal, kept_goOn, keptNext_next, keptNext_ite, ite_self, implies_true]

theorem kept_writesDone (t : Take) (s : State) : kept (writesDone t s) = kept s := by
  simp only [writesDone, kept_endTake, kept_issueSignal, kept_setTake, kept_ite, ite_self]

theorem kept_runEnd (t : Take) (c : Bytes) (s : State) : kept (runEnd t c s) = kept s := by simp only [runEnd, kept_startIssue]

theorem kept_execEndCode (take : Nat) (found : SeqCheck) (s : State) : keptNext (execEndCode take found s) = some (kept s) := by
  unfold execEndCode
  split <;> simp only [kept_startCode, kept_runEnd, kept_goOn, keptNext_next, keptNext_ite, ite_self, implies_true]

theorem kept_execParkTimeoutExpiry (take : Nat) (s : State) : keptNext (execParkTimeoutExpiry take s) = some (kept s) := by
  unfold execParkTimeoutExpiry; simp only []
  (repeat' split) <;> simp only [kept_endTake, kept_setTake, kept_endWhenFree, keptNext_next, kept_mk, kept_eta]

theorem kept_retireTake (t : Take) (s : State) : kept (retireTake t s) = kept s := by
  unfold retireTake
  split <;> simp only [kept_freeRetained, kept_dropTake, kept_modReel, kept_raise, kept_fenceUnit, kept_ite, ite_self]

theorem kept_execDailyWrite (take : Nat) (s : State) : keptNext (execDailyWrite take s) = some (kept s) := by
  unfold execDailyWrite
  (repeat' split) <;> simp only [kept_setTake, kept_retireTake, kept_writeDaily, keptNext_next]

/-! ### KEY (03) -/

theorem kept_keyResident (tagOk : Bool) (t : Take) (c : Bytes) (s : State) : kept (keyResident tagOk t c s) = kept s := by
  unfold keyResident; simp only []
  (repeat' split) <;> simp only [kept_setTake, kept_endTake, kept_faultGroup]

theorem kept_keyBlob (tagOk : Bool) (t : Take) (c : Bytes) (s : State) : kept (keyBlob tagOk t c s) = kept s := by
  unfold keyBlob; simp only []
  (repeat' split) <;> simp only [kept_endTake, kept_faultGroup, kept_setTake]

theorem kept_runKey (tagOk : Bool) (t : Take) (c : Bytes) (s : State) : kept (runKey tagOk t c s) = kept s := by
  simp only [runKey, kept_keyResident, kept_keyBlob, kept_ite, ite_self]

theorem kept_execKey (take : Nat) (found : SeqCheck) (tagOk : Bool) (s : State) : keptNext (execKey take found tagOk s) = some (kept s) := by
  simp only [execKey, kept_startCode, kept_runKey, keptNext_next, implies_true]

/-! ### OPs (04, 05, 07) -/

theorem kept_finishOp (t : Take) (c : Bytes) (o : OpOut) (s : State) : kept (finishOp t c o s) = kept s := by
  simp only [finishOp, kept_settleAllPins, kept_leaveUnit, kept_setTake, kept_endTake, kept_ite, ite_self]

theorem kept_countUse {slot gen : Nat} {s t : State} (h : countUse slot gen s = some t) : kept t = kept s := by
  unfold countUse at h; simp only [] at h
  split at h
  · split at h
    · cases h; exact kept_mapGroup slot _ s
    · cases h
  · split at h
    · split at h
      · cases h; rfl
      · cases h
    · cases h; rfl

theorem kept_startWrap (s : State) : kept (startWrap s) = kept s := by
  unfold startWrap
  split
  · rfl
  · exact kept_vaultChange _ s

/-- Whatever the step of an OP comes to, its state keeps what another keeps. -/
def OpStep.Keeps (s : State) : OpStep → Prop
  | .go _ t | .stop _ t | .wait t => kept t = kept s

theorem reserveUse_keeps (t : Take) (c : Bytes) (s : State) : (reserveUse t c s).Keeps s := by
  unfold reserveUse
  split
  · split
    · split
      · rfl
      · split
        · rename_i h; exact kept_countUse h
        · rfl
    · rfl
  · rfl

theorem reserveNonce_keeps (t : Take) (c : Bytes) (s : State) : (reserveNonce t c s).Keeps s := by
  unfold reserveNonce
  split
  · split
    · rfl
    · split
      · rfl
      · split
        · rfl
        · rename_i h
          simp only []
          split
          · exact (kept_setTake _ _).trans (kept_startWrap s)
          · exact (kept_setSlot _ _ _).trans (kept_countUse h)
  · rfl

theorem kept_chargePk (t : Take) (c : Bytes) (o : OpRun) (s : State) : kept (chargePk t c o s).2 = kept s := by
  unfold chargePk
  split <;> simp only [kept_modTenant]

theorem kept_ownCore (t : Take) (k : UnitKind) (i : Nat) (s : State) : kept (ownCore t k i s) = kept s := by
  simp only [ownCore, kept_clearUnit, kept_mk, kept_eta, kept_ite, ite_self]

theorem kept_loadUnit (t : Take) (c : Bytes) (o : OpRun) (i : Nat) (s : State) : kept (loadUnit t c o i s) = kept s := by
  simp only [loadUnit, kept_setRegs]

theorem kept_engineGo (t : Take) (c : Bytes) (o : OpRun) (e : Nat) (s : State) : kept (engineGo t c o e s) = kept s := by
  simp only [engineGo, kept_loadUnit, kept_touchIsland, kept_setTake, kept_issueList, kept_clearUnit, kept_ite, ite_self]

theorem kept_startUnit (t : Take) (o : OpRun) (i : Nat) (s : State) : kept (startUnit t o i s) = kept s := by
  unfold startUnit
  (repeat' split) <;> simp only [kept_touchIsland, kept_ownCore, kept_engineGo, kept_chargePk, kept_setTake, kept_loadUnit, kept_mk, kept_eta]

theorem kept_offerUnit (id i : Nat) (s : State) : kept (offerUnit id i s) = kept s := by
  unfold offerUnit
  (repeat' split) <;> simp only [kept_setTake, kept_endTake, kept_startUnit, kept_touchIsland]

theorem kept_queueOp (t : Take) (c : Bytes) (x : OpIn) (o : OpSpec) (s : State) : kept (queueOp t c x o s) = kept s := by
  simp only [queueOp, kept_finishOp, kept_setTake, kept_mk, kept_eta, kept_ite, ite_self]

theorem kept_afterDraw (t : Take) (c nonce drawn : Bytes) (s : State) : kept (afterDraw t c nonce drawn s) = kept s := by
  unfold afterDraw; simp only []
  split <;> simp only [kept_endTake, kept_queueOp]

theorem kept_drawOp (t : Take) (c nonce : Bytes) (s : State) : kept (drawOp t c nonce s) = kept s := by
  unfold drawOp; simp only []
  split
  · exact kept_afterDraw t c nonce [] s
  · split
    · exact kept_afterDraw _ c nonce _ s
    · split
      · exact kept_endTake t _ s
      · rename_i h; rw [kept_afterDraw]; exact kept_askRandom h
      · rename_i h; rw [kept_setTake]; exact kept_askRandom h

theorem kept_reserveOp (t : Take) (c : Bytes) (s : State) : kept (reserveOp t c s) = kept s := by
  have hstep : (if isGcmEnc (opCode c) then reserveNonce t c s else reserveUse t c s).Keeps s := by
    split
    · exact reserveNonce_keeps t c s
    · exact reserveUse_keeps t c s
  unfold reserveOp; simp only []
  split <;> rename_i h <;> rw [h] at hstep
  · rw [kept_drawOp]; exact hstep
  · rw [kept_endTake]; exact hstep
  · exact hstep

theorem kept_runOp (unit : Nat) (t : Take) (c : Bytes) (s : State) : kept (runOp unit t c s) = kept s := by
  unfold runOp
  split <;> simp only [kept_endTake, kept_offerUnit, kept_reserveOp]

theorem kept_gotRandom (id : Nat) (b : Bytes) (s : State) : kept (gotRandom id b s) = kept s := by
  unfold gotRandom
  split <;> simp only [kept_afterDraw, kept_ite, ite_self]

theorem kept_lostRandom (id : Nat) (st : Status) (s : State) : kept (lostRandom id st s) = kept s := by
  unfold lostRandom
  split <;> simp only [kept_endTake, kept_ite, ite_self]

theorem kept_endWrap (ok : Bool) (s : State) : kept (endWrap ok s) = kept s := by
  refine kept_foldl _ (fun t id => ?_) _ s
  split
  · simp only [kept_ite, kept_reserveOp, kept_endTake, ite_self]
  · rfl

/-! ### Results (04) -/

theorem kept_keepResult (k : UnitKind) (i : Nat) (out : OpOut) (s : State) : kept (keepResult k i out s) = kept s := by
  simp only [keepResult, kept_setRegs, kept_ite, ite_self]

theorem kept_unitEnds (k : UnitKind) (i : Nat) (found : UnitCheck) (s : State) : kept (unitEnds k i found s) = kept s := by
  unfold unitEnds
  (repeat' split) <;> simp only [kept_faultUnit, kept_endTake, kept_stopTake, kept_endHeld, kept_finishOp, kept_keepResult, kept_ite, ite_self]

theorem kept_execLaneOpCompletion (lane : Nat) (found : UnitCheck) (s : State) : keptNext (execLaneOpCompletion lane found s) = some (kept s) := by
  simp only [execLaneOpCompletion, kept_unitEnds, keptNext_next]

theorem kept_execDigestOpCompletion (unit : Nat) (found : UnitCheck) (s : State) :
    keptNext (execDigestOpCompletion unit found s) = some (kept s) := by
  simp only [execDigestOpCompletion, kept_unitEnds, keptNext_next]

theorem kept_execPkOpCompletion (shielded : Bool) (core : Nat) (found : UnitCheck) (s : State) :
    keptNext (execPkOpCompletion shielded core found s) = some (kept s) := by
  simp only [execPkOpCompletion, kept_unitEnds, keptNext_next]

theorem kept_execRngOperationComplete (take : Nat) (s : State) : keptNext (execRngOperationComplete take s) = some (kept s) := by
  unfold execRngOperationComplete
  (repeat' split) <;> simp only [kept_finishOp, keptNext_next]

theorem kept_releasePart (t : Take) (c : Bytes) (o : OpRun) (bs : Bytes) (s : State) : kept (releasePart t c o bs s).2 = kept s := by
  unfold releasePart
  split
  · exact kept_issueList t none _ s
  · rfl

theorem kept_elim_clearUnit (o : Option Nat) (s : State) : kept (o.elim id (clearUnit 2) s) = kept s := by
  cases o with
  | none => rfl
  | some i => exact kept_clearUnit 2 i s

theorem kept_shelve (t : Take) (o : OpRun) (s : State) : kept (shelve t o s) = kept s := by
  simp only [shelve, kept_setTake, kept_elim_clearUnit, kept_mk, kept_eta]

theorem kept_parkJob (t : Take) (o : OpRun) (s : State) : kept (parkJob t o s) = kept s := by simp only [parkJob, kept_setTake, kept_elim_clearUnit]

theorem kept_boundary (t : Take) (c : Bytes) (o : OpRun) (e : Nat) (s : State) : kept (boundary t c o e s) = kept s := by
  unfold boundary
  (repeat' split) <;> simp only [kept_engineGo, kept_shelve, kept_startUnit]

theorem kept_finishJob (t : Take) (c : Bytes) (out : OpOut) (s : State) : kept (finishJob t c out s) = kept s := by
  simp only [finishJob, kept_finishOp]

theorem kept_segmentDone (t : Take) (c : Bytes) (o : OpRun) (e stop : Nat) (s : State) : kept (segmentDone t c o e stop s) = kept s := by
  simp only [segmentDone, kept_releasePart, kept_parkJob, kept_boundary, kept_finishOp, kept_finishJob, kept_ite, ite_self]

theorem kept_stopEngine (e cause event : Nat) (s : State) : kept (stopEngine e cause event s) = kept s := by
  simp only [stopEngine, kept_stopTake, kept_fenceUnit, kept_foldl, implies_true]

theorem kept_execEngineSegmentEnd (engine : Nat) (found : UnitCheck) (s : State) :
    keptNext (execEngineSegmentEnd engine found s) = some (kept s) := by
  unfold execEngineSegmentEnd
  (repeat' split) <;> simp only [kept_parkJob, kept_stopEngine, kept_segmentDone, keptNext_next, keptNext_ite, ite_self]

theorem kept_resumeStream (t : Take) (o : OpRun) (s : State) : kept (resumeStream t o s) = kept s := by
  simp only [resumeStream, kept_issueTodo, kept_setTake, kept_finishJob, kept_shelve, kept_ite, ite_self]

theorem kept_goOnOp (t : Take) (unit : Nat) (s : State) : kept (goOnOp t unit s) = kept s := by
  unfold goOnOp
  (repeat' split) <;> simp only [kept_endTake, kept_resumeStream, kept_offerUnit]

theorem kept_execOp (take : Nat) (found : SeqCheck) (unit : Nat) (s : State) : keptNext (execOp take found unit s) = some (kept s) := by
  unfold execOp
  split <;> simp only [kept_startCode, kept_runOp, kept_goOnOp, keptNext_next, keptNext_ite, ite_self, implies_true]

end Sys2Proof.Machine
end

section
/-! SUPPORT. What the operations on tenants, the host fabric and the direct-feed port keep. -/

namespace Sys2Proof.Machine

/-! ### CALLSHEET and MIGRATION (10) -/

theorem kept_csEnd (status : Status) (reason : Nat) (s : State) : kept (csEnd status reason s) = kept s := (rfl)

theorem kept_carrySenior (kind f : Nat) (body : Bytes) (s : State) : kept (carrySenior kind f body s) = kept s := by
  simp only [carrySenior, kept_carry, kept_ite, ite_self]

theorem kept_csCreate (f : Nat) (s : State) : kept (csCreate f s) = kept s := by simp only [csCreate, kept_carrySenior, kept_createTenant]

theorem kept_csChange (f : Nat) (s : State) : kept (csChange f s) = kept s := by
  simp only [csChange, kept_carrySenior, kept_settlePins, kept_modTenant]

theorem kept_csPause (f : Nat) (s : State) : kept (csPause f s) = kept s := by simp only [csPause, kept_modTenant]
theorem kept_csResume (f : Nat) (s : State) : kept (csResume f s) = kept s := by simp only [csResume, kept_modTenant]

theorem kept_readLines (f : Nat) (old : Bool) (base : Word) (ps : List Nat) (s : State) : kept (readLines f old base ps s) = kept s := by
  simp only [readLines, kept_issueRead, kept_foldl, kept_ite, ite_self, implies_true]

theorem kept_closeAccesses (f : Nat) (s : State) : kept (closeAccesses f s) = kept s := (rfl)

theorem kept_closePeriod (f : Nat) (s : State) : kept (closePeriod f s) = kept s := by
  simp only [closePeriod, kept_setTenant, kept_readLines, kept_closeAccesses, kept_mk, kept_eta]

theorem kept_removeTenant (own : Bool) (f : Nat) (s : State) : kept (removeTenant own f s) = kept s := by
  simp only [removeTenant, kept_dropObjects, kept_closePeriod, kept_eraseCarried, kept_eraseGroup, kept_setSecret, kept_setPin, kept_setTenant,
    kept_foldl, kept_mk, kept_eta, kept_ite, ite_self, implies_true]

theorem kept_csRemove (f : Nat) (s : State) : kept (csRemove f s) = kept s := by
  simp only [csRemove, kept_carrySenior, kept_removeTenant, kept_floorWrite, kept_mk, kept_eta]

theorem kept_csRead (f : Nat) (s : State) : kept (csRead f s) = kept s := (rfl)

theorem kept_csReadImported (s : State) : kept (csReadImported s) = kept s := by
  unfold csReadImported
  split <;> simp only [kept_mk, kept_eta]

theorem kept_csApply (cmd f : Nat) (s : State) : kept (csApply cmd f s) = kept s := by
  unfold csApply
  split <;> simp only [kept_csCreate, kept_csChange, kept_csPause, kept_csResume, kept_csRemove, kept_csRead, kept_csReadImported]

theorem kept_csCommand (cmd f : Nat) (s : State) : kept (csCommand cmd f s) = kept s := by
  unfold csCommand; simp only [kept_mk, kept_eta, kept_ite]
  (repeat' split) <;> simp only [kept_csEnd, kept_csApply, kept_mk, kept_eta]

theorem kept_csWrite (src : Source) (value : Word) (s : State) : kept (csWrite src value s) = kept s := by
  simp only [csWrite, kept_guarded, kept_csCommand, implies_true, id_eq]

theorem kept_callSheet (src : Source) (cmd : Nat) (f : Func) (s : State) : keptNext (callSheet src cmd f s) = some (kept s) := by
  simp only [callSheet, kept_mgrWrite, kept_csWrite, keptNext_next, implies_true]

theorem kept_migEnd (status : Status) (f : Nat) (s : State) : kept (migEnd status f s) = kept s := (rfl)
theorem kept_startLog (f : Nat) (s : State) : kept (startLog f s) = kept s := by simp only [startLog, kept_migEnd, kept_setTenant, kept_ite, ite_self]

theorem kept_settleClosing (s : State) : kept (settleClosing s) = kept s := by
  unfold settleClosing
  split <;> simp only [kept_migEnd, kept_modTenant, kept_mk, kept_eta, kept_ite, ite_self]

theorem kept_closeLog (stop : Bool) (f : Nat) (s : State) : kept (closeLog stop f s) = kept s := by
  simp only [closeLog, kept_migEnd, kept_settleClosing, kept_closePeriod, kept_mk, kept_eta, kept_ite, ite_self]

theorem kept_migApply (cmd f : Nat) (s : State) : kept (migApply cmd f s) = kept s := by
  unfold migApply
  split <;> simp only [kept_startLog, kept_closeLog, kept_migEnd]

theorem kept_migWrite (value : Word) (s : State) : kept (migWrite value s) = kept s := by
  simp only [migWrite, kept_migApply, kept_mk, kept_eta, kept_ite, ite_self]

theorem kept_migration (src : Source) (cmd : Nat) (f : Func) (s : State) : keptNext (migration src cmd f s) = some (kept s) := by
  simp only [migration, kept_mgrWrite, kept_migWrite, keptNext_next, implies_true]

/-! ### The host fabric (14) -/

theorem kept_issueExt (x : Slate) (b : Bytes) (s : State) : kept (issueExt x b s) = kept s := by
  simp only [issueExt, kept_issueRead, kept_foldl, implies_true]

theorem kept_slateComplete (x : Slate) (s : State) : kept (slateComplete x s) = kept s := by
  simp only [slateComplete, kept_noteSeq, kept_issueExt, kept_setSlate, kept_ite, ite_self]

theorem kept_slateBytes (id pos : Nat) (b : Bytes) (s : State) : kept (slateBytes id pos b s) = kept s := by
  unfold slateBytes
  split <;> simp only [kept_slateComplete, kept_setSlate, kept_ite, ite_self]

theorem kept_extBytes (id pos : Nat) (b : Bytes) (s : State) : kept (extBytes id pos b s) = kept s := by
  unfold extBytes
  split <;> simp only [kept_setSlate, kept_ite, ite_self]

theorem kept_takeBytes (id pos : Nat) (b : Bytes) (s : State) : kept (takeBytes id pos b s) = kept s := by
  unfold takeBytes
  (repeat' split) <;> simp only [kept_setTake, kept_settleIssue]

theorem kept_bitmapLine (f : Nat) (old : Bool) (line : Nat) (addr : Word) (b : Bytes) (s : State) :
    kept (bitmapLine f old line addr b s) = kept s := by
  simp only [bitmapLine, kept_setTenant, kept_issueWrite, kept_mk, kept_eta, kept_ite, ite_self]

theorem kept_lineWritten (f : Nat) (old : Bool) (line : Nat) (addr : Word) (s : State) : kept (lineWritten f old line addr s) = kept s := by
  simp only [lineWritten, kept_issueRead, kept_settleClosing, kept_ite, ite_self]

theorem kept_imageBytes (b : Bytes) (s : State) : kept (imageBytes b s) = kept s := by
  unfold imageBytes
  split <;> simp only [kept_mk, kept_eta]

theorem kept_readDone (r : Request) (b : Bytes) (s : State) : kept (readDone r b s) = kept s := by
  unfold readDone
  (repeat' split) <;> simp only [kept_slateBytes, kept_extBytes, kept_takeBytes, kept_setDailies, kept_setReel, kept_bitmapLine, kept_imageBytes,
    kept_setSlate]

theorem kept_writeDone (r : Request) (s : State) : kept (writeDone r s) = kept s := by
  unfold writeDone
  (repeat' split) <;> simp only [kept_writesDone, kept_setTake, kept_settleHalting, kept_lineWritten, kept_commandDone]

theorem kept_slateFails (id : Nat) (st : Status) (s : State) : kept (slateFails id st s) = kept s := by
  unfold slateFails
  split <;> simp only [kept_failSlate, kept_fetchReel, kept_setSlate, kept_ite, ite_self]

theorem kept_extFails (id : Nat) (st : Status) (s : State) : kept (extFails id st s) = kept s := by
  unfold extFails
  split <;> simp only [kept_setSlate, kept_ite, ite_self]

theorem kept_takeWriteFails (id : Nat) (s : State) : kept (takeWriteFails id s) = kept s := by
  unfold takeWriteFails; simp only []
  (repeat' split) <;> simp only [kept_haltReel, kept_setTake, kept_endWhenFree]

theorem kept_backFails (f : Nat) (isD : Bool) (i : Nat) (data : Bytes) (s : State) : kept (backFails f isD i data s) = kept s := by
  unfold backFails
  (repeat' split) <;> simp only [kept_cacheDailies, kept_haltDailies, kept_cacheReel, kept_haltReel]

theorem kept_fetchFails (f : Nat) (isD : Bool) (i : Nat) (s : State) : kept (fetchFails f isD i s) = kept s := by
  simp only [fetchFails, kept_setDailies, kept_setReel, kept_drainWaiting, kept_failCtx, kept_ite, ite_self]

theorem kept_bitmapFails (f : Nat) (old : Bool) (line : Nat) (s : State) : kept (bitmapFails f old line s) = kept s := by
  simp only [bitmapFails, kept_modTenant, kept_settleClosing, kept_raise, kept_mk, kept_eta, kept_ite, ite_self]

theorem kept_eventFails (v : Nat) (s : State) : kept (eventFails v s) = kept s := by simp only [eventFails, kept_raiseLog, kept_mk, kept_eta]

theorem kept_imageFails (st : Status) (s : State) : kept (imageFails st s) = kept s := by
  unfold imageFails
  split <;> simp only [kept_mk, kept_eta]

theorem kept_requestFails (r : Request) (st : Status) (s : State) : kept (requestFails r st s) = kept s := by
  unfold requestFails
  (repeat' split) <;> simp only [kept_slateFails, kept_extFails, kept_endTake, kept_takeWriteFails, kept_settleHalting, kept_loseDaily, kept_raise,
    kept_fetchFails, kept_backFails, kept_eventFails, kept_bitmapFails, kept_imageFails, kept_setSlate, kept_commandDone]

theorem kept_closeRequest (p write : Bool) (tag : Nat) (s : State) : kept (closeRequest p write tag s) = kept s := by
  simp only [closeRequest, kept_setPort]

theorem kept_portStops (rs : List Request) (s : State) (id : Nat) : kept (portStops rs s id) = kept s := by
  unfold portStops
  cases takeOf s id with
  | none => rfl
  | some t =>
    show kept (match t.phase with
      | .ended st => if st = 0 then stopTake _ s else setTake _ s
      | .stopped => setTake _ s
      | _ => stopWhenFree _ s) = kept s
    cases t.phase with
    | ended st => rw [kept_ite, kept_stopTake, kept_setTake, ite_self]
    | stopped => exact kept_setTake _ s
    | ready | moving | waitWrites | waitRandom | waitEpoch | waitUnit | running => exact kept_stopWhenFree _ s

theorem kept_portFault (p : Bool) (cause : Nat) (s : State) : kept (portFault p cause s) = kept s := by
  unfold portFault; simp only []
  rw [kept_foldl, kept_foldl _ (kept_portStops _)]
  · simp only [kept_ite, kept_uncontained, kept_recordFence, kept_setPort, ite_self]
  · intro t r
    split
    · rfl
    · rfl
    · exact kept_requestFails r _ t

theorem kept_afterAnswer (s : State) : kept (afterAnswer s) = kept s := by simp only [afterAnswer, kept_settleAck, kept_pumpHeld]

theorem kept_answerError (p write : Bool) (r : Request) (s : State) : kept (answerError p write r s) = kept s := by
  simp only [answerError, kept_issue, kept_requestFails, kept_ite, ite_self]

theorem kept_portCrossing (p : Bool) (s : State) : kept (portCrossing p s) = kept s := by
  simp only [portCrossing, kept_afterAnswer, kept_portFault, kept_ite, ite_self]

theorem kept_answer (p write : Bool) (tag resp : Nat) (b : Bytes) (s : State) : kept (answer p write tag resp b s) = kept s := by
  unfold answer
  (repeat' split) <;> simp only [kept_afterAnswer, kept_portFault, kept_closeRequest, kept_writeDone, kept_readDone, kept_answerError,
    kept_requestFails]

theorem kept_execFabricReadResponse (port : Bool) (tag : BitVec 10) (data : Bytes) (resp : PortAnswer) (s : State) :
    keptNext (execFabricReadResponse port tag data resp s) = some (kept s) := by
  simp only [execFabricReadResponse, kept_portCrossing, kept_answer, keptNext_next, kept_ite, ite_self]

theorem kept_execFabricWriteResponse (port : Bool) (tag : BitVec 10) (resp : PortAnswer) (s : State) :
    keptNext (execFabricWriteResponse port tag resp s) = some (kept s) := by
  simp only [execFabricWriteResponse, kept_portCrossing, kept_answer, keptNext_next, kept_ite, ite_self]

theorem kept_execFabricPortReset (port : Bool) (s : State) : keptNext (execFabricPortReset port s) = some (kept s) := by
  simp only [execFabricPortReset, kept_afterAnswer, kept_portFault, keptNext_next, keptNext_ite, ite_self]

theorem kept_loseWaiting (t : Take) (s : State) : kept (loseWaiting t s) = kept s := by
  simp only [loseWaiting, kept_modDailies, kept_retireTake, kept_haltDailies]

theorem kept_loseHeld (s : State) (h : Held) : kept (loseHeld s h) = kept s := by
  unfold loseHeld
  split <;> simp only [kept_loseDaily]

theorem kept_execDailyParkTimeout (tenant : Func) (dailies : BitVec 20) (s : State) :
    keptNext (execDailyParkTimeout tenant dailies s) = some (kept s) := by
  unfold execDailyParkTimeout; simp only []
  (repeat' split) <;> simp only [kept_loseWaiting, kept_settleHalting, kept_loseHeld, keptNext_next, kept_foldl, kept_mk, kept_eta, implies_true]

theorem kept_execDailiesMessageWrite (tenant : Func) (dailies : BitVec 20) (s : State) :
    keptNext (execDailiesMessageWrite tenant dailies s) = some (kept s) := by
  unfold execDailiesMessageWrite; simp only [keptNext_next, keptNext_ite]
  (repeat' split) <;> simp only [kept_fetchDailies, kept_setDailies, kept_sendMessage, keptNext_next]

theorem kept_execModerationTimerExpiry (tenant : Func) (dailies : BitVec 20) (s : State) :
    keptNext (execModerationTimerExpiry tenant dailies s) = some (kept s) := by
  unfold execModerationTimerExpiry; simp only []
  split <;> simp only [kept_setDailies, kept_fetchDailies, keptNext_next, keptNext_ite, kept_ite, ite_self]

theorem kept_execMessageParkTimeout (tenant : Func) (dailies : BitVec 20) (s : State) :
    keptNext (execMessageParkTimeout tenant dailies s) = some (kept s) := by
  unfold execMessageParkTimeout; simp only []
  split <;> simp only [kept_raise, kept_putDailies, kept_setDailies, kept_fetchDailies, keptNext_next, keptNext_ite, kept_mk, kept_eta, kept_ite,
    ite_self]

theorem kept_readHeader (x : Slate) (c : ReelCtx) (s : State) : kept (readHeader x c s) = kept s := by
  simp only [readHeader, kept_issueRead, kept_setSlate]

theorem kept_oweNext (f i : Nat) (c : ReelCtx) (s : State) : kept (oweNext f i c s) = kept s := by
  simp only [oweNext, kept_takeCredit, kept_bumpId, kept_readHeader, kept_fetchDailies, kept_mk, kept_eta, kept_ite, ite_self]

theorem kept_answerUnread (x : Slate) (ok : Bool) (s : State) : kept (answerUnread x ok s) = kept s := by
  simp only [answerUnread, kept_writeDaily, kept_dropSlate, kept_modReel, kept_raise, kept_ite, ite_self]

theorem kept_execAbortedDailyWrite (tenant : Func) (reel : BitVec 20) (s : State) :
    keptNext (execAbortedDailyWrite tenant reel s) = some (kept s) := by
  unfold execAbortedDailyWrite; simp only []
  (repeat' split) <;> simp only [kept_fetchReel, kept_oweNext, kept_readHeader, kept_answerUnread, keptNext_next]

theorem kept_flushTenant (f : Nat) (s : State) : kept (flushTenant f s) = kept s := by
  simp only [flushTenant, kept_fetchDailies, kept_setDailies, kept_writeBack, kept_foldl, kept_ite, ite_self, implies_true]

theorem kept_tenantPaused (f : Nat) (s : State) : kept (tenantPaused f s) = kept s := by
  simp only [tenantPaused, kept_raise, kept_setTenant, kept_floorWrite, kept_removeTenant, kept_ite, ite_self]

theorem kept_execPauseComplete (tenant : Func) (s : State) : keptNext (execPauseComplete tenant s) = some (kept s) := by
  simp only [execPauseComplete, kept_flushTenant, kept_tenantPaused, keptNext_next, keptNext_ite, kept_ite, ite_self]

/-! ### The direct-feed port (06) -/

theorem kept_freeDirect (s : State) : kept (freeDirect s) = kept s := by simp only [freeDirect, kept_chainQueue, kept_mk, kept_eta]

theorem kept_directStart (src : Source) (s : State) : kept (directStart src s) = kept s := by
  simp only [directStart, kept_freeDirect, kept_mk, kept_eta, kept_ite, ite_self]

theorem kept_directRefuse (src : Source) (s : State) : kept (directRefuse src s) = kept s := (rfl)
theorem kept_directAppend (value : Word) (s : State) : kept (directAppend value s) = kept s := (rfl)

theorem kept_directData (src : Source) (value : Word) (s : State) : kept (directData src value s) = kept s := by
  simp only [directData, kept_directRefuse, kept_directAppend, kept_directStart, kept_ite, ite_self]

theorem kept_directFinish (s : State) : kept (directFinish s) = kept s := by
  simp only [directFinish, kept_freeDirect, kept_mk, kept_eta, kept_ite, ite_self]

theorem kept_directNoMessage (src : Source) (s : State) : kept (directNoMessage src s) = kept s := (rfl)

theorem kept_directCtrl (src : Source) (value : Word) (s : State) : kept (directCtrl src value s) = kept s := by
  unfold directCtrl; simp only [kept_directRefuse, kept_directNoMessage, kept_ite]
  (repeat' split) <;> simp only [kept_directStart, kept_directFinish, kept_freeDirect, kept_mk, kept_eta]

theorem kept_directWrite (src : Source) (isData : Bool) (value : Word) (s : State) : kept (directWrite src isData value s) = kept s := by
  simp only [directWrite, kept_directData, kept_directCtrl, kept_ite, ite_self]

theorem kept_directDigest (s : State) : kept (directDigest s) = kept s := by simp only [directDigest, kept_freeDirect, kept_mk, kept_eta]

theorem kept_directLen (value : Word) (s : State) : kept (directLen value s) = kept s := by
  simp only [directLen, kept_mk, kept_eta, kept_ite, ite_self]

theorem kept_directStatusWrite (value : Word) (s : State) : kept (directStatusWrite value s) = kept s := by
  simp only [directStatusWrite, kept_mk, kept_eta, kept_ite, ite_self]

theorem kept_execDdStart (src : Source) (value : Word) (s : State) : keptNext (execDdStart src value s) = some (kept s) := by
  simp only [execDdStart, kept_mgrWrite, kept_directWrite, keptNext_next, keptNext_ite, ite_self, implies_true]

theorem kept_execDdData (src : Source) (value : Word) (s : State) : keptNext (execDdData src value s) = some (kept s) := by
  simp only [execDdData, kept_mgrWrite, kept_directWrite, keptNext_next, implies_true]

theorem kept_execDdFinish (src : Source) (value : Word) (s : State) : keptNext (execDdFinish src value s) = some (kept s) := by
  simp only [execDdFinish, kept_mgrWrite, kept_directWrite, keptNext_next, keptNext_ite, ite_self, implies_true]

theorem kept_execDdCancel (src : Source) (value : Word) (s : State) : keptNext (execDdCancel src value s) = some (kept s) := by
  simp only [execDdCancel, kept_mgrWrite, kept_directWrite, keptNext_next, keptNext_ite, ite_self, implies_true]

theorem kept_execDdTimeout (s : State) : keptNext (execDdTimeout s) = some (kept s) := by
  simp only [execDdTimeout, kept_freeDirect, keptNext_next, keptNext_ite, kept_mk, kept_eta, ite_self]

end Sys2Proof.Machine
end

section
/-! SUPPORT. What the operations on the key store, the logbook and the twin link keep. -/

namespace Sys2Proof.Machine

/-! ### KUMs, images and packages (08) -/

theorem kept_kmEnd (status : Status) (reason : Nat) (s : State) : kept (kmEnd status reason s) = kept s := (rfl)
theorem kept_kmOutput (run : KmRun) (b : Bytes) (s : State) : kept (kmOutput run b s) = kept s := (rfl)
theorem kept_kumRefuse (b : Bytes) (e : Failed) (s : State) : kept (kumRefuse b e s) = kept s := by simp only [kumRefuse, kept_kmEnd, kept_raiseLog]
theorem kept_tagFaultEnd (i : Nat) (s : State) : kept (tagFaultEnd i s) = kept s := by simp only [tagFaultEnd, kept_kmEnd, kept_faultGroup]

theorem kept_kumVault (c : Checked) (s : State) : kept (kumVault c s) = kept s := by
  simp only [kumVault, kept_vaultChange, kept_mk, kept_eta, kept_ite, ite_self]

theorem kept_execKum (tagFault : Option (BitVec 17)) (s : State) : keptNext (execKum tagFault s) = some (kept s) := by
  unfold execKum; simp only []
  split
  · rfl
  · split
    · simp only [keptNext_next, kept_kumRefuse]
    · split
      · simp only [keptNext_next, kept_tagFaultEnd]
      · rw [keptNext_next, kept_ite, kept_onShielded _ id s ?go fun _ => rfl]
        · split
          · rfl
          · split
            · rw [kept_kumRefuse]
            · rw [kept_kumVault]
        · intro t
          split
          · rw [kept_kumRefuse]
          · rw [kept_kumVault]

theorem kept_kumStore (c : Checked) (s : State) : kept (kumStore c s) = kept s := by
  unfold kumStore
  split <;> simp only [kept_writeGroup, kept_mapGroup, kept_eraseGroup, kept_mk, kept_eta]

theorem kept_kumCarry (c : Checked) (before s : State) : kept (kumCarry c before s) = kept s := by
  unfold kumCarry
  split <;> simp only [kept_carry]

theorem kept_kumCounted (c : Checked) (s : State) : kept (kumCounted c s) = kept s := (rfl)

theorem kept_execKumCommit (s : State) : keptNext (execKumCommit s) = some (kept s) := by
  unfold execKumCommit
  split <;> simp only [kept_kumStore, kept_kmEnd, kept_kumCounted, kept_raise, kept_kumCarry, keptNext_next, keptNext_ite, ite_self]

theorem kept_imageExport (tagFault : Option (BitVec 17)) (s : State) : kept (imageExport tagFault s) = kept s := by
  unfold imageExport
  split <;> simp only [kept_tagFaultEnd, kept_kmOutput, kept_mk, kept_eta]

theorem kept_restoreStore (rs : List (Nat × Slot)) (secrets : List (Nat × Bytes)) (s : State) : kept (restoreStore rs secrets s) = kept s := by
  simp only [restoreStore, kept_withCompanion, kept_foldl, kept_mk, kept_eta, implies_true]

theorem kept_execImageRestore (s : State) : keptNext (execImageRestore s) = some (kept s) := by
  unfold execImageRestore
  (repeat' split) <;> simp only [kept_kmEnd, kept_raise, kept_enterServing, kept_restoreStore, keptNext_next]

theorem kept_packageSealed (f : Nat) (drawn : Bytes) (s : State) : kept (packageSealed f drawn s) = kept s := by
  simp only [packageSealed, kept_kmOutput, kept_ite, ite_self]

theorem kept_packageReady (f : Nat) (drawn : Bytes) (s : State) : kept (packageReady f drawn s) = kept s := by
  simp only [packageReady, kept_underIdk, kept_packageSealed, implies_true]

theorem kept_packageExport (tagFault : Option (BitVec 17)) (s : State) : kept (packageExport tagFault s) = kept s := by
  unfold packageExport; simp only []
  split
  · exact kept_kmEnd _ _ s
  · split
    · exact kept_kmEnd _ _ s
    · split
      · exact kept_tagFaultEnd _ s
      · split
        · exact kept_kmEnd _ 0 s
        · rename_i h; rw [kept_packageReady, kept_askRandom h]; rfl
        · rename_i h; rw [kept_askRandom h]; rfl

theorem kept_packageRead (f : Nat) (s : State) : kept (packageRead f s) = kept s := by
  simp only [packageRead, kept_eraseCarried, kept_floorWrite, kept_foldl, kept_mk, kept_eta, implies_true]

theorem kept_installPackage (f n : Nat) (p : Bytes) (s : State) : kept (installPackage f n p s) = kept s := by
  simp only [installPackage, kept_setSlot, kept_withCompanion, kept_carry, kept_setSecret, kept_raiseAll, kept_foldl, kept_mk, kept_eta, implies_true]

theorem kept_packageImport (s : State) : kept (packageImport s) = kept s := by
  unfold packageImport
  split <;> simp only [kept_kmEnd, kept_installPackage]

theorem kept_execPackageImport (s : State) : keptNext (execPackageImport s) = some (kept s) := by
  simp only [execPackageImport, kept_kmEnd, kept_onShielded, kept_packageImport, keptNext_next, keptNext_ite, ite_self, implies_true, id_eq]

theorem kept_kmStart (run : KmRun) (s : State) : kept (kmStart run s) = kept s := (rfl)
theorem kept_packageWithdraw (s : State) : kept (packageWithdraw s) = kept s := (rfl)

theorem kept_kmCommand (cmd : Nat) (tagFault : Option (BitVec 17)) (s : State) : kept (kmCommand cmd tagFault s) = kept s := by
  unfold kmCommand
  split <;> simp only [kept_kmEnd, kept_kmStart, kept_imageExport, kept_kmOutput, kept_floorWrite, kept_packageExport, kept_packageWithdraw, kept_mk,
    kept_eta, kept_ite, ite_self]

theorem kept_kmCtrlWrite (value : Word) (tagFault : Option (BitVec 17)) (s : State) : kept (kmCtrlWrite value tagFault s) = kept s := by
  simp only [kmCtrlWrite, kept_kmCommand, kept_mk, kept_eta, kept_ite, ite_self]

theorem kept_kmCtrl (src : Source) (cmd : Nat) (tagFault : Option (BitVec 17)) (s : State) :
    keptNext (kmCtrl src cmd tagFault s) = some (kept s) := by
  simp only [kmCtrl, kept_mgrWrite, kept_kmCtrlWrite, keptNext_next, implies_true]

theorem kept_kmDataWrite (value : Word) (s : State) : kept (kmDataWrite value s) = kept s := by
  simp only [kmDataWrite, kept_mk, kept_eta, kept_ite, ite_self]

theorem kept_execKmDataWrite (src : Source) (value : Word) (s : State) : keptNext (execKmDataWrite src value s) = some (kept s) := by
  simp only [execKmDataWrite, kept_mgrWrite, kept_kmDataWrite, keptNext_next, implies_true]

theorem kept_kmOutputEnd (s : State) : kept (kmOutputEnd s) = kept s := by
  unfold kmOutputEnd
  split <;> simp only [kept_raise, kept_kmEnd, kept_packageRead]

theorem kept_kmDataRead (s : State) : kept (kmDataRead s).2 = kept s := by
  unfold kmDataRead
  split
  · rfl
  · simp only [kept_ite, kept_kmOutputEnd, kept_mk, kept_eta, ite_self]

theorem kept_execMaskRefresh (s : State) : keptNext (execMaskRefresh s) = some (kept s) := by
  simp only [execMaskRefresh, keptNext_next, keptNext_ite, kept_mk, kept_eta, ite_self]

/-! ### The logbook (15) -/

theorem kept_logAccess (cmd : Nat) (st : Status) (s : State) : kept (logAccess cmd st s) = kept s := by simp only [logAccess, kept_logPlain]
theorem kept_acEnd (st : Status) (s : State) : kept (acEnd st s) = kept s := (rfl)
theorem kept_acFinish (cmd : Nat) (st : Status) (s : State) : kept (acFinish cmd st s) = kept s := by simp only [acFinish, kept_logAccess, kept_acEnd]

theorem kept_lbSelSet (value : Word) (s : State) : kept (lbSelSet value s) = kept s := by
  unfold lbSelSet
  split <;> simp only [kept_mk, kept_eta]

theorem kept_execLbSelWrite (src : Source) (value : Word) (s : State) : keptNext (execLbSelWrite src value s) = some (kept s) := by
  simp only [execLbSelWrite, kept_mgrWrite, kept_lbSelSet, keptNext_next, implies_true]

theorem kept_lbAckSet (value : Word) (s : State) : kept (lbAckSet value s) = kept s := (rfl)

theorem kept_execLbAckWrite (src : Source) (value : Word) (s : State) : keptNext (execLbAckWrite src value s) = some (kept s) := by
  simp only [execLbAckWrite, kept_mgrWrite, kept_lbAckSet, keptNext_next, implies_true]

theorem kept_checkpointEnd (st : Status) (s : State) : kept (checkpointEnd st s) = kept s := (rfl)

theorem kept_checkpointSigned (drawn : Bytes) (s : State) : kept (checkpointSigned drawn s) = kept s := by
  simp only [checkpointSigned, kept_raiseLog, kept_checkpointEnd, kept_mk, kept_eta]

theorem kept_checkpointReady (drawn : Bytes) (s : State) : kept (checkpointReady drawn s) = kept s := by
  simp only [checkpointReady, kept_underIdk, kept_checkpointSigned, implies_true]

theorem kept_checkpointStart (s : State) : kept (checkpointStart s) = kept s := by
  unfold checkpointStart
  split
  · exact kept_checkpointEnd _ s
  · split
    · exact kept_checkpointEnd _ s
    · rename_i h; rw [kept_checkpointReady]; exact kept_askRandom h
    · rename_i h; exact kept_askRandom h

theorem kept_lbCmdWrite (src : Source) (value : Word) (s : State) : kept (lbCmdWrite src value s) = kept s := by
  simp only [lbCmdWrite, kept_guarded, kept_checkpointStart, kept_ite, ite_self, implies_true, id_eq]

theorem kept_execCheckpoint (src : Source) (s : State) : keptNext (execCheckpoint src s) = some (kept s) := by
  simp only [execCheckpoint, kept_mgrWrite, kept_lbCmdWrite, keptNext_next, implies_true]

/-! ### The twin link (11) -/

theorem kept_modSession (g : Session → Session) (s : State) : kept (modSession g s) = kept s := (rfl)
theorem kept_present (frame : Bytes) (s : State) : kept (present frame s) = kept s := (rfl)

theorem kept_sendFrame (type flags : Nat) (payload : Bytes) (s : State) : kept (sendFrame type flags payload s) = kept s := by
  unfold sendFrame; simp only []
  split <;> simp only [kept_modSession, kept_present, kept_ite, ite_self]

theorem kept_flushFrames (s : State) : kept (flushFrames s) = kept s := by
  simp only [flushFrames, kept_sendFrame, kept_modSession, kept_foldl, implies_true]

theorem kept_rejectFrame (s : State) : kept (rejectFrame s) = kept s := by simp only [rejectFrame, kept_raise, kept_mk, kept_eta]
theorem kept_endSession (s : State) : kept (endSession s) = kept s := (rfl)
theorem kept_logTwin (event value extra : Nat) (s : State) : kept (logTwin event value extra s) = kept s := by simp only [logTwin, kept_raiseLog]

theorem kept_losePartner (cause : Nat) (s : State) : kept (losePartner cause s) = kept s := by
  simp only [losePartner, kept_endSession, kept_logTwin, kept_mk, kept_eta]

theorem kept_leaveWithNotice (cause : Nat) (s : State) : kept (leaveWithNotice cause s) = kept s := by
  simp only [leaveWithNotice, kept_endSession, kept_sendFrame, kept_ite, ite_self]

theorem kept_refusePairing (code : Nat) (s : State) : kept (refusePairing code s) = kept s := by
  simp only [refusePairing, kept_endSession, kept_logTwin, kept_mk, kept_eta]

theorem kept_failAttempt (s : State) : kept (failAttempt s) = kept s := by simp only [failAttempt, kept_endSession, kept_mk, kept_eta]

theorem kept_beginAttempt (s : State) : kept (beginAttempt s) = kept s := by
  have hend : kept { endSession s with twin := { (endSession s).twin with link := .handshake } } = kept s := kept_endSession s
  unfold beginAttempt; simp only []
  split
  · rw [kept_failAttempt]; exact hend
  · rename_i h; rw [kept_modSession]; exact (kept_askRandom h).trans hend
  · rename_i h; exact (kept_askRandom h).trans hend

theorem kept_startAttempt (s : State) : kept (startAttempt s) = kept s := by
  simp only [startAttempt, kept_beginAttempt, kept_refusePairing, kept_ite, ite_self]

theorem kept_execPairingStart (s : State) : keptNext (execPairingStart s) = some (kept s) := by
  simp only [execPairingStart, kept_startAttempt, keptNext_next, keptNext_ite, ite_self]

theorem kept_execHelloRetry (s : State) : keptNext (execHelloRetry s) = some (kept s) := by
  unfold execHelloRetry
  split <;> simp only [kept_startAttempt, keptNext_next, keptNext_ite, kept_mk, kept_eta, ite_self]

theorem kept_ephemeralReady (drawn : Bytes) (s : State) : kept (ephemeralReady drawn s) = kept s := by
  simp only [ephemeralReady, kept_present, kept_modSession]

theorem kept_execEphemeralKeygenComplete (s : State) : keptNext (execEphemeralKeygenComplete s) = some (kept s) := by
  unfold execEphemeralKeygenComplete
  split <;> simp only [kept_onShielded, kept_ephemeralReady, keptNext_next, keptNext_ite, ite_self, implies_true, id_eq]

theorem kept_execHello (port : Bool) (frame : Bytes) (bad : Bool) (s : State) : keptNext (execHello port frame bad s) = some (kept s) := by
  unfold execHello; simp only [kept_rejectFrame, keptNext_next, keptNext_ite]
  (repeat' split) <;> simp only [kept_refusePairing, kept_modSession, keptNext_next]

theorem kept_linkEcdh (s : State) : kept (linkEcdh s) = kept s := by
  unfold linkEcdh; simp only []
  (repeat' split) <;> simp only [kept_modSession, kept_sendFrame]

theorem kept_execLinkEcdhComplete (s : State) : keptNext (execLinkEcdhComplete s) = some (kept s) := by
  simp only [execLinkEcdhComplete, kept_onShielded, kept_linkEcdh, keptNext_next, implies_true, id_eq]

theorem kept_execConfirmTimeout (s : State) : keptNext (execConfirmTimeout s) = some (kept s) := by
  simp only [execConfirmTimeout, kept_refusePairing, keptNext_next, keptNext_ite, ite_self]

theorem kept_takeAck (ack : Nat) (s : State) : kept (takeAck ack s) = kept s := by
  simp only [takeAck, kept_modSession, kept_raise, kept_flushFrames, kept_mk, kept_eta, kept_ite, ite_self]

theorem kept_resend (s : State) : kept (resend s) = kept s := by simp only [resend, kept_present, kept_foldl, implies_true]
theorem kept_noteGap (s : State) : kept (noteGap s) = kept s := by simp only [noteGap, kept_modSession]

theorem kept_acceptFrame (b : Bytes) (s : State) : kept (acceptFrame b s) = kept s := by
  simp only [acceptFrame, kept_takeAck, kept_modSession, kept_resend, kept_mk, kept_eta, kept_ite, ite_self]

theorem kept_withFrame (type : Nat) (port : Bool) (b : Bytes) (bad : Bool) (f : Bytes → State → State) (s : State)
    (hf : ∀ p t, kept (f p t) = kept t) : kept (withFrame type port b bad f s) = kept s := by
  unfold withFrame; simp only [kept_ite, kept_rejectFrame]
  split
  · rfl
  · split
    · rfl
    · split
      · rfl
      · split
        · rfl
        · split
          · exact kept_rejectFrame s
          · simp only [kept_ite, kept_noteGap, hf, ite_self]

theorem kept_sendEntries (type number base : Nat) (last : Bool) (es : List Entry) (s : State) :
    kept (sendEntries type number base last es s) = kept s := by
  simp only [sendEntries, kept_sendFrame, kept_foldl, implies_true]

theorem kept_storeRecords (first : Nat) (rs : List (Nat × Slot)) (s : State) : kept (storeRecords first rs s) = kept s := by
  simp only [storeRecords, kept_eraseGroup, kept_withCompanion, kept_setSlot, kept_foldl, kept_ite, ite_self, implies_true]

theorem kept_commitEntry (e : Entry) (s : State) : kept (commitEntry e s) = kept s := by
  unfold commitEntry; simp only [kept_raise, kept_floorWrite, kept_ite, ite_self]
  (repeat' split) <;> simp only [kept_storeRecords, kept_mapGroup, kept_eraseGroup]

theorem kept_seniorContent (e : Entry) (s : State) : kept (seniorContent e s) = kept s := by
  simp only [seniorContent, kept_storeRecords, kept_ite, ite_self]

theorem kept_slotEntry (e : Entry) (s : State) : kept (slotEntry e s) = kept s := by
  simp only [slotEntry, kept_commitEntry, kept_seniorContent, kept_logTwin, kept_mk, kept_eta, kept_ite, ite_self]

theorem kept_createEntry (f : Nat) (e : Entry) (s : State) : kept (createEntry f e s) = kept s := by
  simp only [createEntry, kept_createTenant, kept_settlePins, kept_deriveSecret, kept_setTenant, kept_ite, ite_self]

theorem kept_removeEntry (f : Nat) (s : State) : kept (removeEntry f s) = kept s := by
  unfold removeEntry
  split <;> simp only [kept_floorWrite, kept_removeTenant, kept_modTenant, kept_csPause]

theorem kept_tenantEntry (e : Entry) (s : State) : kept (tenantEntry e s) = kept s := by
  unfold tenantEntry
  split <;> simp only [kept_createEntry, kept_settlePins, kept_modTenant, kept_removeEntry, kept_setSecret, kept_ite, ite_self]

theorem kept_identEntry (e : Entry) (s : State) : kept (identEntry e s) = kept s := by
  simp only [identEntry, kept_raise, kept_mk, kept_eta, kept_ite, ite_self]

theorem kept_recordEntry (s : State) (e : Entry) : kept (recordEntry s e) = kept s := by
  simp only [recordEntry, kept_slotEntry, kept_tenantEntry, kept_identEntry, kept_ite, ite_self]

theorem kept_syncChanged (object : Nat) (s : State) : kept (syncChanged object s) = kept s := by
  simp only [syncChanged, kept_logTwin, kept_mk, kept_eta]

theorem kept_noteSlots (before s : State) : kept (noteSlots before s) = kept s := by simp only [noteSlots, kept_syncChanged, kept_foldl, implies_true]

theorem kept_syncedEntry (s : State) (e : Entry) : kept (syncedEntry s e) = kept s := by
  simp only [syncedEntry, kept_noteSlots, kept_commitEntry, kept_tenantEntry, kept_syncChanged, kept_identEntry, kept_ite, ite_self]

theorem kept_keepParts (es : List Entry) (s : State) : kept (keepParts es s) = kept s := by simp only [keepParts, kept_modSession]

theorem kept_wholeRecord (b p : Bytes) (apply : List Entry → State → State) (s : State) (ha : ∀ es t, kept (apply es t) = kept t) :
    kept (wholeRecord b p apply s) = kept s := by
  simp only [wholeRecord, kept_ite, kept_noteGap, kept_mk, kept_eta, ha, kept_modSession, kept_acceptFrame, ite_self]

theorem kept_execRecord (port : Bool) (frame : Bytes) (bad : Bool) (s : State) : keptNext (execRecord port frame bad s) = some (kept s) := by
  refine congrArg some (kept_withFrame 3 port frame bad _ s fun p t => ?_)
  rw [kept_ite, kept_keepParts, kept_acceptFrame, kept_wholeRecord, ite_self]
  intro es u
  split
  · exact kept_foldl _ kept_recordEntry es u
  · rfl

theorem kept_juniorSync (last : Bool) (es : List Entry) (s : State) : kept (juniorSync last es s) = kept s := by
  simp only [juniorSync, kept_syncedEntry, kept_raise, kept_foldl, kept_mk, kept_eta, kept_ite, ite_self, implies_true]

theorem kept_seniorSync (last : Bool) (es : List Entry) (s : State) : kept (seniorSync last es s) = kept s := by
  simp only [seniorSync, kept_modSession, kept_sendEntries, kept_ite, ite_self]

theorem kept_execSync (port : Bool) (frame : Bytes) (bad : Bool) (s : State) : keptNext (execSync port frame bad s) = some (kept s) := by
  simp only [execSync, kept_withFrame, kept_wholeRecord, kept_juniorSync, kept_acceptFrame, kept_seniorSync, keptNext_next, kept_ite, ite_self,
    implies_true]

theorem kept_beginSync (own peer : Bytes) (s : State) : kept (beginSync own peer s) = kept s := by
  simp only [beginSync, kept_raise, kept_sendEntries, kept_mk, kept_eta, kept_ite, ite_self]

theorem kept_execConfirmFrame (port : Bool) (frame : Bytes) (bad : Bool) (s : State) :
    keptNext (execConfirmFrame port frame bad s) = some (kept s) := by
  refine congrArg some (kept_withFrame 2 port frame bad _ s fun p t => ?_)
  simp only []
  split
  · simp only [kept_ite, kept_beginSync, kept_refusePairing, kept_acceptFrame, ite_self]
  · exact kept_acceptFrame frame t

theorem kept_execNotice (port : Bool) (frame : Bytes) (bad : Bool) (s : State) : keptNext (execNotice port frame bad s) = some (kept s) := by
  simp only [execNotice, kept_withFrame, kept_losePartner, kept_acceptFrame, keptNext_next, implies_true]

theorem kept_execPartnerSilence (s : State) : keptNext (execPartnerSilence s) = some (kept s) := by
  simp only [execPartnerSilence, kept_losePartner, keptNext_next, keptNext_ite, ite_self]

theorem kept_closeRecord (s : State) : kept (closeRecord s) = kept s := by simp only [closeRecord, kept_sendEntries, kept_mk, kept_eta]

theorem kept_execRecordClose (s : State) : keptNext (execRecordClose s) = some (kept s) := by
  unfold execRecordClose
  (repeat' split) <;> simp only [kept_closeRecord, kept_sendEntries, kept_resend, kept_present, keptNext_next, kept_mk, kept_eta]

theorem kept_memberWrite (m : Nat) (s : State) : kept (memberWrite m s) = kept s := by
  simp only [memberWrite, kept_raise, kept_vaultChange, kept_ite, ite_self]

theorem kept_noteB (before s : State) : kept (noteB before s) = kept s := by simp only [noteB, kept_raise, kept_ite, ite_self]

theorem kept_dupWrite (d : BitVec 2) (s : State) : kept (dupWrite d s) = kept s := by
  simp only [dupWrite, kept_noteB, kept_mk, kept_eta, kept_ite, ite_self]

theorem kept_enableWrite (on : Bool) (s : State) : kept (enableWrite on s) = kept s := by
  simp only [enableWrite, kept_endSession, kept_leaveWithNotice, kept_mk, kept_eta, kept_ite, ite_self]

theorem kept_closeOverdue (s : State) : kept (closeOverdue s) = kept s := by simp only [closeOverdue, kept_closeRecord, kept_ite, ite_self]

theorem kept_twinCfgSet (value : Word) (s : State) : kept (twinCfgSet value s) = kept s := by
  simp only [twinCfgSet, kept_closeOverdue, kept_enableWrite, kept_dupWrite, kept_memberWrite, kept_mk, kept_eta]

theorem kept_twinCfgWrite (src : Source) (value : Word) (s : State) : kept (twinCfgWrite src value s) = kept s := by
  simp only [twinCfgWrite, kept_guarded, kept_twinCfgSet, implies_true, id_eq]

theorem kept_execTwinCfgWrite (src : Source) (value : Word) (s : State) : keptNext (execTwinCfgWrite src value s) = some (kept s) := by
  simp only [execTwinCfgWrite, kept_mgrWrite, kept_twinCfgWrite, keptNext_next, implies_true]

theorem kept_staticSecret (s : State) : kept (staticSecret s) = kept s := (rfl)

theorem kept_takePeerKey (s : State) : kept (takePeerKey s) = kept s := by
  simp only [takePeerKey, kept_underIdk, kept_staticSecret, kept_mk, kept_eta, kept_ite, ite_self, implies_true]

theorem kept_peerKeySet (i : Nat) (value : Word) (s : State) : kept (peerKeySet i value s) = kept s := by
  simp only [peerKeySet, kept_takePeerKey, kept_losePartner, kept_mk, kept_eta, kept_ite, ite_self]

theorem kept_peerKeyWrite (src : Source) (i : Nat) (value : Word) (s : State) : kept (peerKeyWrite src i value s) = kept s := by
  simp only [peerKeyWrite, kept_guarded, kept_peerKeySet, implies_true, id_eq]

theorem kept_execMlPeerKeyWrite (src : Source) (value : Word) (s : State) : keptNext (execMlPeerKeyWrite src value s) = some (kept s) := by
  simp only [execMlPeerKeyWrite, kept_mgrWrite, kept_peerKeyWrite, keptNext_next, implies_true]

theorem kept_memberChanged (s : State) : kept (memberChanged s) = kept s := by
  simp only [memberChanged, kept_raise, kept_beginAttempt, kept_carry, kept_ite, ite_self]

theorem kept_execMlPortUpChange (port up : Bool) (s : State) : keptNext (execMlPortUpChange port up s) = some (kept s) := by
  simp only [execMlPortUpChange, kept_noteB, kept_raise, keptNext_next, keptNext_ite, kept_mk, kept_eta, kept_ite, ite_self]

theorem kept_execFeedChange (feedB : Bool) (level : FeedLevel) (s : State) : keptNext (execFeedChange feedB level s) = some (kept s) := by
  simp only [execFeedChange, kept_raise, kept_leaveWithNotice, keptNext_next, keptNext_ite, kept_mk, kept_eta, kept_ite, ite_self]

theorem kept_leavePairing (notice : Bool) (s : State) : kept (leavePairing notice s) = kept s := by
  simp only [leavePairing, kept_leaveWithNotice, kept_endSession, kept_raise, kept_ite, ite_self]

end Sys2Proof.Machine
end

section
/-! SUPPORT. What the operations on the RNG, the modes, power, tamper and the boot keep, apart from the strike, the fuses and the end of a start. -/

namespace Sys2Proof.Machine

/-! ### The RNG (09) -/

theorem kept_setSource (i : Nat) (x : NoiseSource) (s : State) : kept (setSource i x s) = kept s := (rfl)

theorem kept_giveRandom (who : Asker) (b : Bytes) (s : State) : kept (giveRandom who b s) = kept s := by
  unfold giveRandom
  (repeat' split) <;> simp only [kept_gotRandom, kept_packageReady, kept_checkpointReady, kept_modSession, kept_mk, kept_eta]

theorem kept_refuseRandom (who : Asker) (st : Status) (s : State) : kept (refuseRandom who st s) = kept s := by
  unfold refuseRandom
  (repeat' split) <;> simp only [kept_lostRandom, kept_kmEnd, kept_checkpointEnd, kept_acFinish, kept_failAttempt]

theorem kept_serveList (n : Nat) (s : State) : kept (serveList n s) = kept s := by
  induction n generalizing s with
  | zero => rfl
  | succ n ih =>
    unfold serveList
    split
    · rfl
    · split
      · rfl
      · rw [ih, kept_giveRandom, kept_takeBuffer]; rfl

theorem kept_serveWaiting (s : State) : kept (serveWaiting s) = kept s := by simp only [serveWaiting, kept_serveList]

theorem kept_rngFail (cause : Nat) (s : State) : kept (rngFail cause s) = kept s := by
  simp only [rngFail, kept_refuseRandom, kept_settleMode, kept_raiseLog, kept_bumpFree, kept_foldl, kept_mk, kept_eta, kept_ite, ite_self,
    implies_true]

theorem kept_settleHealth (s : State) : kept (settleHealth s) = kept s := by simp only [settleHealth, kept_rngFail, kept_ite, ite_self]

theorem kept_sourceFail (i reason : Nat) (s : State) : kept (sourceFail i reason s) = kept s := by
  simp only [sourceFail, kept_settleHealth, kept_raiseLog, kept_setSource, kept_ite, ite_self]

theorem kept_rngStart (s : State) : kept (rngStart s) = kept s := by simp only [rngStart, kept_settleHealth, kept_mk, kept_eta]

theorem kept_rngRestart (s : State) : kept (rngRestart s) = kept s := by
  simp only [rngRestart, kept_settleMode, kept_raise, kept_rngStart, kept_ite, ite_self]

theorem kept_execTrimWindowEnd (source : Fin 16) (ones : Nat) (s : State) : keptNext (execTrimWindowEnd source ones s) = some (kept s) := by
  simp only [execTrimWindowEnd, kept_setSource, kept_sourceFail, keptNext_next, keptNext_ite, kept_ite, ite_self]

theorem kept_execTrimTimeout (source : Fin 16) (s : State) : keptNext (execTrimTimeout source s) = some (kept s) := by
  simp only [execTrimTimeout, kept_sourceFail, keptNext_next, keptNext_ite, ite_self]

theorem kept_execRepetitionCountFailure (source : Fin 16) (s : State) : keptNext (execRepetitionCountFailure source s) = some (kept s) := by
  simp only [execRepetitionCountFailure, kept_sourceFail, keptNext_next, keptNext_ite, ite_self]

theorem kept_windowEnd (i : Nat) (b : Bytes) (next : Nat) (s : State) : kept (windowEnd i b next s) = kept s := by
  simp only [windowEnd, kept_sourceFail, kept_setSource, kept_mk, kept_eta, kept_ite, ite_self]

theorem kept_execAdaptiveProportionWindowEnd (source : Fin 16) (bits : Bytes) (s : State) :
    keptNext (execAdaptiveProportionWindowEnd source bits s) = some (kept s) := by
  simp only [execAdaptiveProportionWindowEnd, kept_windowEnd, keptNext_next, keptNext_ite, kept_ite, ite_self]

theorem kept_execStartupComplete (source : Fin 16) (s : State) : keptNext (execStartupComplete source s) = some (kept s) := by
  simp only [execStartupComplete, kept_setSource, keptNext_next, keptNext_ite, ite_self]

theorem kept_reseeded (kv : Bytes × Bytes) (s : State) : kept (reseeded kv s) = kept s := (rfl)

theorem kept_servePr (r : RandomReq) (s : State) : kept (servePr r s) = kept s := by
  unfold servePr
  split <;> simp only [kept_giveRandom, kept_mk, kept_eta]

theorem kept_useSeed (seed : Bytes) (pr : Option RandomReq) (s : State) : kept (useSeed seed pr s) = kept s := by
  unfold useSeed
  (repeat' split) <;> simp only [kept_reseeded, kept_serveWaiting, kept_servePr, kept_mk, kept_eta]

theorem kept_execDrbgGenerate (found : RngCheck) (s : State) : keptNext (execDrbgGenerate found s) = some (kept s) := by
  unfold execDrbgGenerate
  split <;> simp only [kept_rngFail, kept_serveWaiting, kept_raise, keptNext_next, keptNext_ite, kept_mk, kept_eta, ite_self]

theorem kept_fallDue (s : State) : kept (fallDue s) = kept s := by simp only [fallDue, kept_raise, kept_mk, kept_eta, kept_ite, ite_self]

theorem kept_execReseedDue (s : State) : keptNext (execReseedDue s) = some (kept s) := by
  simp only [execReseedDue, kept_fallDue, keptNext_next, keptNext_ite, ite_self]

theorem kept_execReseedStall (s : State) : keptNext (execReseedStall s) = some (kept s) := by
  unfold execReseedStall
  split <;> simp only [keptNext_next, keptNext_ite, kept_mk, kept_eta, ite_self]

theorem kept_execRngRequestTimeout (who : Asker) (s : State) : keptNext (execRngRequestTimeout who s) = some (kept s) := by
  simp only [execRngRequestTimeout, kept_serveWaiting, kept_refuseRandom, keptNext_next, keptNext_ite, kept_mk, kept_eta, ite_self]

theorem kept_rngReseedCmd (s : State) : kept (rngReseedCmd s) = kept s := by simp only [rngReseedCmd, kept_fallDue, kept_ite, ite_self]

theorem kept_rngPatternSet (on : Bool) (s : State) : kept (rngPatternSet on s) = kept s := by
  simp only [rngPatternSet, kept_rngRestart, kept_mk, kept_eta, kept_ite, ite_self]

theorem kept_rngCtrlWrite (src : Source) (value : Word) (s : State) : kept (rngCtrlWrite src value s) = kept s := by
  simp only [rngCtrlWrite, kept_guarded, kept_rngReseedCmd, kept_rngPatternSet, kept_rngRestart, kept_ite, ite_self, implies_true]

theorem kept_execRestart (src : Source) (s : State) : keptNext (execRestart src s) = some (kept s) := by
  simp only [execRestart, kept_mgrWrite, kept_rngCtrlWrite, keptNext_next, implies_true]

theorem kept_execReseed (src : Source) (s : State) : keptNext (execReseed src s) = some (kept s) := by
  simp only [execReseed, kept_mgrWrite, kept_rngCtrlWrite, keptNext_next, implies_true]

theorem kept_execPattern (src : Source) (on : Bool) (s : State) : keptNext (execPattern src on s) = some (kept s) := by
  simp only [execPattern, kept_mgrWrite, kept_rngCtrlWrite, keptNext_next, implies_true]

theorem kept_rngCfgSet (value : Word) (s : State) : kept (rngCfgSet value s) = kept s := by
  simp only [rngCfgSet, kept_settleHealth, kept_mk, kept_eta, kept_ite, ite_self]

theorem kept_rngCfgWrite (src : Source) (value : Word) (s : State) : kept (rngCfgWrite src value s) = kept s := by
  simp only [rngCfgWrite, kept_guarded, kept_rngCfgSet, implies_true, id_eq]

theorem kept_execRngSrcCfgWrite (src : Source) (value : Word) (s : State) : keptNext (execRngSrcCfgWrite src value s) = some (kept s) := by
  simp only [execRngSrcCfgWrite, kept_mgrWrite, kept_rngCfgWrite, keptNext_next, implies_true]

theorem kept_rngPeriodSet (value : Word) (s : State) : kept (rngPeriodSet value s) = kept s := by
  simp only [rngPeriodSet, kept_fallDue, kept_mk, kept_eta, kept_ite, ite_self]

theorem kept_rngReseedReg (src : Source) (value : Word) (s : State) : kept (rngReseedReg src value s) = kept s := by
  simp only [rngReseedReg, kept_guarded, kept_rngPeriodSet, implies_true, id_eq]

theorem kept_execRngReseedWrite (src : Source) (value : Word) (s : State) : keptNext (execRngReseedWrite src value s) = some (kept s) := by
  simp only [execRngReseedWrite, kept_mgrWrite, kept_rngReseedReg, keptNext_next, implies_true]

theorem kept_rngSleep (s : State) : kept (rngSleep s) = kept s := (rfl)
theorem kept_rngWake (s : State) : kept (rngWake s) = kept s := (rfl)
theorem kept_rngClear (s : State) : kept (rngClear s) = kept s := (rfl)

/-! ### Parts of the strike (15) -/

theorem kept_strikeCommands (s : State) : kept (strikeCommands s) = kept s := by
  simp only [strikeCommands, kept_kmEnd, kept_csEnd, kept_checkpointEnd, kept_mk, kept_eta, kept_ite, ite_self]

theorem kept_strikeClear (s : State) : kept (strikeClear s) = kept s := by simp only [strikeClear, kept_rngClear, kept_mk, kept_eta]
theorem kept_quietIslands (s : State) : kept (quietIslands s) = kept s := (rfl)
theorem kept_strikeRequest (own : Bool) (s : State) : kept (strikeRequest own s) = kept s := (rfl)

theorem kept_holdRecord (event : BitVec 8) (object value : Word) (s : State) : kept (holdRecord event object value s) = kept s := by
  simp only [holdRecord, kept_mk, kept_eta, kept_ite, ite_self]

theorem kept_tamperNote (event : Nat) (object value : Word) (samples : Nat) (s : State) :
    kept (tamperNote event object value samples s) = kept s := by
  simp only [tamperNote, kept_holdRecord, kept_raiseLog, kept_ite, ite_self]

theorem kept_warnResponse (event : Nat) (object value : Word) (samples : Nat) (s : State) :
    kept (warnResponse event object value samples s) = kept s := by
  simp only [warnResponse, kept_tamperNote, kept_mk, kept_eta]

theorem kept_execStrikeOutFall (s : State) : keptNext (execStrikeOutFall s) = some (kept s) := by
  unfold execStrikeOutFall
  split <;> simp only [keptNext_next, keptNext_ite, kept_mk, kept_eta, ite_self]

theorem kept_execStrikeClearRepeat (zeroOk : Bool) (s : State) : keptNext (execStrikeClearRepeat zeroOk s) = some (kept s) := by
  simp only [execStrikeClearRepeat, kept_strikeClear, kept_raiseLog, keptNext_next, keptNext_ite, kept_mk, kept_eta, ite_self]

/-! ### Mode changes (12) -/

theorem kept_afterReset (m : Mode) (kind : BitVec 3) (s : State) : kept (afterReset m kind s) = kept s := (rfl)

theorem kept_enterReset (kind : BitVec 3) (notice : Bool) (s : State) : kept (enterReset kind notice s) = kept s := by
  simp only [enterReset, kept_raise, kept_afterReset, kept_changeMode, kept_leavePairing]

theorem kept_enterHold (kind : BitVec 3) (notice : Bool) (s : State) : kept (enterHold kind notice s) = kept s := by
  simp only [enterHold, kept_changeMode, kept_leavePairing, kept_afterReset, kept_mk, kept_eta]

theorem kept_leaveHold (s : State) : kept (leaveHold s) = kept s := by simp only [leaveHold, kept_enterReset, kept_ite, ite_self]

theorem kept_execSupplyLoss (sram : Bool) (s : State) : keptNext (execSupplyLoss sram s) = some (kept s) := by
  simp only [execSupplyLoss, kept_enterHold, keptNext_next, keptNext_ite, kept_mk, kept_eta, ite_self]

theorem kept_execSupplyReturn (s : State) : keptNext (execSupplyReturn s) = some (kept s) := by
  simp only [execSupplyReturn, kept_leaveHold, keptNext_next, keptNext_ite, kept_mk, kept_eta, ite_self]

theorem kept_takeReset (s : State) : kept (takeReset s) = kept s := by simp only [takeReset, kept_enterReset, kept_mk, kept_eta, kept_ite, ite_self]

theorem kept_execResetInput (lowNs : Nat) (s : State) : keptNext (execResetInput lowNs s) = some (kept s) := by
  simp only [execResetInput, kept_takeReset, kept_bumpFree, keptNext_next, keptNext_ite, kept_ite, ite_self]

theorem kept_execResetRelease (s : State) : keptNext (execResetRelease s) = some (kept s) := by
  simp only [execResetRelease, kept_leaveHold, keptNext_next, keptNext_ite, kept_mk, kept_eta, ite_self]

theorem kept_execWatchdogExpiry (s : State) : keptNext (execWatchdogExpiry s) = some (kept s) := by
  simp only [execWatchdogExpiry, kept_enterReset, keptNext_next, keptNext_ite, ite_self]

theorem kept_discardPending (s : State) : kept (discardPending s) = kept s := by
  simp only [discardPending, kept_raise, kept_eraseGroup, kept_foldl, kept_ite, ite_self, implies_true]

theorem kept_retainIslands (s : State) : kept (retainIslands s) = kept s := (rfl)
theorem kept_quietPort (s : State) : kept (quietPort s) = kept s := (rfl)

theorem kept_enterDrowse (s : State) : kept (enterDrowse s) = kept s := by
  simp only [enterDrowse, kept_changeMode, kept_leavePairing, kept_rngSleep, kept_quietPort, kept_retainIslands, kept_mk, kept_eta]

theorem kept_execDrowseRefreshPass (s : State) : keptNext (execDrowseRefreshPass s) = some (kept s) := by
  simp only [execDrowseRefreshPass, keptNext_next, keptNext_ite, kept_mk, kept_eta, ite_self]

theorem kept_reqEnd (st : Status) (s : State) : kept (reqEnd st s) = kept s := (rfl)
theorem kept_reqRefuse (st : Status) (s : State) : kept (reqRefuse st s) = kept s := by simp only [reqRefuse, kept_raise, kept_reqEnd]
theorem kept_beginDrain (m : Mode) (s : State) : kept (beginDrain m s) = kept s := by simp only [beginDrain, kept_raise, kept_mk, kept_eta]

theorem kept_restoredRequest (drain : Bool) (s : State) : kept (restoredRequest drain s) = kept s := by
  simp only [restoredRequest, kept_reqEnd, kept_mk, kept_eta]

theorem kept_modeReqPlain (value : Word) (second : Bool) (s : State) : kept (modeReqPlain value second s) = kept s := (rfl)

theorem kept_restoredWrite (src : Source) (value : Word) (s : State) : kept (restoredWrite src value s) = kept s := by
  simp only [restoredWrite, kept_guarded, kept_modeReqPlain, kept_restoredRequest, implies_true]

theorem kept_execArmedLapse (s : State) : keptNext (execArmedLapse s) = some (kept s) := by
  unfold execArmedLapse
  split <;> simp only [keptNext_next, keptNext_ite, kept_mk, kept_eta, ite_self]

theorem kept_flushMarks (f : Nat) (s : State) : kept (flushMarks f s) = kept s := by simp only [flushMarks, kept_readLines, kept_ite, ite_self]
theorem kept_flushAll (s : State) : kept (flushAll s) = kept s := by simp only [flushAll, kept_flushMarks, kept_flushTenant, kept_foldl, implies_true]

theorem kept_reachTarget (m : Mode) (s : State) : kept (reachTarget m s) = kept s := by
  unfold reachTarget
  split <;> simp only [kept_reqEnd, kept_enterHold, kept_enterReset, kept_changeMode, kept_enterDrowse]

theorem kept_execDrainComplete (s : State) : keptNext (execDrainComplete s) = some (kept s) := by
  unfold execDrainComplete
  split <;> simp only [kept_flushAll, kept_reachTarget, keptNext_next, keptNext_ite, kept_ite, ite_self]

/-! ### Power and the test port (12, 14) -/

theorem kept_gateClock (island : Nat) (s : State) : kept (gateClock island s) = kept s := by simp only [gateClock, kept_setIsland, kept_ite, ite_self]

theorem kept_gatePower (island : Nat) (s : State) : kept (gatePower island s) = kept s := by
  simp only [gatePower, kept_setIsland, kept_wipeCore, kept_foldl, kept_ite, ite_self, implies_true]

theorem kept_execClockGateIdle (island : Nat) (s : State) : keptNext (execClockGateIdle island s) = some (kept s) := by
  simp only [execClockGateIdle, kept_gateClock, keptNext_next, keptNext_ite, ite_self]

theorem kept_execPowerGateIdle (island : Nat) (s : State) : keptNext (execPowerGateIdle island s) = some (kept s) := by
  simp only [execPowerGateIdle, kept_gatePower, keptNext_next, keptNext_ite, ite_self]

theorem kept_gateNow (pwr clk : Bool) (s : State) : kept (gateNow pwr clk s) = kept s := by
  simp only [gateNow, kept_gateClock, kept_gatePower, kept_foldl, kept_ite, ite_self, implies_true]

theorem kept_gfCtrlSet (value : Word) (s : State) : kept (gfCtrlSet value s) = kept s := by simp only [gfCtrlSet, kept_gateNow, kept_mk, kept_eta]

theorem kept_gfCtrlWrite (src : Source) (value : Word) (s : State) : kept (gfCtrlWrite src value s) = kept s := by
  simp only [gfCtrlWrite, kept_guarded, kept_gfCtrlSet, implies_true, id_eq]

theorem kept_execGfCtrlWrite (src : Source) (value : Word) (s : State) : keptNext (execGfCtrlWrite src value s) = some (kept s) := by
  simp only [execGfCtrlWrite, kept_mgrWrite, kept_gfCtrlWrite, keptNext_next, implies_true]

theorem kept_execDomainSleepReqRise (d : Fin 16) (s : State) : keptNext (execDomainSleepReqRise d s) = some (kept s) := by
  simp only [execDomainSleepReqRise, kept_settleAck, keptNext_next, kept_mk, kept_eta]

theorem kept_execDomainSleepReqFall (d : Fin 16) (s : State) : keptNext (execDomainSleepReqFall d s) = some (kept s) := by
  simp only [execDomainSleepReqFall, kept_settleAck, kept_wakeMessages, kept_pumpHeld, keptNext_next, kept_mk, kept_eta, kept_ite, ite_self]

theorem kept_loadTap (i : TapInstr) (s : State) : kept (loadTap i s) = kept s := (rfl)
theorem kept_refuseTap (i : TapInstr) (s : State) : kept (refuseTap i s) = kept s := by simp only [refuseTap, kept_raiseLog, kept_loadTap]

theorem kept_limitedTap (i : TapInstr) (ok : Mode → Bool) (s : State) : kept (limitedTap i ok s) = kept s := by
  simp only [limitedTap, kept_refuseTap, kept_loadTap, kept_ite, ite_self]

theorem kept_execBypass (s : State) : keptNext (execBypass s) = some (kept s) := by simp only [execBypass, kept_loadTap, keptNext_next]
theorem kept_execIdcode (s : State) : keptNext (execIdcode s) = some (kept s) := by simp only [execIdcode, keptNext_next, kept_mk, kept_eta]

theorem kept_execSamplePreload (s : State) : keptNext (execSamplePreload s) = some (kept s) := by
  simp only [execSamplePreload, kept_loadTap, keptNext_next]

theorem kept_execExtest (s : State) : keptNext (execExtest s) = some (kept s) := by simp only [execExtest, kept_limitedTap, keptNext_next]
theorem kept_execClamp (s : State) : keptNext (execClamp s) = some (kept s) := by simp only [execClamp, kept_limitedTap, keptNext_next]
theorem kept_execHighz (s : State) : keptNext (execHighz s) = some (kept s) := by simp only [execHighz, kept_limitedTap, keptNext_next]
theorem kept_scanClear (s : State) : kept (scanClear s) = kept s := (rfl)

theorem kept_execAbabryTestInstruction (s : State) : keptNext (execAbabryTestInstruction s) = some (kept s) := by
  simp only [execAbabryTestInstruction, kept_limitedTap, kept_scanClear, keptNext_next, kept_ite, ite_self]

/-! ### UNFENCE (16) -/

theorem kept_usEnd (st : Status) (s : State) : kept (usEnd st s) = kept s := (rfl)

theorem kept_fenceByCommand (kind i : Nat) (s : State) : kept (fenceByCommand kind i s) = kept s := by
  unfold fenceByCommand
  (repeat' split) <;> simp only [kept_setTake, kept_fenceUnit, kept_stopTake, kept_stopEngine]

theorem kept_unfenced (s : State) : kept (unfenced s) = kept s := by simp only [unfenced, kept_raise, kept_usEnd, kept_mk, kept_eta]
theorem kept_unfenceFails (s : State) : kept (unfenceFails s) = kept s := by simp only [unfenceFails, kept_raise, kept_usEnd]
theorem kept_openPort (p : Bool) (s : State) : kept (openPort p s) = kept s := by simp only [openPort, kept_pumpHeld, kept_setPort]

theorem kept_unfenceByCommand (kind i : Nat) (passed : Bool) (s : State) : kept (unfenceByCommand kind i passed s) = kept s := by
  simp only [unfenceByCommand, kept_unfenceFails, kept_settleMode, kept_settleAllPins, kept_unfenced, kept_setFenced, kept_rngRestart, kept_openPort,
    kept_ite, ite_self]

theorem kept_usCommand (value : Word) (passed : Bool) (s : State) : kept (usCommand value passed s) = kept s := by
  unfold usCommand; simp only []
  split <;> simp only [kept_usEnd, kept_fenceByCommand, kept_unfenceByCommand, kept_mk, kept_eta, kept_ite, ite_self]

theorem kept_usWrite (src : Source) (value : Word) (passed : Bool) (s : State) : kept (usWrite src value passed s) = kept s := by
  simp only [usWrite, kept_guarded, kept_usCommand, implies_true, id_eq]

theorem kept_execFence (src : Source) (kind : BitVec 4) (index : BitVec 10) (s : State) : keptNext (execFence src kind index s) = some (kept s) := by
  simp only [execFence, kept_mgrWrite, kept_usWrite, keptNext_next, implies_true]

theorem kept_execUnfence (src : Source) (kind : BitVec 4) (index : BitVec 10) (passed : Bool) (s : State) :
    keptNext (execUnfence src kind index passed s) = some (kept s) := by
  simp only [execUnfence, kept_mgrWrite, kept_usWrite, keptNext_next, implies_true]

theorem kept_execUncontainableFault (s : State) : keptNext (execUncontainableFault s) = some (kept s) := by
  simp only [execUncontainableFault, kept_uncontained, keptNext_next, keptNext_ite, ite_self]

/-! ### Tamper responses (15) -/

theorem kept_settleDrift (s : State) : kept (settleDrift s) = kept s := (rfl)

theorem kept_setResist (ch : Nat) (value : BitVec 16) (s : State) : kept (setResist ch value s) = kept s := by
  simp only [setResist, kept_settleDrift, kept_mk, kept_eta]

theorem kept_setMeshFault (ch code : Nat) (s : State) : kept (setMeshFault ch code s) = kept s := (rfl)

theorem kept_execMeshDriftWarning (channel : Fin 8) (value : BitVec 16) (s : State) :
    keptNext (execMeshDriftWarning channel value s) = some (kept s) := by
  simp only [execMeshDriftWarning, kept_setResist, kept_warnResponse, keptNext_next, keptNext_ite, kept_mk, kept_eta, ite_self]

theorem kept_tpCmdWrite (src : Source) (value : Word) (s : State) : kept (tpCmdWrite src value s) = kept s := by
  simp only [tpCmdWrite, kept_guarded, kept_mk, kept_eta, kept_ite, ite_self, implies_true, id_eq]

theorem kept_execMeshEnrol (src : Source) (s : State) : keptNext (execMeshEnrol src s) = some (kept s) := by
  simp only [execMeshEnrol, kept_mgrWrite, kept_tpCmdWrite, keptNext_next, implies_true]

theorem kept_execMeshEnrolComplete (means : List (BitVec 16)) (s : State) : keptNext (execMeshEnrolComplete means s) = some (kept s) := by
  simp only [execMeshEnrolComplete, kept_settleDrift, keptNext_next, keptNext_ite, kept_mk, kept_eta, ite_self]

theorem kept_setSensor (x : Sensor) (v : Int) (s : State) : kept (setSensor x v s) = kept s := (rfl)
theorem kept_setWarnBits (s : State) : kept (setWarnBits s) = kept s := (rfl)

theorem kept_guardResponse (s : State) : kept (guardResponse s) = kept s := by
  simp only [guardResponse, kept_enterReset, kept_mk, kept_eta, kept_ite, ite_self]

theorem kept_execGuardRelease (s : State) : keptNext (execGuardRelease s) = some (kept s) := by
  simp only [execGuardRelease, keptNext_next, keptNext_ite, kept_mk, kept_eta, ite_self]

/-! ### Starts (12) -/

theorem kept_runImage (slot : Option Bool) (img : Bytes) (b : Option Bytes) (s : State) : kept (runImage slot img b s) = kept s := by
  simp only [runImage, kept_bumpFree, kept_mk, kept_eta]

theorem kept_startEntries (s : State) : kept (startEntries s) = kept s := by
  simp only [startEntries, kept_chainEntry, kept_raise, kept_foldl, kept_mk, kept_eta, kept_ite, ite_self, implies_true]

theorem kept_kindEvents (s : State) : kept (kindEvents s) = kept s := by simp only [kindEvents, kept_raise, kept_ite, ite_self]
theorem kept_meshStart (s : State) : kept (meshStart s) = kept s := by simp only [meshStart, kept_bumpFree, kept_mk, kept_eta]

theorem kept_enterSelftest (s : State) : kept (enterSelftest s) = kept s := by
  simp only [enterSelftest, kept_chainQueue, kept_changeMode, kept_startEntries, kept_meshStart, kept_rngStart, kept_kindEvents, kept_vaultSend,
    kept_mk, kept_eta]

theorem kept_stFailure (code : BitVec 8) (s : State) : kept (stFailure code s) = kept s := by simp only [stFailure, kept_raiseLog, kept_mk, kept_eta]
theorem kept_bootFailed (s : State) : kept (bootFailed s) = kept s := by simp only [bootFailed, kept_raiseLog, kept_mk, kept_eta, kept_ite, ite_self]

theorem kept_fallBack (addr : Word) (b : Bytes) (s : State) : kept (fallBack addr b s) = kept s := by
  simp only [fallBack, kept_raiseLog, kept_vaultBlock1, kept_mk, kept_eta]

theorem kept_reportBack (s : State) : kept (reportBack s) = kept s := by
  unfold reportBack
  split <;> simp only [kept_fallBack, kept_mk, kept_eta]

theorem kept_startSelftest (s : State) : kept (startSelftest s) = kept s := by
  simp only [startSelftest, kept_reportBack, kept_enterSelftest, kept_mk, kept_eta, kept_ite, ite_self]

theorem kept_bootAttempt (block1 : Option Bytes) (images : List FwRead) (s : State) : kept (bootAttempt block1 images s) = kept s := by
  unfold bootAttempt; simp only []
  split <;> simp only [kept_bootFailed, kept_runImage, kept_startSelftest, kept_mk, kept_eta, kept_ite, ite_self]

theorem kept_islandRuns (island : Nat) (s : State) : kept (islandRuns island s) = kept s := by simp only [islandRuns, kept_setIsland]

theorem kept_execIslandStartComplete (island : Nat) (s : State) : keptNext (execIslandStartComplete island s) = some (kept s) := by
  simp only [execIslandStartComplete, kept_startSelftest, kept_islandRuns, keptNext_next, keptNext_ite, ite_self]

theorem kept_execFirmwareAuthenticated (block1 : Option Bytes) (images : List FwRead) (s : State) :
    keptNext (execFirmwareAuthenticated block1 images s) = some (kept s) := by
  simp only [execFirmwareAuthenticated, kept_changeMode, kept_quietIslands, kept_bootAttempt, keptNext_next, keptNext_ite, ite_self]

theorem kept_execFirmwareRetry (block1 : Option Bytes) (images : List FwRead) (s : State) :
    keptNext (execFirmwareRetry block1 images s) = some (kept s) := by
  unfold execFirmwareRetry
  split <;> simp only [kept_bootAttempt, keptNext_next, keptNext_ite, ite_self]

end Sys2Proof.Machine
end

section
/-! SUPPORT. What the operations on the vault port, firmware, field access and the registers keep, and those of the idle microsecond. -/

namespace Sys2Proof.Machine

/-! ### The vault port (14) -/

theorem kept_applyChange (c : VaultChange) (s : State) : kept (applyChange c s) = kept s := (rfl)
theorem kept_shadowEpoch (s : State) : kept (shadowEpoch s) = kept s := (rfl)
theorem kept_clearLocals (s : State) : kept (clearLocals s) = kept s := (rfl)

theorem kept_wrapAck (s : State) : kept (wrapAck s) = kept s := by
  simp only [wrapAck, kept_raiseLog, kept_clearLocals, kept_shadowEpoch, kept_endWrap, kept_carry]

theorem kept_kumAck (s : State) : kept (kumAck s) = kept s := by
  unfold kumAck
  split <;> simp only [kept_mk, kept_eta]

theorem kept_officerWrite (s : State) : kept (officerWrite s) = kept s := by simp only [officerWrite, kept_vaultBlock1, kept_mk, kept_eta]

theorem kept_kumFail (s : State) : kept (kumFail s) = kept s := by
  unfold kumFail
  split <;> simp only [kept_kmEnd, kept_raiseLog]

theorem kept_waiterFail (w : VaultWaiter) (s : State) : kept (waiterFail w s) = kept s := by
  unfold waiterFail
  split <;> simp only [kept_stFailure, kept_endWrap, kept_raiseLog, kept_kumFail, kept_kmEnd, kept_csEnd, kept_logAccess, kept_acEnd, kept_mk,
    kept_eta, kept_ite, ite_self]

theorem kept_logFirmware (event : Option Nat) (addr : Nat) (st : Status) (secver : Nat) (s : State) :
    kept (logFirmware event addr st secver s) = kept s := by
  unfold logFirmware
  split <;> simp only [kept_raiseLog, kept_logPlain]

theorem kept_fwEnd (st : Status) (s : State) : kept (fwEnd st s) = kept s := (rfl)

theorem kept_block1End (why : Block1Why) (data : Bytes) (ok : Bool) (s : State) : kept (block1End why data ok s) = kept s := by
  unfold block1End; simp only []
  (repeat' split) <;> simp only [kept_logFirmware, kept_fwEnd, kept_logAccess, kept_acEnd, kept_mk, kept_eta]

theorem kept_vaultLost (r : VaultReq) (s : State) : kept (vaultLost r s) = kept s := by
  unfold vaultLost
  split <;> simp only [kept_stFailure, kept_waiterFail, kept_block1End, kept_foldl, kept_ite, ite_self, implies_true]

theorem kept_vaultClear (s : State) : kept (vaultClear s) = kept s := (rfl)

theorem kept_vaultFails (r : VaultReq) (s : State) : kept (vaultFails r s) = kept s := by
  simp only [vaultFails, kept_vaultPump, kept_vaultLost, kept_vaultFailed, kept_vaultClear]

theorem kept_vaultReissue (r : VaultReq) (s : State) : kept (vaultReissue r s) = kept s := by simp only [vaultReissue, kept_vaultSend]

theorem kept_noteCount (m : Bytes) (s : State) : kept (noteCount m s) = kept s := by
  simp only [noteCount, kept_raise, kept_mk, kept_eta, kept_ite, ite_self]

theorem kept_execVaultTimeout (s : State) : keptNext (execVaultTimeout s) = some (kept s) := by
  unfold execVaultTimeout
  split <;> simp only [kept_vaultFails, kept_vaultReissue, keptNext_next, keptNext_ite, kept_ite, ite_self]

/-! ### Firmware update (15) -/

theorem kept_fwRefuseAt (addr : Word) (st : Status) (s : State) : kept (fwRefuseAt addr st s) = kept s := by
  simp only [fwRefuseAt, kept_logFirmware, kept_fwEnd]

theorem kept_fwRefuse (st : Status) (s : State) : kept (fwRefuse st s) = kept s := by simp only [fwRefuse, kept_fwRefuseAt]

theorem kept_stageImage (addr : Word) (b : Bytes) (s : State) : kept (stageImage addr b s) = kept s := by
  unfold stageImage
  split <;> simp only [kept_fwRefuseAt, kept_vaultBlock1, kept_mk, kept_eta, kept_ite, ite_self]

theorem kept_stageStep (s : State) : kept (stageStep s) = kept s := by
  unfold stageStep
  split <;> simp only [kept_issueRead, kept_stageImage, kept_fwRefuseAt, kept_ite, ite_self]

theorem kept_stageRun (s : State) : kept (stageRun s) = kept s := by
  simp only [stageRun, kept_fwRefuse, kept_stageStep, kept_mk, kept_eta, kept_ite, ite_self]

theorem kept_confirmRun (s : State) : kept (confirmRun s) = kept s := by
  simp only [confirmRun, kept_fwRefuse, kept_vaultBlock1, kept_mk, kept_eta, kept_ite, ite_self]

theorem kept_fwCommand (cmd : Nat) (s : State) : kept (fwCommand cmd s) = kept s := by
  unfold fwCommand
  (repeat' split) <;> simp only [kept_stageRun, kept_confirmRun, kept_fwEnd, kept_mk, kept_eta]

theorem kept_fwCmdWrite (src : Source) (value : Word) (s : State) : kept (fwCmdWrite src value s) = kept s := by
  simp only [fwCmdWrite, kept_guarded, kept_fwCommand, implies_true, id_eq]

theorem kept_execStage (src : Source) (value : Word) (s : State) : keptNext (execStage src value s) = some (kept s) := by
  simp only [execStage, kept_mgrWrite, kept_fwCmdWrite, keptNext_next, keptNext_ite, ite_self, implies_true]

theorem kept_execConfirm (src : Source) (s : State) : keptNext (execConfirm src s) = some (kept s) := by
  simp only [execConfirm, kept_mgrWrite, kept_fwCmdWrite, keptNext_next, implies_true]

/-! ### Field access (15) -/

theorem kept_acStart (run : AcRun) (s : State) : kept (acStart run s) = kept s := (rfl)
theorem kept_acWriting (s : State) : kept (acWriting s) = kept s := by simp only [acWriting, kept_acStart]

theorem kept_passwordWrite (b : Bytes) (s : State) : kept (passwordWrite b s) = kept s := by
  simp only [passwordWrite, kept_acFinish, kept_vaultBlock1, kept_acWriting, kept_ite, ite_self]

theorem kept_passwordSalted (salt : Bytes) (s : State) : kept (passwordSalted salt s) = kept s := by simp only [passwordSalted, kept_passwordWrite]

theorem kept_passwordAsk (s : State) : kept (passwordAsk s) = kept s := by
  unfold passwordAsk
  split
  · rfl
  · split
    · exact kept_acFinish 1 _ s
    · rename_i h; rw [kept_passwordSalted]; exact kept_askRandom h
    · rename_i h; exact kept_askRandom h

theorem kept_execSetPassword (s : State) : keptNext (execSetPassword s) = some (kept s) := by
  unfold execSetPassword
  (repeat' split) <;> simp only [kept_acFinish, kept_passwordWrite, kept_passwordSalted, kept_passwordAsk, keptNext_next]

theorem kept_officerStart (s : State) : kept (officerStart s) = kept s := by
  unfold officerStart
  split <;> simp only [kept_vaultChange, kept_acWriting, kept_officerWrite]

theorem kept_execSetOfficer (s : State) : keptNext (execSetOfficer s) = some (kept s) := by
  unfold execSetOfficer
  (repeat' split) <;> simp only [kept_acFinish, kept_officerStart, keptNext_next]

theorem kept_challengeRun (s : State) : kept (challengeRun s).2.2 = kept s := by
  unfold challengeRun
  split <;> simp only [kept_logAccess, kept_bumpFree, kept_raise, kept_mk, kept_eta]

theorem kept_acChallenge (s : State) : kept (acChallenge s) = kept s := by simp only [acChallenge, kept_challengeRun, kept_mk, kept_eta]
theorem kept_lapse (s : State) : kept (lapse s) = kept s := (rfl)

theorem kept_execChallengeExpiry (s : State) : keptNext (execChallengeExpiry s) = some (kept s) := by
  simp only [execChallengeExpiry, kept_lapse, keptNext_next, keptNext_ite, ite_self]

theorem kept_execChallengeRefusalLapse (s : State) : keptNext (execChallengeRefusalLapse s) = some (kept s) := by
  unfold execChallengeRefusalLapse
  split <;> simp only [keptNext_next, keptNext_ite, kept_mk, kept_eta, ite_self]

theorem kept_responseRefuse (s : State) : kept (responseRefuse s) = kept s := by
  simp only [responseRefuse, kept_raise, kept_lapse, kept_mk, kept_eta, kept_ite, ite_self]

theorem kept_responseRun (b : Bytes) (s : State) : kept (responseRun b s).2 = kept s := by
  unfold responseRun
  split <;> simp only [kept_logAccess, kept_responseRefuse, kept_changeMode]

theorem kept_acCommand (cmd : Nat) (s : State) : kept (acCommand cmd s) = kept s := by
  unfold acCommand
  (repeat' split) <;> simp only [kept_acFinish, kept_acStart, kept_acChallenge, kept_acEnd, kept_mk, kept_eta, kept_ite, ite_self]

theorem kept_acCmdWrite (src : Source) (value : Word) (s : State) : kept (acCmdWrite src value s) = kept s := by
  simp only [acCmdWrite, kept_guarded, kept_acCommand, implies_true, id_eq]

theorem kept_acDataWrite (value : Word) (s : State) : kept (acDataWrite value s) = kept s := by
  simp only [acDataWrite, kept_mk, kept_eta, kept_ite, ite_self]

theorem kept_acDataRead (s : State) : kept (acDataRead s).2 = kept s := by
  unfold acDataRead
  split <;> rfl

theorem kept_consoleAnswer (cmd : Nat) (st : Status) (data : Bytes) (s : State) : kept (consoleAnswer cmd st data s) = kept s := (rfl)
theorem kept_touchSession (s : State) : kept (touchSession s) = kept s := (rfl)

theorem kept_console (cmd : Nat) (frame : Bytes) (run : Bytes → State → State) (s : State) (hr : ∀ p t, kept (run p t) = kept t) :
    kept (console cmd frame run s) = kept s := by
  unfold console
  split
  · rfl
  · split
    · rfl
    · simp only [kept_ite, kept_consoleAnswer, kept_touchSession, hr, ite_self]

theorem kept_execChallenge (via : AccessPath) (s : State) : keptNext (execChallenge via s) = some (kept s) := by
  unfold execChallenge
  split <;> simp only [kept_mgrWrite, kept_acCmdWrite, kept_console, kept_challengeRun, kept_consoleAnswer, keptNext_next, implies_true]

theorem kept_execResponse (via : AccessPath) (s : State) : keptNext (execResponse via s) = some (kept s) := by
  unfold execResponse
  split <;> simp only [kept_responseRun, kept_acEnd, kept_console, kept_consoleAnswer, keptNext_next, keptNext_ite, kept_ite, ite_self, implies_true]

theorem kept_diagFail (s : State) : kept (diagFail s) = kept s := by simp only [diagFail, kept_raise, kept_mk, kept_eta]

theorem kept_diagOpen (password : Bytes) (s : State) : kept (diagOpen password s) = kept s := by
  simp only [diagOpen, kept_consoleAnswer, kept_logAccess, kept_raise, kept_bumpFree, kept_diagFail, kept_mk, kept_eta, kept_ite, ite_self]

theorem kept_execDiagOpen (frame : Bytes) (s : State) : keptNext (execDiagOpen frame s) = some (kept s) := by
  simp only [execDiagOpen, kept_console, kept_diagOpen, keptNext_next, implies_true]

theorem kept_diagRead (p : Bytes) (s : State) : kept (diagRead p s) = kept s := by simp only [diagRead, kept_consoleAnswer, kept_ite, ite_self]

theorem kept_execConsoleRead (frame : Bytes) (s : State) : keptNext (execConsoleRead frame s) = some (kept s) := by
  simp only [execConsoleRead, kept_console, kept_diagRead, keptNext_next, implies_true]

theorem kept_diagLog (p : Bytes) (s : State) : kept (diagLog p s) = kept s := by simp only [diagLog, kept_consoleAnswer, kept_ite, ite_self]

theorem kept_execLogRead (frame : Bytes) (s : State) : keptNext (execLogRead frame s) = some (kept s) := by
  simp only [execLogRead, kept_console, kept_diagLog, keptNext_next, implies_true]

theorem kept_execClose (frame : Bytes) (s : State) : keptNext (execClose frame s) = some (kept s) := by
  simp only [execClose, kept_console, kept_consoleAnswer, keptNext_next, kept_mk, kept_eta, implies_true]

theorem kept_execDiagSessionTimeout (s : State) : keptNext (execDiagSessionTimeout s) = some (kept s) := by
  unfold execDiagSessionTimeout
  split <;> simp only [keptNext_next, keptNext_ite, kept_mk, kept_eta, ite_self]

theorem kept_execDiagLockoutEnd (s : State) : keptNext (execDiagLockoutEnd s) = some (kept s) := by
  unfold execDiagLockoutEnd
  split <;> simp only [keptNext_next, keptNext_ite, kept_mk, kept_eta, ite_self]

/-! ### The register file (13) -/

theorem kept_clearStatus (i : Nat) (value : Word) (s : State) : kept (clearStatus i value s) = kept s := (rfl)
theorem kept_lockStateWrite (value : Word) (s : State) : kept (lockStateWrite value s) = kept s := (rfl)

theorem kept_voteStatusWrite (value : Word) (s : State) : kept (voteStatusWrite value s) = kept s := by
  simp only [voteStatusWrite, kept_mk, kept_eta, kept_ite, ite_self]

theorem kept_evtLostWrite (value : Word) (s : State) : kept (evtLostWrite value s) = kept s := by
  simp only [evtLostWrite, kept_mk, kept_eta, kept_ite, ite_self]

theorem kept_evtRouteSet (i : Nat) (value : Word) (s : State) : kept (evtRouteSet i value s) = kept s := (rfl)

theorem kept_seedRegWrite (src : Source) (v : Word) (s : State) : kept (seedRegWrite src v s) = kept s := by
  simp only [seedRegWrite, kept_guarded, kept_mk, kept_eta, implies_true, id_eq]

theorem kept_rawSelWrite (src : Source) (v : Word) (s : State) : kept (rawSelWrite src v s) = kept s := by
  simp only [rawSelWrite, kept_guarded, kept_mk, kept_eta, implies_true, id_eq]

theorem kept_writeMid (src : Source) (o : Nat) (v : Word) (s : State) : kept (writeMid src o v s) = kept s := by
  simp only [writeMid, kept_csWrite, kept_gfCtrlWrite, kept_rngCtrlWrite, kept_rngCfgWrite, kept_rngReseedReg, kept_seedRegWrite, kept_rawSelWrite,
    kept_kmCtrlWrite, kept_kmDataWrite, kept_mk, kept_eta, kept_ite, ite_self]

theorem kept_lbStatusWrite (v : Word) (s : State) : kept (lbStatusWrite v s) = kept s := (rfl)
theorem kept_fwStatusWrite (v : Word) (s : State) : kept (fwStatusWrite v s) = kept s := (rfl)

theorem kept_writeLogbook (src : Source) (o : Nat) (v : Word) (s : State) : kept (writeLogbook src o v s) = kept s := by
  simp only [writeLogbook, kept_lbAckSet, kept_lbSelSet, kept_lbStatusWrite, kept_lbCmdWrite, kept_tpCmdWrite, kept_fwCmdWrite, kept_fwStatusWrite,
    kept_acCmdWrite, kept_acDataWrite, kept_mk, kept_eta, kept_ite, ite_self]

theorem kept_writeHigh (src : Source) (o : Nat) (v : Word) (s : State) : kept (writeHigh src o v s) = kept s := by
  simp only [writeHigh, kept_usWrite, kept_migWrite, kept_peerKeyWrite, kept_directWrite, kept_directLen, kept_directStatusWrite, kept_mk, kept_eta,
    kept_ite, ite_self]

theorem kept_modBox (f : Nat) (g : ReelBox → ReelBox) (s : State) : kept (modBox f g s) = kept s := by simp only [modBox, kept_modTenant]

theorem kept_writeTenant (f o : Nat) (v : Word) (s : State) : kept (writeTenant f o v s) = kept s := by
  simp only [writeTenant, kept_enqueue, kept_rcWrite, kept_modBox, kept_attestWrite, kept_modTenant, kept_ite, ite_self]

theorem kept_applyTenant (f : Nat) (size : AccSize) (o : Nat) (value : Word) (s : State) : kept (applyTenant f size o value s) = kept s := by
  unfold applyTenant
  split <;> simp only [kept_raise, kept_writeTenant, kept_ite, ite_self]

theorem kept_readWord (o : Nat) (s : State) : kept (readWord o s).2 = kept s := by
  unfold readWord
  split
  · exact kept_kmDataRead s
  · split
    · exact kept_acDataRead s
    · rfl

theorem kept_takeRead (src : Source) (size : AccSize) (offset : BitVec 20) (s : State) : kept (takeRead src size offset s) = kept s := by
  unfold takeRead
  split <;> simp only [kept_readWord, kept_portError, kept_respond, kept_ite, ite_self]

theorem kept_readReg (src : Source) (size : AccSize) (offset : BitVec 20) (s : State) : kept (readReg src size offset s) = kept s := by
  unfold readReg
  split <;> simp only [kept_arrive, kept_takeRead, implies_true]

theorem kept_execKmDataRead (read : PortRead) (s : State) : keptNext (execKmDataRead read s) = some (kept s) := by
  simp only [execKmDataRead, kept_readReg, keptNext_next]

theorem kept_corrected (area : TripleArea) (w : Nat) (copy : Fin 3) (s : State) : kept (corrected area w copy s) = kept s := by
  simp only [corrected, kept_raiseLog, kept_mk, kept_eta]

theorem kept_registerCopy (o : Nat) (v : Word) (s : State) : kept (registerCopy o v s) = kept s := by
  simp only [registerCopy, kept_mk, kept_eta, kept_ite, ite_self]

theorem kept_readsCopy (area : TripleArea) (w : Nat) (v : Word) (s : State) : kept (readsCopy area w v s) = kept s := by
  unfold readsCopy
  split <;> simp only [kept_registerCopy, kept_modTenant, kept_mk, kept_eta, kept_ite, ite_self]

theorem kept_uncorrected (area : TripleArea) (w : Nat) (v : Word) (s : State) : kept (uncorrected area w v s) = kept s := by
  unfold uncorrected
  (repeat' split) <;> simp only [kept_stFailure, kept_faultGroup, kept_readsCopy, kept_raiseLog, kept_mk, kept_eta]

theorem kept_execTripleScrub (area : TripleArea) (loc : BitVec 32) (found : Vote) (s : State) :
    keptNext (execTripleScrub area loc found s) = some (kept s) := by
  unfold execTripleScrub
  split <;> simp only [kept_corrected, kept_uncorrected, keptNext_next, keptNext_ite, ite_self]

theorem kept_resumeClocks (s : State) : kept (resumeClocks s) = kept s := (rfl)

/-! ### The idle microsecond (log 2) -/

theorem kept_advanceTime (s : State) : kept (advanceTime s) = kept s := (rfl)

theorem kept_noteWork (s : State) : kept (noteWork s) = kept s := by
  simp only [noteWork, kept_setIsland, kept_foldl, kept_ite, ite_self, implies_true]

theorem kept_startNext (s : State) : kept (startNext s) = kept s := by
  unfold startNext
  (repeat' split) <;> simp only [kept_setIsland, kept_mk, kept_eta]

theorem kept_powerOff (s : State) : kept (powerOff s) = kept s := by
  simp only [powerOff, kept_setIsland, kept_foldl, kept_mk, kept_eta, kept_ite, ite_self, implies_true]

theorem kept_runIdk (j : IdkJob) (s : State) : kept (runIdk j s) = kept s := by
  cases j with
  | checkpoint drawn => exact kept_checkpointSigned drawn s
  | package f drawn => exact kept_packageSealed f drawn s
  | peer => exact kept_staticSecret s
  | secret f owner => exact kept_installSecret f owner s

theorem kept_serveIdk (s : State) : kept (serveIdk s) = kept s := by
  unfold serveIdk
  split <;> simp only [kept_onShielded, kept_runIdk, kept_mk, kept_eta, implies_true, id_eq]

end Sys2Proof.Machine
end

section
/-! SUPPORT. What every operation advances: the queue stays, fuses and keys fused stay, and DRK and IDK go together and go with a strike. The strike,
the fuses, the keys of FACTORY and the end of a start change more than the others; what reaches them is here. -/

namespace Sys2Proof.Machine

/-! ### What advances -/

/-- What every step keeps between two states: the queue, the fuses and straps as `fusesKept` says, and that a struck core holds no key. -/
def Advances (s t : State) : Prop :=
  t.pending = s.pending ∧ fusesKept s.chip t.chip ∧ (struckHoldsNoKey s → struckHoldsNoKey t)

/-- A chip keeps its own fuses. -/
theorem fusesKept.refl (a : Chip) : fusesKept a a := by simp [fusesKept]

/-- Fuses kept twice are kept. -/
theorem fusesKept.trans {a b c : Chip} (h : fusesKept a b) (k : fusesKept b c) : fusesKept a c := by
  obtain ⟨h1, h2, h3, h4, h5, h6, h7, h8, h9, h10, h11, h12, h13, h14⟩ := h
  obtain ⟨k1, k2, k3, k4, k5, k6, k7, k8, k9, k10, k11, k12, k13, k14⟩ := k
  refine ⟨k1.trans h1, k2.trans h2, k3.trans h3, k4.trans h4, k5.trans h5, k6.trans h6, k7.trans h7, k8.trans h8, k9.trans h9, k10 ∘ h10,
    k11 ∘ h11, k12 ∘ h12, fun ha => ?_, fun ha => ?_⟩
  · rw [k13 (by rw [h13 ha]; exact ha), h13 ha]
  · rw [k14 (by rw [h14 ha]; exact ha), h14 ha]

theorem Advances.trans {s t u : State} (h : Advances s t) (k : Advances t u) : Advances s u := by
  obtain ⟨h1, h2, h3⟩ := h
  obtain ⟨k1, k2, k3⟩ := k
  exact ⟨k1.trans h1, h2.trans k2, k3 ∘ h3⟩

/-- What keeps the five fields advances. -/
theorem advances_of_kept {s t : State} (h : kept t = kept s) : Advances s t := by
  have hkeeps : Keeps s t := kept_eq_iff.1 h
  obtain ⟨hqueue, hchip, _⟩ := kept_eq_iff.1 h
  exact ⟨hqueue, hchip ▸ fusesKept.refl _, hkeeps.struckHoldsNoKey⟩

theorem Advances.refl (s : State) : Advances s s := advances_of_kept rfl

/-- What follows an advance and keeps the five fields belongs to it. -/
theorem Advances.after {s t u : State} (h : Advances s t) (k : kept u = kept t) : Advances s u := h.trans (advances_of_kept k)

/-- What comes before an advance and keeps the five fields belongs to it. -/
theorem Advances.before {s t u : State} (h : Advances t u) (k : kept t = kept s) : Advances s u := (advances_of_kept k).trans h

/-- Operations in turn advance where each does. -/
theorem advances_foldl {α : Type} (f : State → α → State) (hf : ∀ t x, Advances t (f t x)) (xs : List α) (s : State) : Advances s (xs.foldl f s) := by
  induction xs generalizing s with
  | nil => exact .refl s
  | cons x xs ih => exact (hf s x).trans (ih _)

/-- An outcome that is a next state advances to it. -/
def AdvancesTo (s : State) : Outcome → Prop
  | .next t => Advances s t
  | _ => True

/-- A command that keeps the five fields of a state advanced to advances. -/
theorem Advances.afterTo {s t : State} {o : Outcome} (h : Advances s t) (k : keptNext o = some (kept t)) : AdvancesTo s o := by
  cases o with
  | next u => exact h.after (Option.some.inj k)
  | fault | refused => trivial

/-- A command that keeps the five fields advances. -/
theorem advancesTo_of_kept {s : State} {o : Outcome} (k : keptNext o = some (kept s)) : AdvancesTo s o := (Advances.refl s).afterTo k

/-! ### Register writes (13 R354, R358 to R360) -/

/-- A guarded write advances where its two parts do. -/
theorem advances_guarded (src : Source) (o : BitVec 20) (c : Bool) (plain keyed : State → State) (s : State) (hp : ∀ t, Advances t (plain t))
    (hk : ∀ t, Advances t (keyed t)) : Advances s (guarded src o c plain keyed s) := by
  unfold guarded
  split
  · exact ((hp s).trans (hk _)).after (kept_setLock src none _)
  · split
    · exact (hp s).after (kept_deny src o _)
    · exact hp s

/-- An access advances where carrying it out does, whether it is taken, held or not. -/
theorem advances_arrive (src : Source) (size : AccSize) (o : BitVec 20) (w : Bool) (v : Word) (f : State → State) (s : State)
    (hf : ∀ t, Advances t (f t)) : Advances s (arrive src size o w v f s) := by
  have hgo : ∀ (t : State) (a : HeldAccess), Advances t (if heldUp a t then holdAccess a t else f t) := by
    intro t a
    split
    · exact advances_of_kept (kept_holdAccess a t)
    · exact hf t
  unfold arrive; simp only []
  split
  · split
    · exact .refl s
    · exact hgo s _
  · split
    · exact .refl s
    · exact (hgo _ _).before (kept_accept s)

/-- A register write advances where the register's own change does. -/
theorem advances_mgrWrite (src : Source) (o : BitVec 20) (v : Word) (f : State → State) (s : State) (hf : ∀ t, Advances t (f t)) :
    Advances s (mgrWrite src o v f s) := by
  cases src with
  | manager =>
    refine advances_arrive _ _ _ _ _ _ s fun t => ?_
    split
    · exact (hf _).before (kept_answered t)
    · exact advances_of_kept (kept_answered t)
  | mp => exact advances_arrive _ _ _ _ _ _ s hf
  | function _ => exact .refl s
  | outranked mp => exact advances_of_kept (kept_outrankedWrite mp o s)

/-! ### The strike (15 Table 15.3) -/

/-- The latch clears DRK and IDK as it sets the flag. -/
theorem advances_strikeLatch (cause : BitVec 8) (zeroOk : Bool) (s : State) : Advances s (strikeLatch cause zeroOk s) :=
  ⟨rfl, .refl _, fun _ => ⟨rfl, fun _ => rfl⟩⟩

theorem advances_strike (cause : BitVec 8) (zeroOk own : Bool) (final : Mode) (s : State) : Advances s (strike cause zeroOk own final s) :=
  (advances_strikeLatch cause zeroOk s).after (by
    simp only [strike, kept_raiseLog, kept_changeMode, kept_strikeRequest, kept_quietIslands, kept_strikeClear, kept_leavePairing,
      kept_strikeCommands])

theorem advances_strikeInHold (cause : BitVec 8) (s : State) : Advances s (strikeInHold cause s) :=
  (advances_strikeLatch cause false s).after (kept_holdRecord _ _ _ _)

theorem advances_strikeResponse (event : Nat) (object value : Word) (samples : Nat) (zeroOk : Bool) (s : State) :
    Advances s (strikeResponse event object value samples zeroOk s) := by
  have hnote : kept (tamperNote event object value samples s) = kept s := kept_tamperNote event object value samples s
  unfold strikeResponse; simp only []
  split
  · exact advances_of_kept hnote
  · exact advances_of_kept hnote
  · exact (advances_strikeInHold _ _).before hnote
  · exact (advances_strike _ _ _ _ _).before hnote

/-! ### Requests of MODE_REQ (12 R329, R345, R346) -/

/-- The retired fuse is blown. -/
theorem advances_retiredFuse (s : State) : Advances s { s with chip := { s.chip with retired := true } } :=
  ⟨rfl, by simp [fusesKept], id⟩

theorem advances_retire (zeroOk : Bool) (s : State) : Advances s (retire zeroOk s) := by
  have hfuse := (advances_retiredFuse (bumpFree s)).before (kept_bumpFree s)
  unfold retire; simp only []
  split
  · exact hfuse.trans (advances_strike _ _ _ _ _)
  · exact hfuse.after (by simp only [kept_changeMode, kept_strikeRequest, kept_quietIslands])

theorem advances_reqRetired (zeroOk : Bool) (s : State) : Advances s (reqRetired zeroOk s) := by
  unfold reqRetired
  split
  · split
    · exact advances_retire zeroOk s
    · exact advances_of_kept rfl
  · exact advances_of_kept rfl

theorem advances_reqStart (m : Mode) (drain zeroOk : Bool) (s : State) : Advances s (reqStart m drain zeroOk s) := by
  cases m with
  | struck => exact (advances_strike _ _ _ _ _).before (kept_bumpFree s)
  | retired | selftest | sealed | degraded | maintenance => exact advances_retire zeroOk s
  | reset | hold | drowse | ceremony | operational | factory =>
    refine advances_of_kept ?_
    simp only [reqStart, kept_ite, kept_beginDrain, kept_enterReset, kept_reqEnd, kept_changeMode, kept_enterServing, kept_discardPending,
      kept_rngStart, ite_self]

theorem advances_modeRequest (target : Nat) (drain zeroOk : Bool) (s : State) : Advances s (modeRequest target drain zeroOk s) := by
  unfold modeRequest; simp only []
  split
  · exact advances_of_kept rfl
  · split
    · exact advances_of_kept (kept_reqRefuse _ _)
    · split
      · exact advances_of_kept (kept_reqRefuse _ _)
      · split
        · exact (advances_reqRetired _ _).before rfl
        · exact (advances_reqStart _ _ _ _).before rfl

theorem advances_modeReqWrite (src : Source) (value : Word) (zeroOk : Bool) (s : State) : Advances s (modeReqWrite src value zeroOk s) :=
  advances_guarded _ _ _ _ _ s (fun t => advances_of_kept (kept_modeReqPlain _ _ t)) (advances_modeRequest _ _ _)

theorem advancesTo_modeReq (src : Source) (value : Word) (ok zeroOk : Bool) (s : State) : AdvancesTo s (modeReq src value ok zeroOk s) := by
  unfold modeReq
  split
  · exact advances_mgrWrite src 0x00028 value _ s (advances_modeReqWrite src value zeroOk)
  · exact .refl s

theorem advancesTo_execModeReqOperational (src : Source) (value : ModeWord) (s : State) : AdvancesTo s (execModeReqOperational src value s) := by
  unfold execModeReqOperational; simp only []
  split
  · exact advances_mgrWrite _ _ _ _ s fun t => advances_of_kept (kept_restoredWrite src _ t)
  · exact advancesTo_modeReq _ _ _ _ s

/-! ### Registers (13) -/

theorem advances_writeLow (src : Source) (o : Nat) (v : Word) (s : State) : Advances s (writeLow src o v s) := by
  by_cases h : o = 0x28
  · subst h; exact advances_modeReqWrite src v true s
  · refine advances_of_kept ?_
    simp only [writeLow, if_neg h, kept_ite, kept_unlockWrite, kept_lockStateWrite, kept_twinCfgWrite, kept_voteStatusWrite, kept_clearStatus,
      kept_evtEnableSet, kept_evtRouteSet, kept_evtTestWrite, kept_evtLostWrite, kept_evtCtrlWrite, kept_evtVectorSet, ite_self]

theorem advances_writeManager (src : Source) (o : Nat) (v : Word) (s : State) : Advances s (writeManager src o v s) := by
  unfold writeManager
  split
  · exact advances_writeLow src o v s
  · refine advances_of_kept ?_
    simp only [kept_ite, kept_writeMid, kept_writeLogbook, kept_writeHigh, ite_self]

theorem advances_applyManager (src : Source) (size : AccSize) (o : Nat) (value : Word) (s : State) : Advances s (applyManager src size o value s) := by
  unfold applyManager; simp only []
  split
  · split
    · exact advances_of_kept (kept_raise _ s)
    · exact advances_writeManager _ _ _ s
  · exact advances_writeManager _ _ _ s

theorem advances_takeWrite (src : Source) (size : AccSize) (offset : BitVec 20) (value : Word) (s : State) :
    Advances s (takeWrite src size offset value s) := by
  cases src with
  | mp =>
    unfold takeWrite; simp only []
    split
    · exact advances_applyManager _ _ _ _ s
    · exact .refl s
  | manager =>
    unfold takeWrite; simp only []
    split
    · exact advances_of_kept (kept_portError s)
    · split
      · exact (advances_applyManager _ _ _ _ _).before (kept_answered s)
      · exact advances_of_kept (kept_answered s)
  | function f =>
    refine advances_of_kept ?_
    simp only [takeWrite, kept_ite, kept_portError, kept_applyTenant, kept_answered, ite_self]
  | outranked mp => exact .refl s

theorem advancesTo_execWriteRegister (src : Source) (size : AccSize) (offset : BitVec 20) (value : Word) (s : State) :
    AdvancesTo s (execWriteRegister src size offset value s) := by
  show Advances s (writeReg src size offset value s)
  unfold writeReg
  split
  · exact advances_of_kept (kept_outrankedWrite _ offset s)
  · exact advances_arrive _ _ _ _ _ _ s (advances_takeWrite _ _ _ _)

theorem advances_applyHeld (a : HeldAccess) (s : State) : Advances s (applyHeld a s) := by
  unfold applyHeld; simp only []
  split
  · exact advances_of_kept (kept_holdAccess a s)
  · split
    · exact .refl s
    · have htag : kept (if a.src = .mp then s else { s with regs := { s.regs with reqTag := a.tag } }) = kept s := by
        simp only [kept_ite, kept_mk, kept_eta, ite_self]
      split
      · exact (advances_takeWrite _ _ _ _ _).before htag
      · exact advances_of_kept ((kept_takeRead _ _ _ _).trans htag)

theorem advances_answerHeld (s : State) : Advances s (answerHeld s) :=
  (advances_foldl _ (fun t a => advances_applyHeld a t) _ _).before rfl

theorem advancesTo_execDdCompressionDone (s : State) : AdvancesTo s (execDdCompressionDone s) := by
  unfold execDdCompressionDone; simp only []
  split
  · exact .refl s
  · refine (advances_answerHeld _).before ?_
    simp only [kept_ite, kept_directDigest, kept_mk, kept_eta, ite_self]

theorem advancesTo_execDrowseWake (cause : WakeCause) (s : State) : AdvancesTo s (execDrowseWake cause s) := by
  unfold execDrowseWake
  split
  · exact .refl s
  · split
    · refine (advances_answerHeld _).before ?_
      simp only [kept_pumpHeld, kept_raise, kept_enterServing, kept_rngWake, kept_resumeClocks]
    · exact advances_of_kept (kept_foldl _ (fun t i => kept_queueIsland i t) _ s)

/-! ### The keys of FACTORY (12 R345, 14 R396, 09 R260) -/

/-- The conditioning key is fused where its fuses are blank. -/
theorem advances_condKeyFuses (key : Bytes) (s : State) (h : s.chip.condKey.isNone = true) :
    Advances s { s with chip := { s.chip with condKey := some key } } := by
  have hblank : s.chip.condKey.isSome = false := by simpa using h
  exact ⟨rfl, by simp [fusesKept, hblank], id⟩

theorem advances_drawCondKey (s : State) : Advances s (drawCondKey s) := by
  unfold drawCondKey
  split
  · rename_i h
    simp only [Bool.and_eq_true] at h
    exact (advances_condKeyFuses _ s h.1).after (kept_bumpFree _)
  · exact .refl s

theorem advancesTo_execSeedReady (found : RngCheck) (s : State) : AdvancesTo s (execSeedReady found s) := by
  refine (advances_drawCondKey s).afterTo ?_
  simp only [execSeedReady, keptNext_ite, keptNext_next, kept_rngFail, kept_useSeed, kept_mk, kept_eta, ite_self]

/-- DRK and IDK come together, and the flag clears. -/
theorem advances_newKeys (b : Bytes) (s : State) : Advances s (newKeys b s) :=
  ⟨rfl, by simp [fusesKept, newKeys], fun _ => ⟨rfl, fun h => by simp [newKeys] at h⟩⟩

/-- K_V is fused where its fuses are blank. -/
theorem advances_programVault (key : Bytes) (s : State) (h : s.chip.vaultKey.isNone = true) : Advances s (programVault key s) := by
  have hblank : s.chip.vaultKey.isSome = false := by simpa using h
  have hfuse : Advances s { s with chip := { s.chip with vaultKey := some key } } := ⟨rfl, by simp [fusesKept, hblank], id⟩
  exact hfuse.after (kept_vaultSend _ _ _ _ _ _)

/-- The enrolled and field-lock fuses are blown. -/
theorem advances_enrol (s : State) : Advances s (enrol s) := ⟨rfl, by simp [fusesKept, enrol], id⟩

theorem advances_generateKeys (s : State) : Advances s (generateKeys s) := by
  have hkeys : Advances s (newKeys (takeBuffer (factoryBytes s) s).1 (takeBuffer (factoryBytes s) s).2) :=
    (advances_newKeys _ _).before (kept_takeBuffer _ s)
  unfold generateKeys; simp only []
  split
  · exact .refl s
  · split
    · rename_i hfirst
      exact hkeys.trans (advances_programVault _ _ hfirst)
    · exact hkeys.trans (advances_enrol _)

/-! ### The end of a start (12 R332, R336), and the vault's answers (14 R391 to R397) -/

/-- A start that ends in STRUCK sets the flag where no DRK is held. -/
theorem advances_startStruck (s : State) (h : struckHoldsNoKey s → s.ao.drk = none) : Advances s (startStruck s) := by
  have hlatch : Advances s { s with ao := { s.ao with strikeFlag := true, verified := true } } :=
    ⟨rfl, .refl _, fun hs => ⟨hs.1, fun _ => h hs⟩⟩
  exact hlatch.after (by simp only [startStruck, kept_turnMode, kept_quietIslands, kept_strikeClear])

theorem advances_finishSelftest (s : State) : Advances s (finishSelftest s) := by
  unfold finishSelftest
  split
  · exact .refl s
  · split
    · exact advances_of_kept (kept_stFailure 6 s)
    · split
      · rename_i hend
        refine advances_startStruck s fun hs => ?_
        simp only [Bool.or_eq_true, Bool.and_eq_true, Option.isNone_iff_eq_none] at hend
        exact hend.elim hs.2 (·.1)
      · refine advances_of_kept ?_
        simp only [kept_ite, kept_changeMode, ite_self]

theorem advances_itemDone (i : TestItem) (s : State) : Advances s (itemDone i s) := (advances_finishSelftest _).before rfl

theorem advances_itemMust (i : TestItem) (ok : Bool) (code : BitVec 8) (s : State) : Advances s (itemMust i ok code s) := by
  unfold itemMust
  split
  · exact advances_itemDone i s
  · exact advances_of_kept (kept_stFailure code s)

theorem advancesTo_execSelftestItemComplete (item : TestItem) (passed : Bool) (s : State) :
    AdvancesTo s (execSelftestItemComplete item passed s) := by
  unfold execSelftestItemComplete
  split
  · exact .refl s
  · split
    · exact advances_itemMust _ _ _ s
    · exact advances_itemMust _ _ _ s
    · exact advances_itemMust _ _ _ s
    · exact advances_itemMust _ _ _ s
    · exact (advances_itemDone _ _).before (by simp only [kept_ite, kept_raise, kept_rngFail, ite_self])
    · split
      · exact (advances_itemDone _ _).before (by simp only [kept_ite, kept_raise, kept_fenceUnit, ite_self])
      · exact .refl s

theorem advances_takeRecord (b : Bytes) (s : State) : Advances s (takeRecord b s) :=
  (advances_itemDone _ _).before (by simp only [kept_vaultChange, kept_ite, kept_raise, kept_mk, kept_eta, ite_self])

theorem advances_recordRead (b : Bytes) (s : State) : Advances s (recordRead b s) := by
  unfold recordRead
  split
  · exact .refl s
  · split
    · exact advances_takeRecord b s
    · exact advances_of_kept (kept_stFailure 2 s)

theorem advances_startAck (c : VaultChange) (s : State) : Advances s (startAck c s) := by
  have hshadow : kept (if c.epoch.isSome then shadowEpoch s else s) = kept s := by simp only [kept_ite, kept_shadowEpoch, ite_self]
  unfold startAck; simp only []
  split
  · exact (advances_itemDone _ _).before (by rw [kept_ite, kept_raise, hshadow, ite_self])
  · exact (advances_enrol _).before hshadow
  · exact advances_of_kept hshadow

theorem advances_waiterAck (c : VaultChange) (w : VaultWaiter) (s : State) : Advances s (waiterAck c w s) := by
  cases w with
  | start => exact advances_startAck c s
  | wrap | kum | floor | package | remove | officer =>
    refine advances_of_kept ?_
    simp only [waiterAck, kept_ite, kept_wrapAck, kept_kumAck, kept_kmEnd, kept_raise, kept_csEnd, kept_officerWrite, kept_mk, kept_eta, ite_self]

theorem advances_recordAck (c : VaultChange) (s : State) : Advances s (recordAck c s) :=
  (advances_foldl _ (fun t w => advances_waiterAck c w t) _ _).before (by
    simp only [kept_ite, kept_memberChanged, kept_raise, kept_applyChange, ite_self])

theorem advances_vaultDone (why : VaultWhy) (sent data : Bytes) (s : State) : Advances s (vaultDone why sent data s) := by
  cases why with
  | readRecord => exact advances_recordRead data s
  | writeRecord c => exact advances_recordAck c s
  | writeBlock1 w => exact advances_of_kept (kept_block1End w _ true s)
  | programKey => exact advances_of_kept (kept_vaultChange _ s)

theorem advances_vaultAnswered (r : VaultReq) (m : Bytes) (s : State) : Advances s (vaultAnswered r m s) := by
  unfold vaultAnswered
  split
  · exact advances_of_kept (kept_vaultReissue r s)
  · split
    · exact ((advances_vaultDone _ _ _ _).before (kept_vaultClear s)).after (kept_vaultPump _)
    · exact advances_of_kept (kept_vaultFails r s)

theorem advancesTo_execVaultResponse (message : Bytes) (s : State) : AdvancesTo s (execVaultResponse message s) := by
  unfold execVaultResponse
  split
  · exact .refl s
  · split
    · exact .refl s
    · split
      · exact advances_of_kept (kept_vaultFails _ s)
      · refine Advances.before ?_ (kept_noteCount message s)
        split
        · exact advances_vaultAnswered _ _ _
        · exact advances_of_kept (kept_vaultFails _ _)

/-! ### Tamper responses and supplies (15 R411 to R415, 12 Table 12.5) -/

theorem advancesTo_execMeshFault (channel : Fin 8) (kind : MeshFault) (value : BitVec 16) (zeroOk : Bool) (s : State) :
    AdvancesTo s (execMeshFault channel kind value zeroOk s) := by
  have hset : kept (setResist channel value s) = kept s := kept_setResist channel value s
  unfold execMeshFault; simp only []
  split
  · exact advances_of_kept hset
  · split
    · exact advances_of_kept hset
    · exact (advances_strikeResponse _ _ _ _ _ _).before ((kept_setMeshFault _ _ _).trans hset)

theorem advances_sensorResponse (x : Sensor) (v : Int) (began zeroOk : Bool) (s : State) : Advances s (sensorResponse x v began zeroOk s) := by
  unfold sensorResponse
  split
  · exact .refl s
  · refine advances_of_kept ?_
    simp only [kept_ite, kept_warnResponse, ite_self]
  · exact advances_of_kept (kept_guardResponse s)
  · exact advances_strikeResponse _ _ _ _ _ s

theorem advancesTo_execSensorCondition (sensor : Sensor) (value : Int) (zeroOk : Bool) (s : State) :
    AdvancesTo s (execSensorCondition sensor value zeroOk s) :=
  (advances_sensorResponse _ _ _ _ _).before ((kept_setWarnBits _).trans (kept_setSensor sensor value s))

/-- The always-on island starts without DRK and IDK. -/
theorem advancesTo_execPowerOn (s : State) : AdvancesTo s (execPowerOn s) := ⟨rfl, .refl _, fun _ => ⟨rfl, fun _ => rfl⟩⟩

/-! ### The idle microsecond (log 2) -/

theorem advances_requestReset (s : State) : Advances s (requestReset s) := by
  unfold requestReset
  split
  · exact (advances_modeReqWrite _ _ _ _).before (kept_setLock _ _ _)
  · exact .refl s

/-- The reset the MP asks for, the keys of FACTORY and the held accesses advance; the rest of the microsecond keeps the five fields. -/
theorem advances_idleTick (s : State) : Advances s (idleTick s) := by
  have hreset : Advances s (requestReset (advanceTime s)) := (advances_requestReset _).before (kept_advanceTime s)
  have hserved := hreset.after (u := serveIdk (serveWaiting (powerOff (startNext (noteWork (requestReset (advanceTime s))))))) (by
    simp only [kept_serveIdk, kept_serveWaiting, kept_powerOff, kept_startNext, kept_noteWork])
  have hkeys := hserved.trans (advances_generateKeys _)
  exact (hkeys.after (kept_stageStep _)).trans (advances_answerHeld _)

end Sys2Proof.Machine
end

section
/-! SUPPORT. Whole steps (14 Table 14.1, 12 R345, 15 Table 15.3): every command advances, and so does a step. -/

namespace Sys2Proof.Machine

/-- Every command advances: those that reach the strike, a fuse or the end of a start by their own lemmas, the others because they keep the five
fields. -/
theorem advancesTo_exec (c : Instr) (s : State) : AdvancesTo s (exec c s) := by
  cases c with
  | writeRegister src size offset value => exact advancesTo_execWriteRegister src size offset value s
  | unlock src value => exact advancesTo_of_kept (kept_execUnlock src value s)
  | lockRearm src => exact advancesTo_of_kept (kept_execLockRearm src s)
  | tripleScrub area loc found => exact advancesTo_of_kept (kept_execTripleScrub area loc found s)
  | evtTest src value => exact advancesTo_of_kept (kept_execEvtTest src value s)
  | evtEnableWrite src reg value => exact advancesTo_of_kept (kept_execEvtEnableWrite src reg value s)
  | evtVectorWrite src vec upper value => exact advancesTo_of_kept (kept_execEvtVectorWrite src vec upper value s)
  | eventMessageWrite vec => exact advancesTo_of_kept (kept_execEventMessageWrite vec s)
  | reelDoorbell tenant value => exact advancesTo_of_kept (kept_execReelDoorbell tenant value s)
  | dailiesDoorbell tenant value => exact advancesTo_of_kept (kept_execDailiesDoorbell tenant value s)
  | createDailies | createReel | destroyReel | destroyDailies | abortReel | resetReelResume | resetReelSkip | resetReelDiscard | resetDailies |
    pauseReel | pauseReelResume | queryReel | queryDailies =>
    exact advancesTo_of_kept (kept_reelCommand _ _ _ _ s)
  | contextFetchCompletion tenant isDailies index => exact advancesTo_of_kept (kept_execContextFetchCompletion tenant isDailies index s)
  | contextWritebackTimer tenant isDailies index => exact advancesTo_of_kept (kept_execContextWritebackTimer tenant isDailies index s)
  | ageTimerExpiry tenant reel => exact advancesTo_of_kept (kept_execAgeTimerExpiry tenant reel s)
  | schedulerRound seqs => exact advancesTo_of_kept (kept_execSchedulerRound seqs s)
  | bucketRefill => exact advancesTo_of_kept (kept_execBucketRefill s)
  | admission tenant reel => exact advancesTo_of_kept (kept_execAdmission tenant reel s)
  | extProgramRead tenant reel slot => exact advancesTo_of_kept (kept_execExtProgramRead tenant reel slot s)
  | move take found => exact advancesTo_of_kept (kept_execMove take found s)
  | movi take found => exact advancesTo_of_kept (kept_execMovi take found s)
  | loop take found => exact advancesTo_of_kept (kept_execLoop take found s)
  | wait take found => exact advancesTo_of_kept (kept_execWait take found s)
  | signal take found => exact advancesTo_of_kept (kept_execSignal take found s)
  | key take found tagOk => exact advancesTo_of_kept (kept_execKey take found tagOk s)
  | op take found unit => exact advancesTo_of_kept (kept_execOp take found unit s)
  | check take found => exact advancesTo_of_kept (kept_execCheck take found s)
  | skip take found => exact advancesTo_of_kept (kept_execSkip take found s)
  | endCode take found => exact advancesTo_of_kept (kept_execEndCode take found s)
  | parkTimeoutExpiry take => exact advancesTo_of_kept (kept_execParkTimeoutExpiry take s)
  | dailyWrite take => exact advancesTo_of_kept (kept_execDailyWrite take s)
  | dailyParkTimeout tenant dailies => exact advancesTo_of_kept (kept_execDailyParkTimeout tenant dailies s)
  | abortedDailyWrite tenant reel => exact advancesTo_of_kept (kept_execAbortedDailyWrite tenant reel s)
  | dailiesMessageWrite tenant dailies => exact advancesTo_of_kept (kept_execDailiesMessageWrite tenant dailies s)
  | moderationTimerExpiry tenant dailies => exact advancesTo_of_kept (kept_execModerationTimerExpiry tenant dailies s)
  | messageParkTimeout tenant dailies => exact advancesTo_of_kept (kept_execMessageParkTimeout tenant dailies s)
  | fabricReadResponse port tag data resp => exact advancesTo_of_kept (kept_execFabricReadResponse port tag data resp s)
  | fabricWriteResponse port tag resp => exact advancesTo_of_kept (kept_execFabricWriteResponse port tag resp s)
  | fabricPortReset port => exact advancesTo_of_kept (kept_execFabricPortReset port s)
  | laneOpCompletion lane found => exact advancesTo_of_kept (kept_execLaneOpCompletion lane found s)
  | engineSegmentEnd engine found => exact advancesTo_of_kept (kept_execEngineSegmentEnd engine found s)
  | digestOpCompletion unit found => exact advancesTo_of_kept (kept_execDigestOpCompletion unit found s)
  | pkOpCompletion shielded core found => exact advancesTo_of_kept (kept_execPkOpCompletion shielded core found s)
  | takeReexecution take seq => exact advancesTo_of_kept (kept_execTakeReexecution take seq s)
  | uncontainableFault => exact advancesTo_of_kept (kept_execUncontainableFault s)
  | ddStart src value => exact advancesTo_of_kept (kept_execDdStart src value s)
  | ddData src value => exact advancesTo_of_kept (kept_execDdData src value s)
  | ddFinish src value => exact advancesTo_of_kept (kept_execDdFinish src value s)
  | ddCancel src value => exact advancesTo_of_kept (kept_execDdCancel src value s)
  | ddCompressionDone => exact advancesTo_execDdCompressionDone s
  | ddTimeout => exact advancesTo_of_kept (kept_execDdTimeout s)
  | kum tagFault => exact advancesTo_of_kept (kept_execKum tagFault s)
  | kumCommit => exact advancesTo_of_kept (kept_execKumCommit s)
  | imageExport | slotQuery | floor | packageExport | readCert | abort =>
    exact advancesTo_of_kept (kept_kmCtrl _ _ _ s)
  | imageRestore => exact advancesTo_of_kept (kept_execImageRestore s)
  | packageImport => exact advancesTo_of_kept (kept_execPackageImport s)
  | kmDataWrite src value => exact advancesTo_of_kept (kept_execKmDataWrite src value s)
  | kmDataRead read => exact advancesTo_of_kept (kept_execKmDataRead read s)
  | maskRefresh => exact advancesTo_of_kept (kept_execMaskRefresh s)
  | attestChallenge tenant => exact advancesTo_of_kept (kept_execAttestChallenge tenant s)
  | attestSlotQuery tenant => exact advancesTo_of_kept (kept_execAttestSlotQuery tenant s)
  | trimWindowEnd source ones => exact advancesTo_of_kept (kept_execTrimWindowEnd source ones s)
  | trimTimeout source => exact advancesTo_of_kept (kept_execTrimTimeout source s)
  | repetitionCountFailure source => exact advancesTo_of_kept (kept_execRepetitionCountFailure source s)
  | adaptiveProportionWindowEnd source bits => exact advancesTo_of_kept (kept_execAdaptiveProportionWindowEnd source bits s)
  | startupComplete source => exact advancesTo_of_kept (kept_execStartupComplete source s)
  | seedReady found => exact advancesTo_execSeedReady found s
  | drbgGenerate found => exact advancesTo_of_kept (kept_execDrbgGenerate found s)
  | reseedDue => exact advancesTo_of_kept (kept_execReseedDue s)
  | reseedStall => exact advancesTo_of_kept (kept_execReseedStall s)
  | rngRequestTimeout who => exact advancesTo_of_kept (kept_execRngRequestTimeout who s)
  | restart src => exact advancesTo_of_kept (kept_execRestart src s)
  | reseed src => exact advancesTo_of_kept (kept_execReseed src s)
  | pattern src on => exact advancesTo_of_kept (kept_execPattern src on s)
  | rngSrcCfgWrite src value => exact advancesTo_of_kept (kept_execRngSrcCfgWrite src value s)
  | rngReseedWrite src value => exact advancesTo_of_kept (kept_execRngReseedWrite src value s)
  | create | change | pause | resume | remove | read | readImported =>
    exact advancesTo_of_kept (kept_callSheet _ _ _ s)
  | pauseComplete tenant => exact advancesTo_of_kept (kept_execPauseComplete tenant s)
  | startLog | swap | stopLog | query =>
    exact advancesTo_of_kept (kept_migration _ _ _ s)
  | twinCfgWrite src value => exact advancesTo_of_kept (kept_execTwinCfgWrite src value s)
  | mlPeerKeyWrite src value => exact advancesTo_of_kept (kept_execMlPeerKeyWrite src value s)
  | pairingStart => exact advancesTo_of_kept (kept_execPairingStart s)
  | ephemeralKeygenComplete => exact advancesTo_of_kept (kept_execEphemeralKeygenComplete s)
  | hello port frame bad => exact advancesTo_of_kept (kept_execHello port frame bad s)
  | linkEcdhComplete => exact advancesTo_of_kept (kept_execLinkEcdhComplete s)
  | confirmFrame port frame bad => exact advancesTo_of_kept (kept_execConfirmFrame port frame bad s)
  | confirmTimeout => exact advancesTo_of_kept (kept_execConfirmTimeout s)
  | helloRetry => exact advancesTo_of_kept (kept_execHelloRetry s)
  | sync port frame bad => exact advancesTo_of_kept (kept_execSync port frame bad s)
  | recordClose => exact advancesTo_of_kept (kept_execRecordClose s)
  | record port frame bad => exact advancesTo_of_kept (kept_execRecord port frame bad s)
  | notice port frame bad => exact advancesTo_of_kept (kept_execNotice port frame bad s)
  | partnerSilence => exact advancesTo_of_kept (kept_execPartnerSilence s)
  | mlPortUpChange port up => exact advancesTo_of_kept (kept_execMlPortUpChange port up s)
  | feedChange feedB level => exact advancesTo_of_kept (kept_execFeedChange feedB level s)
  | modeReqHold | modeReqReset | modeReqResetNoDrain | modeReqCeremony | modeReqDrowse | modeReqFactory | modeReqStruck | modeReqRetired =>
    exact advancesTo_modeReq _ _ _ _ s
  | modeReqOperational src value => exact advancesTo_execModeReqOperational src value s
  | armedLapse => exact advancesTo_of_kept (kept_execArmedLapse s)
  | drainComplete => exact advancesTo_of_kept (kept_execDrainComplete s)
  | supplyLoss sram => exact advancesTo_of_kept (kept_execSupplyLoss sram s)
  | resetInput lowNs => exact advancesTo_of_kept (kept_execResetInput lowNs s)
  | resetRelease => exact advancesTo_of_kept (kept_execResetRelease s)
  | islandStartComplete island => exact advancesTo_of_kept (kept_execIslandStartComplete island s)
  | firmwareAuthenticated block1 images => exact advancesTo_of_kept (kept_execFirmwareAuthenticated block1 images s)
  | firmwareRetry block1 images => exact advancesTo_of_kept (kept_execFirmwareRetry block1 images s)
  | selftestItemComplete item passed => exact advancesTo_execSelftestItemComplete item passed s
  | drowseWake cause => exact advancesTo_execDrowseWake cause s
  | drowseRefreshPass => exact advancesTo_of_kept (kept_execDrowseRefreshPass s)
  | gfCtrlWrite src value => exact advancesTo_of_kept (kept_execGfCtrlWrite src value s)
  | clockGateIdle island => exact advancesTo_of_kept (kept_execClockGateIdle island s)
  | powerGateIdle island => exact advancesTo_of_kept (kept_execPowerGateIdle island s)
  | domainSleepReqRise d => exact advancesTo_of_kept (kept_execDomainSleepReqRise d s)
  | domainSleepReqFall d => exact advancesTo_of_kept (kept_execDomainSleepReqFall d s)
  | vaultResponse message => exact advancesTo_execVaultResponse message s
  | vaultTimeout => exact advancesTo_of_kept (kept_execVaultTimeout s)
  | bypass => exact advancesTo_of_kept (kept_execBypass s)
  | idcode => exact advancesTo_of_kept (kept_execIdcode s)
  | samplePreload => exact advancesTo_of_kept (kept_execSamplePreload s)
  | extest => exact advancesTo_of_kept (kept_execExtest s)
  | clamp => exact advancesTo_of_kept (kept_execClamp s)
  | highz => exact advancesTo_of_kept (kept_execHighz s)
  | ababryTestInstruction => exact advancesTo_of_kept (kept_execAbabryTestInstruction s)
  | meshFault channel kind value zeroOk => exact advancesTo_execMeshFault channel kind value zeroOk s
  | meshDriftWarning channel value => exact advancesTo_of_kept (kept_execMeshDriftWarning channel value s)
  | sensorCondition sensor value zeroOk => exact advancesTo_execSensorCondition sensor value zeroOk s
  | guardRelease => exact advancesTo_of_kept (kept_execGuardRelease s)
  | strikeOutFall => exact advancesTo_of_kept (kept_execStrikeOutFall s)
  | strikeClearRepeat zeroOk => exact advancesTo_of_kept (kept_execStrikeClearRepeat zeroOk s)
  | watchdogExpiry => exact advancesTo_of_kept (kept_execWatchdogExpiry s)
  | lbSelWrite src value => exact advancesTo_of_kept (kept_execLbSelWrite src value s)
  | lbAckWrite src value => exact advancesTo_of_kept (kept_execLbAckWrite src value s)
  | checkpoint src => exact advancesTo_of_kept (kept_execCheckpoint src s)
  | meshEnrol src => exact advancesTo_of_kept (kept_execMeshEnrol src s)
  | stage src value => exact advancesTo_of_kept (kept_execStage src value s)
  | confirm src => exact advancesTo_of_kept (kept_execConfirm src s)
  | setPassword => exact advancesTo_of_kept (kept_execSetPassword s)
  | setOfficer => exact advancesTo_of_kept (kept_execSetOfficer s)
  | challenge via => exact advancesTo_of_kept (kept_execChallenge via s)
  | response via => exact advancesTo_of_kept (kept_execResponse via s)
  | challengeExpiry => exact advancesTo_of_kept (kept_execChallengeExpiry s)
  | diagOpen frame => exact advancesTo_of_kept (kept_execDiagOpen frame s)
  | consoleRead frame => exact advancesTo_of_kept (kept_execConsoleRead frame s)
  | logRead frame => exact advancesTo_of_kept (kept_execLogRead frame s)
  | close frame => exact advancesTo_of_kept (kept_execClose frame s)
  | diagSessionTimeout => exact advancesTo_of_kept (kept_execDiagSessionTimeout s)
  | diagLockoutEnd => exact advancesTo_of_kept (kept_execDiagLockoutEnd s)
  | fence src kind index => exact advancesTo_of_kept (kept_execFence src kind index s)
  | unfence src kind index passed => exact advancesTo_of_kept (kept_execUnfence src kind index passed s)
  | supplyReturn => exact advancesTo_of_kept (kept_execSupplyReturn s)
  | powerOn => exact advancesTo_execPowerOn s
  | rngOperationComplete take => exact advancesTo_of_kept (kept_execRngOperationComplete take s)
  | challengeRefusalLapse => exact advancesTo_of_kept (kept_execChallengeRefusalLapse s)
  | meshEnrolComplete means => exact advancesTo_of_kept (kept_execMeshEnrolComplete means s)

/-- Every step takes one command and advances from the state without it. -/
theorem step_advances {s t : State} (h : step s = .next t) : Advances { s with pending := s.pending.tail } t := by
  unfold step at h
  split at h
  · rename_i hempty
    obtain rfl : idleTick s = t := by injection h
    have hs : { s with pending := s.pending.tail } = s := by rw [hempty, List.tail_nil, ← hempty]
    rw [hs]
    exact advances_idleTick s
  · rename_i c rest hfront
    have hs : { s with pending := s.pending.tail } = { s with pending := rest } := by rw [hfront, List.tail_cons]
    have hc := advancesTo_exec c { s with pending := rest }
    rw [h] at hc
    rw [hs]
    exact hc

/-- Settles O58: a step advances from the state without the front of its queue, which has the same chip. -/
theorem stepKeepsFusesAndQueue : Obligations.StepKeepsFusesAndQueue := by
  unfold Obligations.StepKeepsFusesAndQueue
  intro s t h
  obtain ⟨hqueue, hfuses, _⟩ := step_advances h
  exact ⟨hqueue, hfuses⟩

/-- Settles O59: a step advances from the state without the front of its queue, which has the same always-on island. -/
theorem stepKeepsAStruckCoreEmpty : Obligations.StepKeepsAStruckCoreEmpty := by
  unfold Obligations.StepKeepsAStruckCoreEmpty
  intro s t hs h
  obtain ⟨_, _, hstruck⟩ := step_advances h
  exact hstruck hs

end Sys2Proof.Machine
end

section
/-! SUPPORT. The logbook: what loading an entry, chaining one and signing a checkpoint do (15 R422 to R425), and O9. -/

namespace Sys2Proof.Machine

/-! ### LB_SEL (R424) -/

/-- A held entry is loaded. -/
theorem lbSelSet_held {v : Word} {s : State} {p : Nat × Bytes} (h : s.log.entries.find? (fun q => q.1 = v.toNat) = some p) :
    lbSelSet v s = { s with log := { s.log with sel := v, entry := p.2 } } := by
  simp only [lbSelSet, h]

/-- Of one not held, LB_ENTRY reads zero and MISS is set. -/
theorem lbSelSet_missing {v : Word} {s : State} (h : s.log.entries.find? (fun q => q.1 = v.toNat) = none) :
    lbSelSet v s = { s with log := { s.log with sel := v, entry := zeroBytes 64, miss := true } } := by
  simp only [lbSelSet, h]

/-- The port's answer leaves the logbook as it is. -/
@[simp] theorem atPort_log (src : Source) (s : State) : (atPort src s).log = s.log := by cases src <;> rfl

theorem exec_lbSelWrite {src : Source} {s : State} (v : Word) (h : reaches src 0x07018 s = true) :
    exec (.lbSelWrite src v) s = .next (lbSelSet v (atPort src s)) :=
  congrArg Host.Outcome.next (mgrWrite_reaches src 0x07018 v (lbSelSet v) s h)

theorem exec_lbAckWrite {src : Source} {s : State} (v : Word) (h : reaches src 0x07010 s = true) :
    exec (.lbAckWrite src v) s = .next { atPort src s with log := { s.log with ack := v } } := by
  rw [← atPort_log src s]
  exact congrArg Host.Outcome.next (mgrWrite_reaches src 0x07010 v (lbAckSet v) s h)

/-! ### How an entry joins the log (R422 to R424) -/

/-- The log is full and its oldest entry is not acknowledged, so that the next entry overwrites it. -/
def overwritesNext (s : State) : Bool := 4096 ≤ s.log.entries.length && decide (s.log.ack.toNat < (s.log.entries.headD (0, [])).1)

/-- CHAIN of the next entry of a body. -/
def nextChain (body : Bytes) (s : State) : Bytes := (sha256 ((nextEntry s).2 ++ (toLe 8 (nextEntry s).1 ++ body))).take 16

/-- The entries held with the next one of a body. -/
def withEntry (body : Bytes) (s : State) : List (Nat × Bytes) :=
  (if 4096 ≤ s.log.entries.length then s.log.entries.drop 1 else s.log.entries) ++
    [((nextEntry s).1, toLe 8 (nextEntry s).1 ++ body ++ nextChain body s)]

/-- How many of them are not acknowledged. -/
def unackedWith (body : Bytes) (s : State) : Nat := ((withEntry body s).filter fun p => s.log.ack.toNat < p.1).length

/-- The logbook after an entry: the events it raises leave it as it is. -/
theorem chainEntry_log (body : Bytes) (s : State) : (chainEntry body s).log = { s.log with
    entries := withEntry body s, head := (nextEntry s).1, tail := ((withEntry body s).headD (0, [])).1, chain := nextChain body s,
    overwrote := s.log.overwrote || overwritesNext s, lost := if overwritesNext s then satInc s.log.lost else s.log.lost } := by
  simp only [chainEntry, apply_ite State.log, raise_log, ite_self]
  rfl

/-- Which events stand raised after a raise made on a condition. -/
theorem raised_raiseIf (c : Prop) [Decidable c] {n : Nat} (hn : n < 256) (e : Nat) (s : State) :
    raised (if c then raise n s else s) e = (raised s e || (decide c && decide (e = n))) := by
  split <;> simp [raised_raise, *]

/-- An entry raises 0xEB where it overwrites an unacknowledged one, 0xEA where it is the 3,072nd unacknowledged, and no other event. -/
theorem raised_chainEntry (body : Bytes) (s : State) (e : Nat) : raised (chainEntry body s) e =
    (raised s e || (overwritesNext s && decide (e = 0xEB)) || (decide (unackedWith body s = 3072) && decide (e = 0xEA))) := by
  simp only [chainEntry, raised_raiseIf _ (show 0xEA < 256 by decide), raised_raiseIf _ (show 0xEB < 256 by decide), apply_ite State.log, raise_log,
    ite_self, Bool.decide_eq_true]
  rfl

theorem overwritesNext_iff (s : State) :
    overwritesNext s = true ↔ 4096 ≤ s.log.entries.length ∧ s.log.ack.toNat < (s.log.entries.headD (0, [])).1 := by
  simp only [overwritesNext, Bool.and_eq_true, decide_eq_true_eq]

theorem overwritesNext_eq_false {s : State} (h : ¬4096 ≤ s.log.entries.length ∨ (s.log.entries.headD (0, [])).1 ≤ s.log.ack.toNat) :
    overwritesNext s = false := by
  rw [Bool.eq_false_iff, Ne, overwritesNext_iff]
  omega

/-! ### What writing an entry with its event leaves -/

section
variable {P : State → Prop} (hqueue : ∀ t q, P t → P { t with log := { t.log with queue := q } }) (hchain : ∀ b t, P t → P (chainEntry b t))
include hqueue hchain

/-- What setting the log's queue and chaining an entry keep, chaining the entries that wait keeps. -/
theorem chainQueue_keeps {s : State} (h : P s) : P (chainQueue s) := by
  unfold chainQueue
  split
  · exact List.foldlRecOn _ _ (hqueue s [] h) fun t ht b _ => hchain b t ht
  · exact h

/-- Writing an entry with its event keeps it as well. -/
theorem logEvent_keeps (code event object value extra : Nat) {s : State} (h : P s) : P (logEvent code event object value extra s) :=
  chainQueue_keeps hqueue hchain (hqueue s _ h)

end

/-- The checkpoint's outcome in a state: its signature, RESULT, and an event raised. -/
def checkpointShows (sig : Bytes) (st : Status) (e : Nat) (s : State) : Prop := s.log.sig = sig ∧ s.log.result = st ∧ raised s e = true

/-- No entry takes a checkpoint's outcome back. -/
theorem checkpointShows_chainEntry {sig : Bytes} {st : Status} {e : Nat} (body : Bytes) {s : State} (h : checkpointShows sig st e s) :
    checkpointShows sig st e (chainEntry body s) := by
  obtain ⟨hsig, hst, he⟩ := h
  simp [checkpointShows, chainEntry_log, raised_chainEntry, hsig, hst, he]

/-! ### CHECKPOINT (R425) -/

/-- A signed checkpoint has its signature in LB_SIG, RESULT 0 and event 0xEF. -/
theorem checkpointSigned_shows (drawn : Bytes) (s : State) :
    checkpointShows (idkSign s drawn (checkpointMessage s)) 0 0xEF (checkpointSigned drawn s) := by
  refine logEvent_keeps (P := checkpointShows _ 0 0xEF) (fun _ _ h => h) (fun b _ h => checkpointShows_chainEntry b h) _ _ _ _ _ ⟨?_, ?_, ?_⟩
  · rw [raise_log]; rfl
  · rw [raise_log]; rfl
  · exact raised_raise_self 0xEF _ (by decide)

/-- It changes the logbook and the events alone. -/
theorem checkpointSigned_frame (drawn : Bytes) (s : State) : checkpointSigned drawn s = withLog s (checkpointSigned drawn s) :=
  withLog_trans rfl (raiseLog_frame 0xEF 0x0090 s.log.head 0 0 _)

/-- Work that reaches a unit changes the islands' records alone. -/
theorem touchIsland_frame (kind i : Nat) (s : State) : touchIsland kind i s = withIslands s (touchIsland kind i s) := by
  unfold touchIsland queueIsland
  simp only []
  split
  · rfl
  · split <;> rfl

/-- An operation under the IDK for which none waits is done at once where a shielded core is free. -/
theorem underIdk_free (j : IdkJob) (run : State → State) {s : State} (hidk : s.units.idk = []) (hfree : shieldedFree s) :
    ∃ i, underIdk j run s = run (touchIsland 5 i s) := by
  obtain ⟨k, hk, hready⟩ := hfree
  obtain ⟨i, hi⟩ := Option.isSome_iff_exists.1 (List.find?_isSome.2 ⟨k, hk, hready⟩)
  exact ⟨i, by simp [underIdk, hidk, onShielded, hi]⟩

/-- Random bytes that are there, and for which nobody waits, are given at once. -/
theorem askRandom_served (who : Asker) {n : Nat} {s : State} (hwaiting : s.rng.waiting = []) (hserves : rngServes s = true)
    (hn : n ≤ s.rng.buffer.length) : askRandom who n false s = .ok (some (s.rng.buffer.take n), (takeBuffer n s).2) := by
  have hready : s.rng.state = .ready := of_decide_eq_true hserves
  simp [askRandom, rngFailed, hserves, hready, hwaiting, hn, takeBuffer]

/-- With the lock open, CHECKPOINT written starts one where none is in progress, and closes the lock. -/
theorem exec_checkpoint {src : Source} {s : State} (h : reaches src 0x07028 s = true) (hlock : lockOpen src s = true)
    (hbusy : checkpointBusy s = false) : exec (.checkpoint src) s = .next (setLock src none (checkpointStart (atPort src s))) := by
  have hidle : checkpointBusy (atPort src s) = false := by cases src <;> exact hbusy
  have hone : bits 0 8 (1 : Word) = 1 := by decide
  show Host.Outcome.next (mgrWrite src 0x07028 1 (lbCmdWrite src 1) s) = _
  rw [mgrWrite_reaches src 0x07028 1 _ s h, lbCmdWrite, guarded_open src _ _ _ _ _ (by rw [lockOpen_atPort, hlock])]
  simp only [id, hone, hidle, decide_true, Bool.not_false, Bool.and_true, if_true]

/-- The random bytes a checkpoint draws. -/
def checkpointDraw (s : State) : Bytes := s.rng.buffer.take (scalarBytes p384)

/-- A checkpoint that finds random bytes and a shielded core is signed at once. -/
theorem checkpointStart_signs {s : State} (hmode : checkpointMode s.modes.mode = true) (hwaiting : s.rng.waiting = [])
    (hserves : rngServes s = true) (hn : scalarBytes p384 ≤ s.rng.buffer.length) (hidk : s.units.idk = []) (hfree : shieldedFree s) :
    ∃ i, checkpointStart s = checkpointSigned (checkpointDraw s) (touchIsland 5 i (takeBuffer (scalarBytes p384) s).2) := by
  obtain ⟨i, hi⟩ := underIdk_free (.checkpoint (checkpointDraw s)) (checkpointSigned (checkpointDraw s))
    (s := (takeBuffer (scalarBytes p384) s).2) hidk hfree
  refine ⟨i, hi ▸ ?_⟩
  simp only [checkpointStart, hmode, askRandom_served .checkpoint hwaiting hserves hn, checkpointReady, checkpointDraw, Bool.not_true,
    Bool.false_eq_true, if_false]

section
variable (src : Source) (s : State) (i : Nat)

/-- The state in which a checkpoint is signed: the port has answered, the bytes are drawn, and a core's island is at work. -/
def signingState : State := touchIsland 5 i (takeBuffer (scalarBytes p384) (atPort src s)).2

theorem signingState_frame : signingState src s i = { s with
    regs := (atPort src s).regs, rng := { s.rng with buffer := s.rng.buffer.drop (scalarBytes p384) },
    gaffer := { s.gaffer with islands := (signingState src s i).gaffer.islands } } := by
  rw [signingState, touchIsland_frame]
  cases src <;> rfl

/-- What a checkpoint signs, and the key it signs with, are those before the write. -/
theorem idkSign_signingState (drawn : Bytes) :
    idkSign (signingState src s i) drawn (checkpointMessage (signingState src s i)) = idkSign s drawn (checkpointMessage s) := by
  rw [signingState_frame]
  cases src <;> rfl

/-- The state after the checkpoint: it is signed, and the lock is closed. -/
def checkpointed : State := setLock src none (checkpointSigned (checkpointDraw s) (signingState src s i))

/-- It has the signature over the log's head in LB_SIG, RESULT 0 and event 0xEF. -/
theorem checkpointed_shows : checkpointShows (idkSign s (checkpointDraw s) (checkpointMessage s)) 0 0xEF (checkpointed src s i) := by
  rw [← idkSign_signingState src s i]
  simpa only [checkpointShows, checkpointed, setLock_log, raised, setLock_events] using
    checkpointSigned_shows (checkpointDraw s) (signingState src s i)

theorem checkpointed_buffer : (checkpointed src s i).rng.buffer = s.rng.buffer.drop (scalarBytes p384) := by
  rw [checkpointed, setLock_rng, checkpointSigned_frame, signingState_frame]
  rfl

/-- The lock, the RNG, the logbook, the events and the islands' records alone have changed. -/
theorem checkpointed_frame : checkpointed src s i = { s with
    regs := (setLock src none (atPort src s)).regs, rng := (checkpointed src s i).rng, log := (checkpointed src s i).log,
    events := (checkpointed src s i).events, ao := { s.ao with lastEntry := (checkpointed src s i).ao.lastEntry },
    gaffer := { s.gaffer with islands := (checkpointed src s i).gaffer.islands } } := by
  rw [checkpointed, checkpointSigned_frame, signingState_frame]
  cases src <;> rfl

end

/-- CHECKPOINT with all it needs is signed at once: the model draws the per-signature value as the command starts (log 61), and the operation
occupies its core for no time (log 75). -/
theorem exec_checkpoint_signs {src : Source} {s : State} (h : reaches src 0x07028 s = true) (hlock : lockOpen src s = true)
    (hmode : checkpointMode s.modes.mode = true) (hbusy : checkpointBusy s = false) (hwaiting : s.rng.waiting = [])
    (hserves : rngServes s = true) (hn : scalarBytes p384 ≤ s.rng.buffer.length) (hidk : s.units.idk = []) (hfree : shieldedFree s) :
    ∃ i, exec (.checkpoint src) s = .next (checkpointed src s i) := by
  obtain ⟨i, hi⟩ : ∃ i, checkpointStart (atPort src s) = checkpointSigned (checkpointDraw s) (signingState src s i) := by
    cases src <;> exact checkpointStart_signs hmode hwaiting hserves hn hidk hfree
  exact ⟨i, by rw [exec_checkpoint h hlock hbusy, hi, checkpointed]⟩

/-! ### The obligation -/

/-- Settles O9: the two registers take what is written, a checkpoint with all it needs is signed at once (the model's logs 61 and 75), and an
entry changes the log as `chainEntry_log` and `raised_chainEntry` say. -/
theorem logbookCommands : Obligations.LogbookCommands := by
  unfold Obligations.LogbookCommands
  refine ⟨fun src v s => ⟨fun h => ⟨_, exec_lbSelWrite v h, ?_⟩, exec_lbAckWrite v⟩, ?_, ?_⟩
  · cases hfind : s.log.entries.find? (fun q => q.1 = v.toNat) with
    | some p =>
      rw [lbSelSet_held (by rw [atPort_log, hfind]), atPort_log]
      simp
    | none =>
      rw [lbSelSet_missing (by rw [atPort_log, hfind]), atPort_log]
      simp
  · intro src s h hlock hmode hbusy hwaiting hserves hn hidk hfree
    obtain ⟨i, hi⟩ := exec_checkpoint_signs h hlock hmode hbusy hwaiting hserves hn hidk hfree
    obtain ⟨hsig, hresult, hraised⟩ := checkpointed_shows src s i
    exact ⟨_, hi, hresult, hraised, lockOpen_setLock_none _ _, hsig, checkpointed_buffer src s i, checkpointed_frame src s i⟩
  · intro body s n t full oldest
    have hlog := chainEntry_log body s
    have hraised := raised_chainEntry body s
    refine ⟨by rw [hlog], ?_, by rw [hlog]; rfl, fun hfull hold => ?_, fun h => ?_, fun h => ?_, ?_⟩
    · rw [hlog, List.append_assoc]; rfl
    · have hover := (overwritesNext_iff s).2 ⟨hfull, hold⟩
      rw [hlog, hraised]; simp [hover]
    · have hover := overwritesNext_eq_false h
      rw [hlog, hraised]; simp [hover]
    · rw [hlog] at h
      have hunacked : unackedWith body s = 3072 := h
      rw [hraised, hunacked]; simp
    · exact chainEntry_frame body s

end Sys2Proof.Machine
end
